-- ==== Sys2Proof/Word.lean ====
section
/-! DEFINITION. The word types of the GX-64: a cell byte, a 16-bit field or count, a 32-bit count. -/

namespace Sys2Proof

/-- One byte of a cell, of the status table or of the gantry line. -/
abbrev Byte := BitVec 8

/-- A 16-bit field: a reference, a check, a sequence, a 16-bit count. -/
abbrev Half := BitVec 16

/-- A 32-bit count. -/
abbrev Long := BitVec 32

end Sys2Proof
end

