-- ==== Sys2Proof/Config.lean ====
section
/-! DEFINITION. The free values: what the spec does not state. Each is an uninterpreted constant applied to
the counter `State.freeUses`, so that no proof can lean on a value of it (log 9, 10, 11). -/

namespace Sys2Proof.Config

/-- A status-table byte that shows something absent, for which the spec states no value (log 9). -/
opaque freeByte : Nat → Byte

/-- A choice of two outcomes that the spec leaves open (log 10, 11). -/
opaque freeBool : Nat → Bool

end Sys2Proof.Config
end

