-- ==== Sys2Proof/Syntax.lean ====
section
/-! DEFINITION. The commands of the GX-64, one constructor per row of spec/opcode_table.json, and the types
of their operands: sides, ports, lines, strap levels, cells and call identities. -/

namespace Sys2Proof

/-- A side of the node (R1, R3). -/
inductive Side where
  | up
  | down
deriving DecidableEq, Repr

/-- A physical span port (R2). -/
inductive Port where
  | sp1
  | sp2
deriving DecidableEq, Repr

/-- A phone line, PL0 or PL1. -/
inductive Line where
  | line0
  | line1
deriving DecidableEq, Repr

/-- The level read at a strap pin (chapter 01, Strap pins). -/
inductive Level where
  | gnd
  | lowR
  | openPin
  | vcc
deriving DecidableEq, Repr

/-- The eleven strap pins (R10, R11). -/
structure Straps where
  stn3 : Level
  stn2 : Level
  stn1 : Level
  stn0 : Level
  role : Level
  flip : Level
  fit1 : Level
  fit0 : Level
  wl1 : Level
  wl0 : Level
  signMode : Level
deriving DecidableEq, Repr

/-- The grade of a call. -/
inductive Grade where
  | breakdown
  | accident
deriving DecidableEq, Repr

/-- The identity of a call attempt: calling station, phone, serial (R81). -/
structure Identity where
  station : Byte
  phone : Line
  serial : BitVec 4
deriving DecidableEq, Repr

/-- The cell kinds of the kind table (chapter 01). -/
inductive Kind where
  | hello
  | hold
  | resume
  | dozeReq
  | dozeAck
  | wakeAck
  | beacon
  | callSetup
  | callAccept
  | callRefuse
  | callRelease
  | callBroken
  | callUpgrade
  | voice
  | tollRecord
  | tollAck
  | signWindow
  | signPixels
  | signShow
  | signClear
  | signDim
  | signReply
  | weatherReport
  | weatherPoll
  | nodeQuery
  | nodeStatus
deriving DecidableEq, Repr

/-- The five SIGN commands (R130). -/
inductive SignCommand where
  | window
  | pixels
  | showPage
  | clear
  | dim
deriving DecidableEq, Repr

/-- Bytes 1 to 61 of a cell: everything but its kind and its check (chapter 01, Cell layout). -/
structure CellData where
  hops : Byte
  origin : Byte
  target : Byte
  reference : Half
  aux6 : Byte
  aux7 : Byte
  length : Byte
  flags : Byte
  payload : List Byte
deriving DecidableEq, Repr

/-- A cell of a kind of the kind table. -/
structure Cell extends CellData where
  kind : Kind
deriving DecidableEq, Repr

/-- A cell whose kind byte may be no code of the kind table, as the office may send it (R187). -/
structure RawCell extends CellData where
  code : Byte
deriving DecidableEq, Repr

/-- The commands. Each constructor is the row of the opcode table that LAWS.json names for it. -/
inductive Instr where
  | resetAssert
  | mainSupplyFall
  | vretLoss
  | resetEnd (straps : Straps)
  | darkPeriodEnd
  | lightFound (p : Port)
  | lightDisappears (p : Port)
  | lightReturns (p : Port)
  | lossDebounceExpiry (p : Port)
  | lockGained (p : Port)
  | markerWatchExpiry (p : Port)
  | badCheckCell (p : Port)
  | malformedCell (p : Port)
  | hello (p : Port) (c : CellData)
  | helloPeriod (p : Port)
  | helloWatchExpiry (p : Port)
  | idleTimerExpiry (p : Port)
  | dozeRetryExpiry (p : Port)
  | dozeReq (p : Port) (c : CellData)
  | dozeAck (p : Port) (c : CellData)
  | answerWindowExpiry (p : Port)
  | wakeTimerExpiry (p : Port)
  | wakeBurst (p : Port)
  | wakeAck (p : Port) (c : CellData)
  | hold (p : Port) (c : CellData)
  | resume (p : Port) (c : CellData)
  | holdExpiry (d : Side)
  | holdRepeatExpiry (d : Side)
  | beacon (p : Port) (c : CellData)
  | reachLapse (d : Side)
  | transmitSlot (p : Port)
  | transmissionComplete (p : Port)
  | callSetup (p : Port) (c : CellData)
  | callAccept (p : Port) (c : CellData)
  | callRefuse (p : Port) (c : CellData)
  | callRelease (p : Port) (c : CellData)
  | callBroken (p : Port) (c : CellData)
  | callUpgrade (p : Port) (c : CellData)
  | voice (p : Port) (c : CellData)
  | tollRecord (p : Port) (c : CellData)
  | tollAck (p : Port) (c : CellData)
  | signCommandConsumed (p : Port) (k : SignCommand) (c : CellData)
  | signReply (p : Port) (c : CellData)
  | weatherReport (p : Port) (c : CellData)
  | nodeStatus (p : Port) (c : CellData)
  | weatherPoll (p : Port) (c : CellData)
  | nodeQuery (p : Port) (c : CellData)
  | hookOffHook (l : Line)
  | hookOnHook (l : Line)
  | offhookDebounceExpiry (l : Line)
  | onhookDebounceExpiry (l : Line)
  | keyClose (l : Line)
  | keyOpen (l : Line) (closedUs : Nat)
  | keyStuck (l : Line)
  | voicePackPeriod (l : Line) (samples : List Byte)
  | playoutPeriod (l : Line)
  | setupTimerExpiry (l : Line)
  | callRetryTimerExpiry (l : Line)
  | originVoiceWatchExpiry (l : Line)
  | pathEntryTimerExpiry (id : Identity)
  | staleAnswerHoldExpiry (l : Line)
  | gatewayVoiceWatchExpiry (id : Identity)
  | localVoiceWatchExpiry (l : Line)
  | characterReceived (value : Byte) (parityBit : Bool) (stopBit : Bool)
  | breakDetected
  | breakEnd
  | assemblerTakeCharacter
  | storeWriteComplete
  | transmitControlCharacter
  | dispatchTimerExpiry
  | custodyRetryExpiry (sequence : Half)
  | signWindow
  | signPixels
  | pixelWrite
  | signShow
  | signClear
  | signDim
  | hazardHoldExpiry
  | refreshBoundary
  | rowPeriod
  | brightnessSlew
  | sweepStart
  | settleExpiry
  | endOfConversion (result : BitVec 12)
  | windPulse
  | windWindowStart
  | rainTip
  | intervalTimerStop
  | surfaceRaceStart
  | referenceOverflow (surface : Half)
  | surfaceOverflow
  | reportPeriodEnd
  | beaconPeriod
  | toOfficeTransferStart (ordy : Bool)
  | toOfficeTransferComplete
  | fromOfficeTransferStart
  | fromOfficeTransferComplete (c : RawCell) (check : Half)
  | officeSignOrReportCell
  | officeVoice
  | officeCallRelease
  | officeCellRejected
  | officeOfferRetry
  | pointerWrite (value : Byte)
  | counterClear
  | ignoredWriteByte (value : Byte)
  | statusByteRead
deriving DecidableEq, Repr

end Sys2Proof
end

