-- ==== Sys2Proof/Decode.lean ====
section
/-! DEFINITION. What a word of bits spells: nothing. No row of the opcode table gives bits, so no word is a command and
every command comes from outside with its operands (log 32). -/

namespace Sys2Proof

/-- The command that a word of `nbits` bits spells: none, since no row of the table gives bits. -/
def decodeTableWord (_nbits _w : Nat) : Option Instr := none

end Sys2Proof
end

