-- ==== Sys2Proof/Machine/Constants.lean ====
section
/-! DEFINITION. The numbers the spec fixes: durations in milliseconds, capacities, floors, thresholds, the wind
limit table and the ambient light bands. -/

namespace Sys2Proof.Machine

/-- R16: the dark period. -/
def darkPeriodMs : Nat := 50
/-- R19: the loss debounce. -/
def lossDebounceMs : Nat := 10
/-- R23: the HELLO period in SEEK. -/
def helloSeekMs : Nat := 100
/-- R23: the HELLO period in service and in FAULT. -/
def helloServiceMs : Nat := 1000
/-- R26: the HELLO watch. -/
def helloWatchMs : Nat := 3000
/-- R28: the idle time that the doze condition needs. -/
def idleMs : Nat := 5000
/-- R29: the doze retry timer. -/
def dozeRetryMs : Nat := 5000
/-- R31: the wake timer. -/
def wakeTimerMs : Nat := 20
/-- R31: the answer window of one wake burst. -/
def answerWindowMs : Nat := 2
/-- R31: the slots of a wake burst. -/
def burstSlots : Nat := 16
/-- R20: consecutive bad cells that lose lock. -/
def lockLossRun : Nat := 8
/-- R18: in DOZE one slot in this many goes out empty. -/
def dozeSlots : Nat := 10
/-- R36: the buffers of the Cell Pool. -/
def poolBuffers : Nat := 512
/-- R38: the CALL floor. -/
def callFloor : Nat := 16
/-- R38: the data floor. -/
def dataFloor : Nat := 64
/-- R40: the hops at which a cell is dropped. -/
def hopLimit : Byte := 63
/-- R41: the capacity of TQ-CALL. -/
def tqCallCapacity : Nat := 32
/-- R51: the TQ-DATA depth at which HOLD is sent. -/
def holdDepth : Nat := 96
/-- R53: the TQ-DATA depth at which RESUME is sent. -/
def resumeDepth : Nat := 32
/-- R51: the hold repeat timer. -/
def holdRepeatMs : Nat := 100
/-- R54: the hold expiry. -/
def holdExpiryMs : Nat := 500
/-- R49: the fairness count at which a local data cell is sent. -/
def fairnessMax : Nat := 4
/-- R64: the age at which a VALID entry lapses. -/
def reachLapseMs : Nat := 600
/-- R75, R76: the hook debounce. -/
def hookDebounceMs : Nat := 200
/-- R77: the shortest closed time that grades, in microseconds. -/
def keyShortUs : Nat := 300000
/-- R77: the longest closed time that grades, in microseconds. -/
def keyLongUs : Nat := 3000000
/-- R78: the closed time that sets KEY-STUCK. -/
def keyStuckMs : Nat := 3000
/-- R79, R80: the voice periods. -/
def voicePeriodMs : Nat := 4
/-- R79: the samples of a VOICE payload. -/
def voiceSamples : Nat := 32
/-- R80: the capacity of a playout buffer. -/
def playoutCapacity : Nat := 4
/-- R81: the setup timer. -/
def setupMs : Nat := 2000
/-- R81: the retry timer of a WAITING record. -/
def callRetryMs : Nat := 3000
/-- R88: the hold on stale answers. -/
def staleHoldMs : Nat := 500
/-- R89: the entry timer. -/
def entryTimerMs : Nat := 3000
/-- R89: the capacity of a Span Reservation Table. -/
def srtCapacity : Nat := 8
/-- R103: the capacity of the receive FIFO. -/
def fifoCapacity : Nat := 64
/-- R110: the answer places. -/
def answerPlaces : Nat := 7
/-- R113: the capacity of the custody store. -/
def storeCapacity : Nat := 256
/-- R115: the most entries in flight. -/
def inFlightMax : Nat := 16
/-- R111: the free count at or below which the flow stops. -/
def flowStopFree : Nat := 16
/-- R111: the free count at or above which the flow runs again. -/
def flowRunFree : Nat := 48
/-- R117: the same-direction attempts that allow a switch. -/
def switchAttempts : Nat := 4
/-- R118: the dispatch timer. -/
def dispatchMs : Nat := 100
/-- R120: the custody retry timer. -/
def custodyRetryMs : Nat := 1000
/-- R139: the hazard hold. -/
def hazardHoldMs : Nat := 600000
/-- R148: the slew period. -/
def slewMs : Nat := 125
/-- R144: frames of a flash cycle, and the frames of it that are shown. -/
def flashCycle : Nat := 100
def flashShown : Nat := 50
/-- R147: the AUTO target without an ambient light average. -/
def autoFallback : Byte := 192
/-- R152: the periods of the WSU. -/
def sweepMs : Nat := 1000
def windowMs : Nat := 3000
def raceMs : Nat := 5000
def reportMs : Nat := 10000
/-- R153: the settle of a selected channel. -/
def settleMs : Nat := 2
/-- R156: the capacity of a channel ring. -/
def ringCapacity : Nat := 10
/-- R162: the windows of the wind memory. -/
def windMemoryCapacity : Nat := 20
/-- R164: the count at which the interval timer stops. -/
def intervalMax : Nat := 65535
/-- R164: the milliseconds of one interval tick. -/
def intervalTickMs : Nat := 10
/-- R165: the value the reference counter is loaded with. -/
def referenceLoad : Half := 55536
/-- R167: the surface count at and above which the road is dry. -/
def dryCount : Nat := 4000
/-- R167: the AN2 code of 0 degrees. -/
def freezingCode : Nat := 1365
/-- R175: the beacon period. -/
def beaconMs : Nat := 200
/-- R180: the office channels. -/
def officeChannels : Nat := 32
/-- R185, R186, R187: the capacity of each office queue. -/
def officeCapacity : Nat := 32
/-- Chapter 01: the ANY-GATEWAY and ALL targets. -/
def anyGateway : Byte := 254
def allStations : Byte := 255

/-- R14: the gust limit L of a wind limit setting, floor (1.25 x km/h) with km/h = 50 + 5 x setting. -/
def gustLimit (setting : Nat) : Nat := 5 * (50 + 5 * setting) / 4

/-- R147: the AUTO target of an AN4 average code. -/
def autoBand (code : Nat) : Byte :=
  if code < 512 then 24
  else if code < 1024 then 48
  else if code < 1536 then 80
  else if code < 2048 then 112
  else if code < 2560 then 144
  else if code < 3072 then 184
  else if code < 3584 then 224
  else 255

end Sys2Proof.Machine
end

