-- ==== Sys2Proof/Machine/Straps.lean ====
section
/-! DEFINITION. The strap latch: what the eleven strap levels decode to (R2, R3, R11, R12, R14). The latched levels are
state; station, role, sides, fitted set, wind limit and strap status are functions of them (log 26). -/

namespace Sys2Proof.Machine

/-- The role of a node (R11). -/
inductive Role where
  | node
  | gatewayU
  | gatewayD
  | repeater
deriving DecidableEq, Repr

/-- The value of a level (chapter 01, Strap pins). -/
def levelValue : Level → Nat
  | .gnd => 0
  | .lowR => 1
  | .openPin => 2
  | .vcc => 3

/-- The code of a role in HELLO, the ROLE strap and the status table. -/
def roleCode : Role → Byte
  | .node => 0
  | .gatewayU => 1
  | .gatewayD => 2
  | .repeater => 3

/-- The role that a code names; a HELLO with a code above 3 names none (R24). -/
def roleOfCode? (b : Byte) : Option Role :=
  if b = 0 then some .node
  else if b = 1 then some .gatewayU
  else if b = 2 then some .gatewayD
  else if b = 3 then some .repeater
  else none

/-- Whether a role is one of the two gateway roles. -/
def roleIsGateway : Role → Bool
  | .gatewayU => true
  | .gatewayD => true
  | .node => false
  | .repeater => false

/-- The side that is not the given one. -/
def otherSide : Side → Side
  | .up => .down
  | .down => .up

/-- R11: the decoded station, 0 to 255. -/
def strapStation (k : Straps) : Byte :=
  BitVec.ofNat 8 (64 * levelValue k.stn3 + 16 * levelValue k.stn2 + 4 * levelValue k.stn1 + levelValue k.stn0)

/-- R11: the role. -/
def strapRole (k : Straps) : Role :=
  match k.role with
  | .gnd => .node
  | .lowR => .gatewayU
  | .openPin => .gatewayD
  | .vcc => .repeater

/-- R12: STATION-RANGE. -/
def stationRangeFault (k : Straps) : Bool :=
  strapStation k == 0 || 250 < (strapStation k).toNat

/-- R12: FLIP-LEVEL. -/
def flipLevelFault (k : Straps) : Bool :=
  k.flip == .lowR || k.flip == .openPin

/-- R12: REPEATER-STATION. -/
def repeaterStationFault (k : Straps) : Bool :=
  strapRole k == .repeater && strapStation k == 1

/-- R12: the strap status is FAULT. -/
def strapFault (k : Straps) : Bool :=
  stationRangeFault k || flipLevelFault k || repeaterStationFault k

/-- R2: the side that a port serves. At a FLIP level that is a strap fault no port is used (R13). -/
def strapSide (k : Straps) (p : Port) : Side :=
  match p, k.flip with
  | .sp1, .vcc => .down
  | .sp1, _ => .up
  | .sp2, .vcc => .up
  | .sp2, _ => .down

/-- R2: the port that serves a side. -/
def strapPort (k : Straps) (d : Side) : Port :=
  match d, k.flip with
  | .up, .vcc => .sp2
  | .up, _ => .sp1
  | .down, .vcc => .sp1
  | .down, _ => .sp2

/-- R3: whether the role puts a side in use; a gateway's outer side is not. -/
def strapSideInUse (k : Straps) (d : Side) : Bool :=
  match strapRole k, d with
  | .gatewayU, .up => false
  | .gatewayD, .down => false
  | _, _ => true

/-- Chapter 09: the inner side of a gateway. -/
def strapInner (k : Straps) : Side :=
  match strapRole k with
  | .gatewayD => .up
  | _ => .down

/-- Bit 1 of a FIT strap's value. -/
def fitHigh (l : Level) : Bool := l == .openPin || l == .vcc

/-- Bit 0 of a FIT strap's value. -/
def fitLow (l : Level) : Bool := l == .lowR || l == .vcc

/-- R11: the effective fitted set; a REPEATER has no job and a gateway no gantry. -/
def phonesFitted (k : Straps) : Bool := strapRole k != .repeater && fitHigh k.fit1
def gantryFitted (k : Straps) : Bool := strapRole k == .node && fitLow k.fit1
def signFitted (k : Straps) : Bool := strapRole k != .repeater && fitHigh k.fit0
def weatherFitted (k : Straps) : Bool := strapRole k != .repeater && fitLow k.fit0

/-- R11, R137: INCIDENT is raised where SIGNMODE is 1 or 3 and the sign job is fitted. -/
def incidentAllowed (k : Straps) : Bool :=
  signFitted k && (k.signMode == .lowR || k.signMode == .vcc)

/-- R138: the HAZARD source is enabled where the weather job is fitted and SIGNMODE is 2 or 3. -/
def hazardEnabled (k : Straps) : Bool :=
  weatherFitted k && (k.signMode == .openPin || k.signMode == .vcc)

/-- R11: the wind limit setting. -/
def windSetting (k : Straps) : Nat := 4 * levelValue k.wl1 + levelValue k.wl0

/-- R14: the gust limit L and the preload 256 - L. -/
def strapGustLimit (k : Straps) : Nat := gustLimit (windSetting k)
def strapPreload (k : Straps) : Nat := 256 - strapGustLimit k

end Sys2Proof.Machine
end

