-- ==== Sys2Proof/Machine/State.lean ====
section
/-! DEFINITION. The state of the GX-64 as plain data: every piece of state chapters 01 to 10 name, the queue of pending
commands, and State.reset. Field defaults are the values after POWER-ON. INVENTORY.md lists each piece with its rule. -/

namespace Sys2Proof.Machine

/-- No command of this model stops with a fault: the spec describes none (log 33). The type has no constructor, so that
an outcome `fault` cannot be built. -/
inductive Fault where
deriving DecidableEq, Repr

/-- Why a command is refused. -/
inductive Refusal where
  /-- Raised by `exec` alone, for a command that has no meaning yet. Safe: nothing is claimed of it. -/
  | notModelled (mnemonic : String)
deriving DecidableEq, Repr

/-- A timer: stopped, or running with the milliseconds that remain (log 2). -/
abbrev Timer := Option Nat

/-- One value per side. -/
structure Sides (α : Type) where
  up : α
  down : α
deriving DecidableEq, Repr

/-- One value per port. -/
structure Ports (α : Type) where
  sp1 : α
  sp2 : α
deriving DecidableEq, Repr

/-- One value per phone line. -/
structure Lines (α : Type) where
  line0 : α
  line1 : α
deriving DecidableEq, Repr

/-! ## Power (R15, R16) -/

/-- The supplies, the RESET pin and what is known of the reset in progress (R15). -/
structure Power where
  supplyUp : Bool := true
  resetLow : Bool := false
  powerOnDue : Bool := false
  retentionLost : Bool := false
deriving DecidableEq, Repr

/-! ## Span ports (R18 to R35) -/

/-- R18: the six states of a span port, in the order of the table. -/
inductive PortState where
  | dark
  | seek
  | up
  | doze
  | waking
  | fault
deriving DecidableEq, Repr

/-- R24: why a port is in FAULT. -/
inductive PortFault where
  | duplicate
  | misordered
deriving DecidableEq, Repr

/-- R23: the station and role last taken from a valid HELLO. -/
structure Neighbour where
  station : Byte
  role : Role
deriving DecidableEq, Repr

/-- The queue that a cell in transmission came from (R22, R48, R50). -/
inductive Source where
  | portSlot
  | linkIns
  | beaconSlot
  | tqCall
  | callIns
  | tqData
  | tollIns
  | signIns
  | reportIns
deriving DecidableEq, Repr

/-- R50: a cell in transmission. -/
structure Sending where
  cell : Cell
  source : Source
deriving DecidableEq, Repr

/-- What the transmitter puts on the fibre in the slot last begun (R5, R18): nothing with the transmitter off, no slot,
an empty slot, a wake marker with an empty fill, or a cell with its check. -/
inductive Wire where
  | off
  | silent
  | emptySlot
  | wakeMarker
  | cell (c : Cell) (check : Half)
deriving DecidableEq, Repr

/-- R35: the counts of a port. -/
structure PortCounts where
  cellsIn : Long := 0
  cellsOut : Long := 0
  checkErrors : Half := 0
  malformed : Half := 0
  notInService : Half := 0
  lightLosses : Half := 0
  lockLosses : Half := 0
  helloTimeouts : Half := 0
  neighbourChanges : Half := 0
  faultEntries : Half := 0
  dozeEntries : Half := 0
  wakeFailures : Half := 0
  portUps : Half := 0
  portDowns : Half := 0
deriving DecidableEq, Repr

/-- One span port (R18 to R35). The doze request is outstanding exactly while `dozeRetry` runs (log 26); `idle` at
`some 0` has reached 5 s. `receive` is the receive register of R40, empty between commands (log 45). -/
structure PortUnit where
  state : PortState := .dark
  light : Bool := false
  lock : Bool := false
  badRun : Nat := 0
  markerRun : Nat := 0
  neighbour : Option Neighbour := none
  faultReason : Option PortFault := none
  slotHello : Option Cell := none
  slotDozeReq : Option Cell := none
  slotDozeAck : Option Cell := none
  slotWakeAck : Option Cell := none
  lossDebounce : Timer := none
  helloPeriod : Timer := none
  helloWatch : Timer := none
  idle : Timer := none
  dozeRetry : Timer := none
  wakeTimer : Timer := none
  answerWindow : Timer := none
  burstLeft : Nat := 0
  dozeSlot : Nat := 0
  receive : Option Cell := none
  sending : Option Sending := none
  wire : Wire := .off
  counts : PortCounts := {}
deriving DecidableEq, Repr

/-! ## Cell Pool and TIU (R36 to R59) -/

/-- R58: the counts kept per node. -/
structure NodeCounts where
  transitDrop : Long := 0
  hopLimit : Half := 0
  undelivered : Long := 0
  noConsumer : Half := 0
  poolRefusedCall : Half := 0
  poolRefusedToll : Half := 0
  poolRefusedSign : Half := 0
  poolRefusedReport : Half := 0
  noSideCall : Half := 0
  noSideToll : Half := 0
  noSideSign : Half := 0
  noSideReport : Half := 0
deriving DecidableEq, Repr

/-- R58: the counts kept per side. -/
structure SideCounts where
  queueRefusedLink : Half := 0
  queueRefusedCall : Half := 0
  queueRefusedToll : Half := 0
  queueRefusedSign : Half := 0
  queueRefusedReport : Half := 0
  callQueueFull : Half := 0
  voiceUnreserved : Half := 0
  beaconReplaced : Half := 0
  flushed : Long := 0
  holdsSent : Half := 0
  resumesSent : Half := 0
  holdsTaken : Half := 0
  resumesTaken : Half := 0
  holdExpiries : Half := 0
deriving DecidableEq, Repr

/-- The Transit and Insertion Unit of one side. The side is held exactly while `holdExpiry` runs, and hold-sent is set
exactly while `holdRepeat` runs (R51 to R55, log 26). -/
structure Tiu where
  tqCall : List Cell := []
  tqData : List Cell := []
  insLink : List Cell := []
  insCall : List Cell := []
  insToll : List Cell := []
  insSign : List Cell := []
  insReport : List Cell := []
  beaconSlot : Option Cell := none
  holdExpiry : Timer := none
  holdRepeat : Timer := none
  fairness : Nat := 0
  counts : SideCounts := {}
deriving DecidableEq, Repr

/-! ## Reach Table (R60 to R73) -/

/-- R72: the counts of one side's entry. -/
structure ReachCounts where
  beaconsTaken : Long := 0
  beaconStale : Half := 0
  beaconMismarked : Half := 0
  reachLapses : Half := 0
  reachChanges : Half := 0
deriving DecidableEq, Repr

/-- R60: one entry of the Reach Table. `held` is content HELD. -/
structure ReachEntry where
  held : Bool := false
  gateway : Byte := 0
  hops : Byte := 0
  sequence : Half := 0
  age : Half := 0
  valid : Bool := false
  counts : ReachCounts := {}
deriving DecidableEq, Repr

/-! ## Call circuits (R74 to R101) -/

/-- R89: the node's place on a call. -/
inductive EntryEnd where
  | origin
  | path
  | gateway
deriving DecidableEq, Repr

/-- R89: which end of the call lies beyond the side. -/
inductive Faces where
  | gateway
  | origin
deriving DecidableEq, Repr

/-- R89: one entry of a Span Reservation Table. `held` is state HELD, otherwise PENDING. -/
structure SrtEntry where
  identity : Identity
  grade : Grade
  held : Bool
  place : EntryEnd
  faces : Faces
  timer : Timer
deriving DecidableEq, Repr

/-- R74: the five states of a phone line. -/
inductive LineState where
  | idle
  | offhookCheck
  | calling
  | talk
  | cleared
deriving DecidableEq, Repr

/-- R81: the states of a Call Record. -/
inductive RecordState where
  | reroute
  | seeking
  | connected
  | waiting
deriving DecidableEq, Repr

/-- R81: a Call Record. Its phone is the line that holds it. -/
structure CallRecord where
  identity : Option Identity := none
  grade : Grade := .breakdown
  state : RecordState := .reroute
  direction : Option Side := none
  triedUp : Bool := false
  triedDown : Bool := false
  timer : Timer := none
deriving DecidableEq, Repr

/-- R74, R80: what a line plays to the handset. -/
inductive Playing where
  | nothing
  | holdTone
  | busyTone
  | silence
  | samples (bytes : List Byte)
deriving DecidableEq, Repr

/-- R100: the counts of one line. -/
structure LineCounts where
  callAttempts : Half := 0
  callsConnected : Half := 0
  voiceDropped : Half := 0
  playoutOverflow : Half := 0
  playoutUnderrun : Half := 0
  keyStuckEvents : Half := 0
  staleAnswered : Half := 0
deriving DecidableEq, Repr

/-- One phone line with its Call Record (R74 to R88). `offHook` and `keyClosed` are the levels at the pins. -/
structure PhoneLine where
  state : LineState := .idle
  offHook : Bool := false
  keyClosed : Bool := false
  hookDebounce : Timer := none
  keyMeasuring : Bool := false
  keyTimer : Timer := none
  keyStuck : Bool := false
  record : Option CallRecord := none
  nextSerial : BitVec 4 := 0
  staleHold : Timer := none
  playout : List (List Byte) := []
  packPeriod : Timer := none
  playPeriod : Timer := none
  playing : Playing := .nothing
  counts : LineCounts := {}
deriving DecidableEq, Repr

/-- R100: the counts of the CCU kept per reason and per node. -/
structure CcuCounts where
  refusesSpanFull : Half := 0
  refusesOfficeFull : Half := 0
  refusesNoRoute : Half := 0
  refusesDuplicate : Half := 0
  brokenSpanLost : Half := 0
  brokenPreempted : Half := 0
  brokenLost : Half := 0
  preemptions : Half := 0
  pendingExpiries : Half := 0
  voiceWatchExpiries : Half := 0
  upgradeDropped : Half := 0
  callMisdirected : Half := 0
  controlRefused : Half := 0
deriving DecidableEq, Repr

/-! ## Gantry line and custody (R102 to R127) -/

/-- R103: one place of the receive FIFO. -/
structure FifoChar where
  value : Byte
  parity : Bool
  framing : Bool
  brk : Bool
  overrun : Bool
deriving DecidableEq, Repr

/-- R110: the answers to the reader. -/
inductive Answer where
  | ack
  | nak
deriving DecidableEq, Repr

/-- R110: the flow characters. -/
inductive FlowChar where
  | xon
  | xoff
deriving DecidableEq, Repr

/-- R105: the record assembler. In ASSEMBLE the next position is one more than the characters held. -/
inductive Assembler where
  | hunt
  | assemble (partialRecord : List Byte) (damaged : Bool)
  | write (body : List Byte)
deriving DecidableEq, Repr

/-- R127: the counts of the GLI. -/
structure GliCounts where
  charsReceived : Long := 0
  parityErrors : Half := 0
  framingErrors : Half := 0
  breaks : Half := 0
  overruns : Half := 0
  recordsTruncated : Half := 0
  recordsBroken : Half := 0
  recordsDamaged : Half := 0
  recordsFull : Half := 0
  sequenceHeld : Half := 0
  acksSent : Half := 0
  naksSent : Half := 0
  xonsSent : Half := 0
  xoffsSent : Half := 0
deriving DecidableEq, Repr

/-- The Gantry Line Interface (R102 to R112). -/
structure Gli where
  fifo : List FifoChar := []
  lossPending : Bool := false
  lineBreak : Bool := false
  assembler : Assembler := .hunt
  heldAnswer : Option Answer := none
  flowPlace : Option FlowChar := none
  answers : List Answer := []
  flowStopped : Bool := false
  txChar : Option Byte := none
  counts : GliCounts := {}
deriving DecidableEq, Repr

/-- R115: the state of a custody entry; a DISPATCHING entry carries its dispatch side. -/
inductive CustodyState where
  | queued
  | dispatching (d : Side)
  | sent
deriving DecidableEq, Repr

/-- R113: one entry of the custody store. `ageMs` is the part of a second of its age (log 24). -/
structure CustodyEntry where
  sequence : Half
  body : List Byte
  state : CustodyState := .queued
  attempts : Nat := 0
  sameDirection : Nat := 0
  lastDirection : Option Side := none
  age : Half := 0
  ageMs : Nat := 0
  retry : Timer := none
deriving DecidableEq, Repr

/-- R127: the counts of the CSD. -/
structure CsdCounts where
  recordsStored : Long := 0
  tollDispatches : Long := 0
  dispatchRefused : Half := 0
  retryExpiries : Half := 0
  directionSwitches : Half := 0
  portWithdrawals : Half := 0
  acksTaken : Long := 0
  lateAck : Half := 0
deriving DecidableEq, Repr

/-- The Custody Store and Dispatcher (R113 to R124). -/
structure Csd where
  store : List CustodyEntry := []
  nextSeq : Half := 0
  dispatchTimer : Timer := none
  counts : CsdCounts := {}
deriving DecidableEq, Repr

/-! ## Sign (R128 to R151) -/

/-- The four pages as an addressed memory: pixel number and value, rising numbers, no value 0 (R129). -/
abbrev Memory := List Host.Cell

/-- R136: the page a present REMOTE holds. -/
inductive RemotePage where
  | page0
  | page1
  | noPage
deriving DecidableEq, Repr

/-- R146: the dim mode, FIXED with the level last set. -/
inductive DimMode where
  | fixed (level : Byte)
  | auto
deriving DecidableEq, Repr

/-- R150: the counts of the SPS. -/
structure SpsCounts where
  signCommands : Half := 0
  pixelsWritten : Long := 0
  badWindow : Half := 0
  shown : Half := 0
  active : Half := 0
  badPage : Half := 0
  repliesLost : Half := 0
  incidentRaises : Half := 0
  hazardRaises : Half := 0
  hazardExpiries : Half := 0
  pageChanges : Half := 0
deriving DecidableEq, Repr

/-- R130: a SIGN command waiting in consumption, with its arrival side; a command handed over by the Gateway Unit has
none. -/
structure SignTask where
  cell : Cell
  side : Option Side
deriving DecidableEq, Repr

/-- The Sign Page Store and Scan (R128 to R151). `job` is the count of pixels written by the SIGN-PIXELS at the head of
`waiting`. A page is its number, and `scanned = none` is BLANK. -/
structure Sps where
  pages : Memory := []
  winPage : Nat := 0
  c0 : Nat := 0
  c1 : Nat := 127
  r0 : Nat := 0
  r1 : Nat := 31
  curCol : Nat := 0
  curRow : Nat := 0
  waiting : List SignTask := []
  job : Option Nat := none
  incident : Bool := false
  hazard : Bool := false
  remote : Option RemotePage := none
  reasonsActive : Bool := false
  hazardHold : Timer := none
  scanned : Option Nat := none
  flash : Option Nat := none
  dim : DimMode := .auto
  autoTarget : Byte := autoFallback
  level : Byte := 0
  slewPeriod : Timer := none
  nextRow : Nat := 0
  rowAddr : Nat := 0
  drivers : List (BitVec 2) := []
  duty1 : Nat := 0
  duty2 : Nat := 0
  duty3 : Nat := 0
  counts : SpsCounts := {}
deriving DecidableEq, Repr

/-! ## Weather (R152 to R174) -/

/-- R153: the converter, with the channel selected, 1 to 12. -/
inductive Converter where
  | idle
  | settling (channel : Nat)
  | converting (channel : Nat)
deriving DecidableEq, Repr

/-- R155: the kinds of a faulted sample. -/
inductive SampleFault where
  | openLead
  | short
deriving DecidableEq, Repr

/-- R156, R157: one analog channel. The newest sample stands last in the ring. -/
structure Channel where
  ring : List (BitVec 12) := []
  fault : Bool := false
  faultedRun : Nat := 0
  validRun : Nat := 0
  lastFault : Option SampleFault := none
  faultEntries : Half := 0
deriving DecidableEq, Repr

/-- R164: the interval timer; RUNNING holds its ticks and the milliseconds since the last tick. -/
inductive Interval where
  | unarmed
  | running (ticks : Nat) (subMs : Nat)
  | stopped
deriving DecidableEq, Repr

/-- R166: the result and flag of the latest race. -/
inductive RaceResult where
  | count (c : Half)
  | stopped
  | fast
deriving DecidableEq, Repr

/-- R167: the road state. -/
inductive Road where
  | dry
  | wet
  | ice
  | unknown
deriving DecidableEq, Repr

/-- R173: the counts of the WSU, but for FAULT-ENTRIES, which each channel keeps. -/
structure WsuCounts where
  sweeps : Long := 0
  sweepsSkipped : Half := 0
  faultedSamples : Half := 0
  windows : Long := 0
  gusts : Half := 0
  tips : Long := 0
  noRainStops : Half := 0
  races : Half := 0
  racesFast : Half := 0
  racesStopped : Half := 0
  hazardOnsets : Half := 0
  reportsSent : Half := 0
  reportsNoReach : Half := 0
  reportsRefused : Half := 0
  pollsAnswered : Half := 0
  pollAnswersLost : Half := 0
deriving DecidableEq, Repr

/-- The Weather Sampling Unit (R152 to R174). -/
structure Wsu where
  converter : Converter := .idle
  settle : Timer := none
  sweepPeriod : Timer := none
  windowPeriod : Timer := none
  racePeriod : Timer := none
  reportPeriod : Timer := none
  channels : List Channel := List.replicate 12 {}
  windCounter : Byte := 0
  overflows : Byte := 0
  gustMark : Bool := false
  windMemory : List Bool := []
  latestWindow : Half := 0
  periodMax : Option Half := none
  gustDir : Option Nat := none
  periodGusts : Byte := 0
  tips : Half := 0
  interval : Interval := .unarmed
  lastInterval : Option Half := none
  racing : Bool := false
  refCounter : Half := 0
  surfCounter : Half := 0
  race : Option RaceResult := none
  road : Road := .unknown
  reportNumber : Half := 0
  counts : WsuCounts := {}
deriving DecidableEq, Repr

/-! ## Gateway Unit and Office Link (R175 to R190) -/

/-- R176: an Acceptance Table entry that is not EMPTY. Flag i is bit i. -/
structure Acceptance where
  station : Byte
  base : Half
  flags : BitVec 32
deriving DecidableEq, Repr

/-- R180: an office channel. -/
inductive OfficeChannel where
  | free
  | chain (id : Identity) (grade : Grade)
  | localCall (id : Identity) (grade : Grade) (watch : Timer)
deriving DecidableEq, Repr

/-- R185: the transfer from the office in progress: its place kept, or an overrun to be discarded. -/
inductive Inbound where
  | kept
  | overrun
deriving DecidableEq, Repr

/-- R189: the counts of the Gateway Unit and the Office Link. -/
structure GatewayCounts where
  beaconsMade : Long := 0
  beaconsRefused : Half := 0
  tollPassed : Long := 0
  tollDuplicates : Half := 0
  tollOfficeFull : Half := 0
  windowSlides : Half := 0
  windowSkipped : Half := 0
  tollAcksMade : Long := 0
  tollAcksLost : Half := 0
  callsTerminated : Half := 0
  noticesLost : Half := 0
  voiceNoChannel : Half := 0
  toOfficeDroppedCall : Half := 0
  toOfficeDroppedSign : Half := 0
  toOfficeDroppedReport : Half := 0
  cellsToOffice : Long := 0
  cellsFromOffice : Long := 0
  officeCheckErrors : Half := 0
  officeOverruns : Half := 0
  officeRejected : Half := 0
  officeUndelivered : Half := 0
deriving DecidableEq, Repr

/-- The Gateway Unit and the Office Link (R175 to R190). The cells of `toOffice` carry their office channel in the hops
byte, as they stand on the link (R185). -/
structure Gateway where
  beaconSeq : Half := 0
  beaconPeriod : Timer := none
  acceptance : List Acceptance := []
  channels : List OfficeChannel := List.replicate officeChannels .free
  toOffice : List Cell := []
  toTransfer : Option Half := none
  fromOffice : List RawCell := []
  fromTransfer : Option Inbound := none
  headOffered : Bool := false
  headHandedOver : Bool := false
  ordy : Bool := false
  counts : GatewayCounts := {}
deriving DecidableEq, Repr

/-! ## Maintenance Port (R191 to R199) -/

/-- R193: the read latch: the offset of the next byte and the bytes that remain. -/
structure ReadLatch where
  nextOffset : Byte
  bytes : List Byte
deriving DecidableEq, Repr

/-- The Maintenance Port (R191 to R199). -/
structure Maint where
  readPtr : Byte := 0
  latch : Option ReadLatch := none
  bank : Nat := 0
  justSet : Bool := false
  driven : Option Byte := none
  queriesAnswered : Half := 0
  queryAnswersLost : Half := 0
deriving DecidableEq, Repr

/-! ## The state -/

/-- The whole state of the node and the queue of commands that wait. -/
structure State where
  pending : List Instr
  power : Power
  straps : Straps
  powerOnCount : Half
  dark : Timer
  ports : Ports PortUnit
  inHand : Nat
  node : NodeCounts
  tiu : Sides Tiu
  reach : Sides ReachEntry
  srt : Sides (List SrtEntry)
  lines : Lines PhoneLine
  ccu : CcuCounts
  gli : Gli
  csd : Csd
  sps : Sps
  wsu : Wsu
  gw : Gateway
  maint : Maint
  freeUses : Nat
deriving DecidableEq, Repr

/-- The board of the worked example of chapter 01 (station 45, NODE, SP1 DOWNROAD, phones, sign and weather fitted, wind
limit setting 6, SIGNMODE 3): the strap levels State.reset has read (DESIGN CHOICE, log 3). -/
def exampleStraps : Straps :=
  { stn3 := .gnd, stn2 := .openPin, stn1 := .vcc, stn0 := .lowR, role := .gnd, flip := .vcc,
    fit1 := .openPin, fit0 := .vcc, wl1 := .lowR, wl0 := .openPin, signMode := .vcc }

/-- The machine right after a POWER-ON with that board, retention memory having lost its content (R16, R17): the dark
period runs, the sign frame and slew and the weather periods have begun at step 4, and the wind counter holds its preload
(R35, R59, R73, R101, R125, R126, R151, R174, R190, R199). -/
def State.reset : State :=
  { pending := []
    power := {}
    straps := exampleStraps
    powerOnCount := 1
    dark := some darkPeriodMs
    ports := { sp1 := {}, sp2 := {} }
    inHand := 0
    node := {}
    tiu := { up := {}, down := {} }
    reach := { up := {}, down := {} }
    srt := { up := [], down := [] }
    lines := { line0 := {}, line1 := {} }
    ccu := {}
    gli := {}
    csd := {}
    sps := { slewPeriod := some slewMs }
    wsu := { sweepPeriod := some 0, windowPeriod := some windowMs, racePeriod := some 0, reportPeriod := some reportMs,
             windCounter := BitVec.ofNat 8 (strapPreload exampleStraps) }
    gw := {}
    maint := {}
    freeUses := 0 }

end Sys2Proof.Machine
end

