-- ==== Sys2Proof/Machine/Access.lean ====
section
/-! DEFINITION. Named access to the parts of State: one side, one port, one line, and the saturating counts. -/

namespace Sys2Proof.Machine

/-! ## Containers -/

def Sides.get {α : Type} (x : Sides α) : Side → α
  | .up => x.up
  | .down => x.down

def Sides.set {α : Type} (x : Sides α) (d : Side) (v : α) : Sides α :=
  match d with
  | .up => { x with up := v }
  | .down => { x with down := v }

def Ports.get {α : Type} (x : Ports α) : Port → α
  | .sp1 => x.sp1
  | .sp2 => x.sp2

def Ports.set {α : Type} (x : Ports α) (p : Port) (v : α) : Ports α :=
  match p with
  | .sp1 => { x with sp1 := v }
  | .sp2 => { x with sp2 := v }

def Lines.get {α : Type} (x : Lines α) : Line → α
  | .line0 => x.line0
  | .line1 => x.line1

def Lines.set {α : Type} (x : Lines α) (l : Line) (v : α) : Lines α :=
  match l with
  | .line0 => { x with line0 := v }
  | .line1 => { x with line1 := v }

/-! ## Counts -/

/-- A count kept for the status table saturates at its largest value (chapter 00, Saturation). -/
def satInc {w : Nat} (x : BitVec w) : BitVec w := if x = BitVec.allOnes w then x else x + 1

/-- A saturating count raised by `k` at once. -/
def satAdd {w : Nat} (x : BitVec w) (k : Nat) : BitVec w := BitVec.ofNat w (min (x.toNat + k) (2 ^ w - 1))

/-! ## Sides, ports and lines of State -/

def State.sideOf (s : State) (p : Port) : Side := strapSide s.straps p
def State.portOf (s : State) (d : Side) : Port := strapPort s.straps d
def State.station (s : State) : Byte := strapStation s.straps
def State.role (s : State) : Role := strapRole s.straps
def State.isGateway (s : State) : Bool := roleIsGateway (strapRole s.straps)
def State.inner (s : State) : Side := strapInner s.straps

def State.port (s : State) (p : Port) : PortUnit := s.ports.get p
def State.setPort (s : State) (p : Port) (u : PortUnit) : State := { s with ports := s.ports.set p u }
def State.sidePort (s : State) (d : Side) : PortUnit := s.port (s.portOf d)

def State.side (s : State) (d : Side) : Tiu := s.tiu.get d
def State.setSide (s : State) (d : Side) (t : Tiu) : State := { s with tiu := s.tiu.set d t }

def State.entry (s : State) (d : Side) : ReachEntry := s.reach.get d
def State.setEntry (s : State) (d : Side) (e : ReachEntry) : State := { s with reach := s.reach.set d e }

def State.table (s : State) (d : Side) : List SrtEntry := s.srt.get d
def State.setTable (s : State) (d : Side) (t : List SrtEntry) : State := { s with srt := s.srt.set d t }

def State.line (s : State) (l : Line) : PhoneLine := s.lines.get l
def State.setLine (s : State) (l : Line) (x : PhoneLine) : State := { s with lines := s.lines.set l x }

/-- Raise counts of a port. -/
def State.countPort (s : State) (p : Port) (f : PortCounts → PortCounts) : State :=
  s.setPort p { s.port p with counts := f (s.port p).counts }

/-- Raise counts of the TIU of a side. -/
def State.countSide (s : State) (d : Side) (f : SideCounts → SideCounts) : State :=
  s.setSide d { s.side d with counts := f (s.side d).counts }

/-- Raise counts of a Reach Table entry. -/
def State.countEntry (s : State) (d : Side) (f : ReachCounts → ReachCounts) : State :=
  s.setEntry d { s.entry d with counts := f (s.entry d).counts }

/-- Raise counts of a line. -/
def State.countLine (s : State) (l : Line) (f : LineCounts → LineCounts) : State :=
  s.setLine l { s.line l with counts := f (s.line l).counts }

/-- Raise counts of the node's pool and TIUs, of the CCU, of the CSD, of the GLI, of the SPS, of the WSU and of the
Gateway Unit. -/
def State.countNode (s : State) (f : NodeCounts → NodeCounts) : State := { s with node := f s.node }
def State.countCcu (s : State) (f : CcuCounts → CcuCounts) : State := { s with ccu := f s.ccu }
def State.countCsd (s : State) (f : CsdCounts → CsdCounts) : State := { s with csd := { s.csd with counts := f s.csd.counts } }
def State.countGli (s : State) (f : GliCounts → GliCounts) : State := { s with gli := { s.gli with counts := f s.gli.counts } }
def State.countSps (s : State) (f : SpsCounts → SpsCounts) : State := { s with sps := { s.sps with counts := f s.sps.counts } }
def State.countWsu (s : State) (f : WsuCounts → WsuCounts) : State := { s with wsu := { s.wsu with counts := f s.wsu.counts } }
def State.countGw (s : State) (f : GatewayCounts → GatewayCounts) : State := { s with gw := { s.gw with counts := f s.gw.counts } }

/-! ## When the node acts -/

/-- The main supply is up and RESET is high: the part is out of reset (R15, R16). -/
def State.running (s : State) : Bool := s.power.supplyUp && !s.power.resetLow

/-- The node is past step 4 of start-up, not held in STRAP-FAULT (R13, R16). -/
def State.live (s : State) : Bool := s.running && !strapFault s.straps

/-- The port is one of a side its role uses, in a node that acts (R3, R13). -/
def State.portLive (s : State) (p : Port) : Bool := s.live && strapSideInUse s.straps (s.sideOf p)

/-- R18: the port follows its state machine: the dark period is over too. -/
def State.portFree (s : State) (p : Port) : Bool := s.portLive p && s.dark.isNone

end Sys2Proof.Machine
end

