-- ==== Sys2Proof/Machine/Operands.lean ====
section
/-! DEFINITION. Cells: kind codes and classes, the header test, the fields by kind, making a cell, and the check. -/

namespace Sys2Proof.Machine

/-! ## Kinds (chapter 01, kind table) -/

/-- The class of a cell. -/
inductive Class where
  | link
  | call
  | toll
  | sign
  | report
deriving DecidableEq, Repr

def kindCode : Kind → Byte
  | .hello => 0x01
  | .hold => 0x02
  | .resume => 0x03
  | .dozeReq => 0x04
  | .dozeAck => 0x05
  | .wakeAck => 0x06
  | .beacon => 0x07
  | .callSetup => 0x10
  | .callAccept => 0x11
  | .callRefuse => 0x12
  | .callRelease => 0x13
  | .callBroken => 0x14
  | .callUpgrade => 0x15
  | .voice => 0x16
  | .tollRecord => 0x20
  | .tollAck => 0x21
  | .signWindow => 0x30
  | .signPixels => 0x31
  | .signShow => 0x32
  | .signClear => 0x33
  | .signDim => 0x34
  | .signReply => 0x35
  | .weatherReport => 0x40
  | .weatherPoll => 0x41
  | .nodeQuery => 0x42
  | .nodeStatus => 0x43

/-- Every kind of the kind table. -/
def allKinds : List Kind :=
  [.hello, .hold, .resume, .dozeReq, .dozeAck, .wakeAck, .beacon, .callSetup, .callAccept, .callRefuse, .callRelease,
   .callBroken, .callUpgrade, .voice, .tollRecord, .tollAck, .signWindow, .signPixels, .signShow, .signClear, .signDim,
   .signReply, .weatherReport, .weatherPoll, .nodeQuery, .nodeStatus]

/-- The kind that a code names. -/
def kindOfCode? (b : Byte) : Option Kind := allKinds.find? (fun k => kindCode k == b)

/-- R6: the class of a kind, the high digit of its code. -/
def kindClass : Kind → Class
  | .hello | .hold | .resume | .dozeReq | .dozeAck | .wakeAck | .beacon => .link
  | .callSetup | .callAccept | .callRefuse | .callRelease | .callBroken | .callUpgrade | .voice => .call
  | .tollRecord | .tollAck => .toll
  | .signWindow | .signPixels | .signShow | .signClear | .signDim | .signReply => .sign
  | .weatherReport | .weatherPoll | .nodeQuery | .nodeStatus => .report

/-- The class of a cell. -/
def cellClass (c : Cell) : Class := kindClass c.kind

/-- The cell of a kind with the given fields. -/
def cellOf (k : Kind) (c : CellData) : Cell := { c with kind := k }

/-- The kind of a SIGN command (R130). -/
def signKind : SignCommand → Kind
  | .window => .signWindow
  | .pixels => .signPixels
  | .showPage => .signShow
  | .clear => .signClear
  | .dim => .signDim

/-! ## The header test (R6) -/

/-- A station number of a node, 1 to 250. -/
def isStation (b : Byte) : Bool := b != 0 && decide (b.toNat ≤ 250)

/-- R6: the kinds that may be targeted ALL. -/
def allowsAll (k : Kind) : Bool :=
  kindClass k == .link || (kindClass k == .sign && k != .signReply) || k == .weatherPoll || k == .nodeQuery

/-- R6: the kinds that may not be targeted ANY-GATEWAY. -/
def refusesAnyGateway (k : Kind) : Bool :=
  k == .callAccept || k == .callRefuse || k == .tollAck || k == .signReply || k == .nodeStatus

/-- R6: a cell with a good check and a kind of the table passes the header test. -/
def headerOk (c : Cell) : Bool :=
  isStation c.origin
  && (isStation c.target || c.target == anyGateway || c.target == allStations)
  && (c.target != allStations || allowsAll c.kind)
  && (c.target != anyGateway || !refusesAnyGateway c.kind)
  && decide (c.length.toNat ≤ 52)
  && decide (c.hops.toNat ≤ 63)

/-! ## Fields by kind -/

/-- Payload byte `i`; bytes from the length onward are disregarded and read as zero (R4, log 18). -/
def payloadByte (c : CellData) (i : Nat) : Byte := if i < c.length.toNat then c.payload.getD i 0 else 0

/-- The first `n` payload bytes. -/
def payloadBytes (c : CellData) (n : Nat) : List Byte := (List.range n).map (payloadByte c)

/-- Flags bit 0, START; bit 1, beacon-side mark; bit 2, RETRY (R4). -/
def startFlag (c : CellData) : Bool := c.flags.getLsbD 0
def beaconMark (c : CellData) : Bool := c.flags.getLsbD 1

/-- The number of a phone. -/
def lineCode : Line → Nat
  | .line0 => 0
  | .line1 => 1

/-- The call identity in a reference field: byte 4 calling station, byte 5 bit 4 phone, bits 3 to 0 serial; bits 7 to 5
are disregarded (log 17). -/
def identityOf (r : Half) : Identity :=
  { station := r.extractLsb' 8 8
    phone := if r.getLsbD 4 then .line1 else .line0
    serial := r.extractLsb' 0 4 }

/-- The reference field of a call identity. -/
def referenceOf (id : Identity) : Half :=
  BitVec.ofNat 16 (256 * id.station.toNat + 16 * lineCode id.phone + id.serial.toNat)

/-- The call a CALL cell names. -/
def callOf (c : CellData) : Identity := identityOf c.reference

/-- Aux byte 6 of the CALL kinds: 1 ACCIDENT, otherwise BREAKDOWN (log 17). -/
def gradeOf (b : Byte) : Grade := if b = 1 then .accident else .breakdown

def gradeCode : Grade → Byte
  | .breakdown => 0
  | .accident => 1

/-- The reasons of CALL-REFUSE. -/
inductive RefuseReason where
  | spanFull
  | officeFull
  | noRoute
  | duplicate
deriving DecidableEq, Repr

/-- The reasons of CALL-BROKEN. -/
inductive BrokenReason where
  | spanLost
  | preempted
  | lost
deriving DecidableEq, Repr

/-- The reason codes (chapter 01). -/
def refuseCode : RefuseReason → Byte
  | .spanFull => 1
  | .officeFull => 2
  | .noRoute => 3
  | .duplicate => 4

def brokenCode : BrokenReason → Byte
  | .spanLost => 5
  | .preempted => 6
  | .lost => 7

/-! ## Making a cell (R4) -/

/-- R4: a cell made by station `origin`: hops 0, length the bytes of its payload. -/
def makeCell (origin : Byte) (k : Kind) (target : Byte) (reference : Half) (aux6 aux7 flags : Byte)
    (payload : List Byte) : Cell :=
  { kind := k, hops := 0, origin := origin, target := target, reference := reference, aux6 := aux6, aux7 := aux7,
    length := BitVec.ofNat 8 payload.length, flags := flags, payload := payload }

/-- R4: a LINK cell without fields, targeted ALL. -/
def linkCell (origin : Byte) (k : Kind) : Cell := makeCell origin k allStations 0 0 0 0 []

/-- R99: a CALL cell without payload. -/
def callCell (origin : Byte) (k : Kind) (target : Byte) (id : Identity) (grade reason : Byte) : Cell :=
  makeCell origin k target (referenceOf id) grade reason 0 []

/-- R4: a cell forwarded: hops raised by one, every other byte as received. -/
def hopped (c : Cell) : Cell := { c with hops := c.hops + 1 }

/-- The two bytes of a 16-bit field, most significant first. -/
def halfBytes (h : Half) : List Byte := [h.extractLsb' 8 8, h.extractLsb' 0 8]

/-- The four bytes of a 32-bit field, most significant first. -/
def longBytes (x : Long) : List Byte :=
  [x.extractLsb' 24 8, x.extractLsb' 16 8, x.extractLsb' 8 8, x.extractLsb' 0 8]

/-! ## The check (R5) -/

/-- Bytes 0 to 61 of a cell whose kind byte is `code`. -/
def headerAndPayload (code : Byte) (c : CellData) : List Byte :=
  [code, c.hops, c.origin, c.target] ++ halfBytes c.reference ++ [c.aux6, c.aux7, c.length, c.flags]
    ++ (c.payload ++ List.replicate 52 0).take 52

/-- R5: one shift of the CRC register, generator x^16 + x^12 + x^5 + 1. -/
def crcShift (r : Nat) : Nat := if r < 0x8000 then 2 * r else (2 * r - 0x10000) ^^^ 0x1021

/-- R5: one byte, most significant bit first. -/
def crcByte (r : Nat) (b : Byte) : Nat :=
  crcShift (crcShift (crcShift (crcShift (crcShift (crcShift (crcShift (crcShift (r ^^^ (b.toNat * 256)))))))))

/-- R5: the CRC of a list of bytes, register preset to 0xFFFF, no final inversion. -/
def crc (bytes : List Byte) : Nat := bytes.foldl crcByte 0xFFFF

/-- R5: the check field of a cell whose kind byte is `code`. -/
def checkOf (code : Byte) (c : CellData) : Half := BitVec.ofNat 16 (crc (headerAndPayload code c))

/-- R5: the check field of a cell as it leaves a transmitter. -/
def cellCheck (c : Cell) : Half := checkOf (kindCode c.kind) c.toCellData

end Sys2Proof.Machine
end

