-- ==== Sys2Proof/Machine/Flags.lean ====
section
/-! DEFINITION. Conditions that are functions of the state: a side in service, a call reserved, the pool's free count,
the doze condition, the nearer gateway (log 26). -/

namespace Sys2Proof.Machine

/-! ## Ports and sides -/

/-- R18: the in-service states. -/
def inServiceState : PortState → Bool
  | .up | .doze | .waking => true
  | .dark | .seek | .fault => false

/-- R18: the side's port is in service. -/
def State.inService (s : State) (d : Side) : Bool := inServiceState (s.sidePort d).state

/-- R44: the side's table holds a HELD entry for the call. -/
def heldIn (table : List SrtEntry) (id : Identity) : Bool := table.any (fun e => e.identity == id && e.held)

/-- R44: a VOICE cell whose call has no HELD entry in the table. -/
def unreserved (table : List SrtEntry) (c : Cell) : Bool := c.kind == .voice && !heldIn table (callOf c.toCellData)

/-- Whether a table has an entry of the call. -/
def namesCall (table : List SrtEntry) (id : Identity) : Bool := table.any (fun e => e.identity == id)

/-! ## The Cell Pool (R36) -/

/-- Whether cells from a queue hold a pool buffer: not those of the port LINK slots and the LINK insertion queue. -/
def pooled : Source → Bool
  | .portSlot | .linkIns => false
  | .beaconSlot | .tqCall | .callIns | .tqData | .tollIns | .signIns | .reportIns => true

/-- Buffers held by a cell in transmission. -/
def sendingHeld : Option Sending → Nat
  | some x => if pooled x.source then 1 else 0
  | none => 0

/-- Buffers held in the queues of one side. -/
def tiuHeld (t : Tiu) : Nat :=
  t.tqCall.length + t.tqData.length + t.insCall.length + t.insToll.length + t.insSign.length + t.insReport.length
    + (if t.beaconSlot.isSome then 1 else 0)

/-- R36: the buffers held. -/
def State.poolHeld (s : State) : Nat :=
  s.inHand + tiuHeld s.tiu.up + tiuHeld s.tiu.down + sendingHeld s.ports.sp1.sending + sendingHeld s.ports.sp2.sending
    + s.sps.waiting.length + s.gw.toOffice.length

/-- R36: the free count. -/
def State.poolFree (s : State) : Nat := poolBuffers - s.poolHeld

/-- R38: the free count that a local cell of the class needs. -/
def classFloor : Class → Nat
  | .call => callFloor
  | .link | .toll | .sign | .report => dataFloor

/-! ## Doze (R28) -/

/-- The TIU holds no CALL, TOLL, SIGN or REPORT cell in any of its queues. -/
def tiuQuiet (t : Tiu) : Bool :=
  t.tqCall.isEmpty && t.tqData.isEmpty && t.insCall.isEmpty && t.insToll.isEmpty && t.insSign.isEmpty && t.insReport.isEmpty

/-- R28: the doze condition of a port. -/
def State.dozeCondition (s : State) (p : Port) : Bool :=
  (s.port p).state == .up && (s.port p).idle == some 0 && (s.table (s.sideOf p)).isEmpty && tiuQuiet (s.side (s.sideOf p))

/-! ## Direction (R67) -/

/-- R67: the answer to NEAREST. -/
def State.nearest (s : State) : Option Side :=
  match s.reach.up.valid, s.reach.down.valid with
  | true, true => if s.reach.down.hops.toNat < s.reach.up.hops.toNat then some .down else some .up
  | true, false => some .up
  | false, true => some .down
  | false, false => none

/-- R67: the answer to NEAREST excluding a side: the other side where its entry is VALID. -/
def State.nearestExcluding (s : State) (d : Side) : Option Side :=
  if (s.entry (otherSide d)).valid then some (otherSide d) else none

end Sys2Proof.Machine
end

