-- ==== Sys2Proof/Machine/Ops.lean ====
section
/-! DEFINITION. The operations shared by the blocks: waking a port, offers to the insertion queues, transit placing,
back-pressure, withdrawal, flush, the transmitter's choice, the doze request, and the memory of the sign pages. -/

namespace Sys2Proof.Machine

/-! ## Port LINK slots (R22) -/

/-- R22: the port cells that a state may send; `lock` is whether lock is held. -/
def maySend (st : PortState) (lock : Bool) (k : Kind) : Bool :=
  match k with
  | .hello => inServiceState st || st == .fault || (st == .seek && lock)
  | .dozeReq => st == .up
  | .dozeAck => st == .up || st == .doze
  | .wakeAck => inServiceState st
  | _ => false

/-- A waiting port cell that may not be sent in the state is discarded. -/
def keepSlot (st : PortState) (lock : Bool) (slot : Option Cell) : Option Cell :=
  match slot with
  | some c => if maySend st lock c.kind then some c else none
  | none => none

/-- R22: a change of port state, with its waiting port cells sifted. -/
def enterState (u : PortUnit) (st : PortState) : PortUnit :=
  { u with
    state := st
    slotHello := keepSlot st u.lock u.slotHello
    slotDozeReq := keepSlot st u.lock u.slotDozeReq
    slotDozeAck := keepSlot st u.lock u.slotDozeAck
    slotWakeAck := keepSlot st u.lock u.slotWakeAck }

/-- R23: the HELLO of a port. -/
def helloCell (s : State) (u : PortUnit) : Cell :=
  makeCell s.station .hello allStations 0 0 0 0
    [roleCode s.role, match u.neighbour with | some n => n.station | none => 0]

/-- R22, R23: a HELLO placed in the slot. -/
def placeHello (s : State) (u : PortUnit) : PortUnit := { u with slotHello := some (helloCell s u) }

/-- R31: a port enters WAKING: the burst at the next slot, the wake timer and the answer window. -/
def enterWaking (u : PortUnit) : PortUnit :=
  { enterState u .waking with
    idle := none, dozeRetry := none, burstLeft := burstSlots, wakeTimer := some wakeTimerMs, answerWindow := some answerWindowMs }

/-- R31: the port of a dozing side wakes. -/
def wakeSide (s : State) (d : Side) : State :=
  if (s.sidePort d).state == .doze then s.setPort (s.portOf d) (enterWaking (s.sidePort d)) else s

/-! ## Insertion (R45) -/

/-- R45: the answer to an offer. -/
inductive OfferAnswer where
  | taken
  | noSide
  | queueFull
  | voiceUnreserved
  | pool
deriving DecidableEq, Repr

/-- R45: the insertion queue of a class. -/
def insQueue (t : Tiu) : Class → List Cell
  | .link => t.insLink
  | .call => t.insCall
  | .toll => t.insToll
  | .sign => t.insSign
  | .report => t.insReport

/-- R45: the capacity of an insertion queue. -/
def insCapacity : Class → Nat
  | .link => 8
  | .call => 16
  | .toll => 16
  | .sign => 8
  | .report => 4

/-- R45: a cell placed at the tail of the insertion queue of its class. -/
def insPush (t : Tiu) (c : Cell) : Tiu :=
  match cellClass c with
  | .link => { t with insLink := t.insLink ++ [c] }
  | .call => { t with insCall := t.insCall ++ [c] }
  | .toll => { t with insToll := t.insToll ++ [c] }
  | .sign => { t with insSign := t.insSign ++ [c] }
  | .report => { t with insReport := t.insReport ++ [c] }

/-- R45: the tests of an offer to side `d`, the first that fails decides. -/
def offerAnswer (s : State) (d : Side) (c : Cell) : OfferAnswer :=
  if !s.inService d then .noSide
  else if insCapacity (cellClass c) ≤ (insQueue (s.side d) (cellClass c)).length then .queueFull
  else if unreserved (s.table d) c then .voiceUnreserved
  else if cellClass c == .link || decide (classFloor (cellClass c) ≤ s.poolFree) then .taken
  else .pool

/-- R58: NO-SIDE by class. -/
def countNoSide (n : NodeCounts) : Class → NodeCounts
  | .link => n
  | .call => { n with noSideCall := satInc n.noSideCall }
  | .toll => { n with noSideToll := satInc n.noSideToll }
  | .sign => { n with noSideSign := satInc n.noSideSign }
  | .report => { n with noSideReport := satInc n.noSideReport }

/-- R58: POOL-REFUSED by class. -/
def countPoolRefused (n : NodeCounts) : Class → NodeCounts
  | .link => n
  | .call => { n with poolRefusedCall := satInc n.poolRefusedCall }
  | .toll => { n with poolRefusedToll := satInc n.poolRefusedToll }
  | .sign => { n with poolRefusedSign := satInc n.poolRefusedSign }
  | .report => { n with poolRefusedReport := satInc n.poolRefusedReport }

/-- R58: QUEUE-REFUSED by class. -/
def countQueueRefused (n : SideCounts) : Class → SideCounts
  | .link => { n with queueRefusedLink := satInc n.queueRefusedLink }
  | .call => { n with queueRefusedCall := satInc n.queueRefusedCall }
  | .toll => { n with queueRefusedToll := satInc n.queueRefusedToll }
  | .sign => { n with queueRefusedSign := satInc n.queueRefusedSign }
  | .report => { n with queueRefusedReport := satInc n.queueRefusedReport }

/-- R45: what an offer leaves: the cell placed, and a dozing port woken, or the refusal counted. -/
def offerEffect (s : State) (d : Side) (c : Cell) : State :=
  match offerAnswer s d c with
  | .taken =>
      if cellClass c == .link then s.setSide d (insPush (s.side d) c)
      else wakeSide (s.setSide d (insPush (s.side d) c)) d
  | .noSide => s.countNode (fun n => countNoSide n (cellClass c))
  | .queueFull => s.countSide d (fun n => countQueueRefused n (cellClass c))
  | .voiceUnreserved => s.countSide d (fun n => { n with voiceUnreserved := satInc n.voiceUnreserved })
  | .pool => s.countNode (fun n => countPoolRefused n (cellClass c))

/-- R99: a CALL cell the CCU makes is offered; a refused one is lost and counted CONTROL-REFUSED. -/
def offerControl (s : State) (d : Side) (c : Cell) : State :=
  if offerAnswer s d c == .taken then offerEffect s d c
  else (offerEffect s d c).countCcu (fun n => { n with controlRefused := satInc n.controlRefused })

/-! ## Back-pressure (R46, R51 to R53) -/

/-- HOLD or RESUME. -/
def isBackPressure (c : Cell) : Bool := c.kind == .hold || c.kind == .resume

/-- R46: whether a back-pressure cell waits in the queue. -/
def hasBackPressure (q : List Cell) : Bool := q.any isBackPressure

/-- R46: a HOLD or RESUME takes the place of a waiting one, else the tail; a full queue refuses it (log 15). -/
def putBackPressure (t : Tiu) (c : Cell) : Tiu :=
  if hasBackPressure t.insLink then { t with insLink := t.insLink.map (fun x => if isBackPressure x then c else x) }
  else if t.insLink.length < insCapacity .link then { t with insLink := t.insLink ++ [c] }
  else { t with counts := countQueueRefused t.counts .link }

/-- R51, R52: a HOLD made out of side `a`. -/
def makeHold (s : State) (a : Side) : State :=
  s.setSide a
    { putBackPressure (s.side a) (linkCell s.station .hold) with
      holdRepeat := some holdRepeatMs
      counts :=
        let n := (putBackPressure (s.side a) (linkCell s.station .hold)).counts
        { n with holdsSent := satInc n.holdsSent } }

/-- R53: a RESUME made out of side `a`. -/
def makeResume (s : State) (a : Side) : State :=
  s.setSide a
    { putBackPressure (s.side a) (linkCell s.station .resume) with
      holdRepeat := none
      counts :=
        let n := (putBackPressure (s.side a) (linkCell s.station .resume)).counts
        { n with resumesSent := satInc n.resumesSent } }

/-- R51: the test of side `b`'s TQ-DATA against the hold threshold. -/
def holdCheck (s : State) (b : Side) : State :=
  if decide (holdDepth ≤ (s.side b).tqData.length) && (s.side (otherSide b)).holdRepeat.isNone && s.inService (otherSide b)
  then makeHold s (otherSide b) else s

/-- R53: the test of side `b`'s TQ-DATA against the resume threshold. -/
def resumeCheck (s : State) (b : Side) : State :=
  if decide ((s.side b).tqData.length ≤ resumeDepth) && (s.side (otherSide b)).holdRepeat.isSome && s.inService (otherSide b)
  then makeResume s (otherSide b) else s

/-! ## Transit (R41, R44) -/

/-- R41, R44: what becomes of a cell handed to side `b`. -/
inductive TransitAnswer where
  | placed
  | undelivered
  | voiceUnreserved
  | callQueueFull
deriving DecidableEq, Repr

/-- R41, R44: the answer to a cell handed to side `b`. A VOICE without a HELD entry that also finds TQ-CALL full counts
VOICE-UNRESERVED alone: which of the two tests comes first is the model's choice (log 41). -/
def transitAnswer (s : State) (b : Side) (c : Cell) : TransitAnswer :=
  if !s.inService b then .undelivered
  else if unreserved (s.table b) c then .voiceUnreserved
  else if cellClass c == .call && decide (tqCallCapacity ≤ (s.side b).tqCall.length) then .callQueueFull
  else .placed

/-- R41: a cell placed at the tail of the transit queue of its class. -/
def transitPush (t : Tiu) (c : Cell) : Tiu :=
  if cellClass c == .call then { t with tqCall := t.tqCall ++ [c] } else { t with tqData := t.tqData ++ [c] }

/-- R41: a continuing cell, its hops raised, handed to the TIU of side `b`. -/
def forwardCell (s : State) (b : Side) (c : Cell) : State :=
  match transitAnswer s b c with
  | .placed => holdCheck (wakeSide (s.setSide b (transitPush (s.side b) (hopped c))) b) b
  | .undelivered => s.countNode (fun n => { n with undelivered := satInc n.undelivered })
  | .voiceUnreserved => s.countSide b (fun n => { n with voiceUnreserved := satInc n.voiceUnreserved })
  | .callQueueFull => s.countSide b (fun n => { n with callQueueFull := satInc n.callQueueFull })

/-- R41: an arrival forwarded in its own buffer. -/
def passOn (s : State) (b : Side) (c : Cell) : State := forwardCell { s with inHand := 0 } b c

/-- R8, R37: the continuing copy of a consumed cell takes its own buffer, or is dropped. -/
def passCopy (s : State) (b : Side) (c : Cell) : State :=
  if s.poolFree = 0 then s.countNode (fun n => { n with transitDrop := satInc n.transitDrop }) else forwardCell s b c

/-- R43: a BEACON handed on to the beacon slot of side `b`, in its own buffer. -/
def handOnBeacon (s : State) (b : Side) (c : Cell) : State :=
  let s := { s with inHand := 0 }
  if !s.inService b then s.countNode (fun n => { n with undelivered := satInc n.undelivered })
  else if (s.side b).beaconSlot.isSome then
    (s.setSide b { s.side b with beaconSlot := some (hopped c) }).countSide b
      (fun n => { n with beaconReplaced := satInc n.beaconReplaced })
  else s.setSide b { s.side b with beaconSlot := some (hopped c) }

/-! ## Withdrawal and flush (R47, R56) -/

/-- The TOLL-RECORD of a custody sequence. -/
def isRecord (sequence : Half) (c : Cell) : Bool := c.kind == .tollRecord && c.reference == sequence

/-- R47: whether the cell waits, so that a withdrawal is answered WITHDRAWN. -/
def recordWaits (s : State) (d : Side) (sequence : Half) : Bool := (s.side d).insToll.any (isRecord sequence)

/-- R47: a withdrawal removes the waiting cell. -/
def withdraw (s : State) (d : Side) (sequence : Half) : State :=
  s.setSide d { s.side d with insToll := (s.side d).insToll.eraseP (isRecord sequence) }

/-- R56: the cells that a flush of the side empties. -/
def flushCount (t : Tiu) (sending : Option Sending) : Nat :=
  tiuHeld t + t.insLink.length + (if sending.isSome then 1 else 0)

/-- R56: the side's queues after a flush. -/
def flushedTiu (t : Tiu) (sending : Option Sending) : Tiu :=
  { counts := { t.counts with flushed := satAdd t.counts.flushed (flushCount t sending) } }

/-- R50, R56: the TIU takes PORT-DOWN of side `d`. -/
def flushSide (s : State) (d : Side) : State :=
  let u := s.sidePort d
  resumeCheck ((s.setSide d (flushedTiu (s.side d) u.sending)).setPort (s.portOf d) { u with sending := none }) d

/-! ## The transmitter (R22, R48, R49) -/

/-- R22: the port LINK cell that goes first, with its slot emptied. -/
def portChoice (u : PortUnit) : Option (Cell × PortUnit) :=
  match keepSlot u.state u.lock u.slotWakeAck, keepSlot u.state u.lock u.slotDozeAck,
        keepSlot u.state u.lock u.slotDozeReq, keepSlot u.state u.lock u.slotHello with
  | some c, _, _, _ => some (c, { u with slotWakeAck := none })
  | none, some c, _, _ => some (c, { u with slotDozeAck := none })
  | none, none, some c, _ => some (c, { u with slotDozeReq := none })
  | none, none, none, some c => some (c, { u with slotHello := none })
  | none, none, none, none => none

/-- R44: the VOICE cells at the head of a queue whose calls have no HELD entry. -/
def strippedHead (table : List SrtEntry) (q : List Cell) : Nat := (q.takeWhile (unreserved table)).length

/-- R44: unreserved VOICE cells removed from the head of TQ-CALL and, where nothing is left there, of the CALL insertion
queue, and counted. -/
def stripVoice (table : List SrtEntry) (t : Tiu) : Tiu :=
  let q := t.tqCall.drop (strippedHead table t.tqCall)
  let n := strippedHead table t.tqCall
  if q.isEmpty then
    let m := strippedHead table t.insCall
    { t with
      tqCall := q, insCall := t.insCall.drop m
      counts := { t.counts with voiceUnreserved := satAdd t.counts.voiceUnreserved (n + m) } }
  else { t with tqCall := q, counts := { t.counts with voiceUnreserved := satAdd t.counts.voiceUnreserved n } }

/-- R48: the LINK insertion queue, then the beacon slot. -/
def linkChoice (t : Tiu) : Option (Sending × Tiu) :=
  match t.insLink, t.beaconSlot with
  | c :: q, _ => some (⟨c, .linkIns⟩, { t with insLink := q })
  | [], some c => some (⟨c, .beaconSlot⟩, { t with beaconSlot := none })
  | [], none => none

/-- R49: the local data cell offered, with its queue shortened. -/
def localData (t : Tiu) : Option (Sending × Tiu) :=
  match t.insToll, t.insSign, t.insReport with
  | c :: q, _, _ => some (⟨c, .tollIns⟩, { t with insToll := q })
  | [], c :: q, _ => some (⟨c, .signIns⟩, { t with insSign := q })
  | [], [], c :: q => some (⟨c, .reportIns⟩, { t with insReport := q })
  | [], [], [] => none

/-- R49: the data choice. -/
def dataChoice (t : Tiu) : Option (Sending × Tiu) :=
  if t.holdExpiry.isSome then none
  else
    match localData t, t.tqData with
    | some (x, t'), [] => some (x, { t' with fairness := 0 })
    | some (x, t'), c :: q =>
        if fairnessMax ≤ t.fairness then some (x, { t' with fairness := 0 })
        else some (⟨c, .tqData⟩, { t with tqData := q, fairness := t.fairness + 1 })
    | none, c :: q => some (⟨c, .tqData⟩, { t with tqData := q })
    | none, [] => none

/-- R48: TQ-CALL, then the CALL insertion queue, then the data choice; unreserved VOICE is already removed. -/
def trafficChoice (t : Tiu) : Option (Sending × Tiu) :=
  match t.tqCall, t.insCall with
  | c :: q, _ => some (⟨c, .tqCall⟩, { t with tqCall := q })
  | [], c :: q => some (⟨c, .callIns⟩, { t with insCall := q })
  | [], [] => dataChoice t

/-- R48: the TIU's choice for a slot and the queues it leaves; `full` is whether the port is UP. -/
def tiuChoice (table : List SrtEntry) (full : Bool) (t : Tiu) : Option Sending × Tiu :=
  match linkChoice t with
  | some (x, t') => (some x, t')
  | none =>
      if full then
        match trafficChoice (stripVoice table t) with
        | some (x, t') => (some x, t')
        | none => (none, stripVoice table t)
      else (none, t)

/-! ## The doze request (R29) -/

/-- R29: the port asks for doze. -/
def askDoze (s : State) (p : Port) : State :=
  s.setPort p { s.port p with slotDozeReq := some (linkCell s.station .dozeReq), dozeRetry := some dozeRetryMs }

/-- R29: from `before` to `after` the doze condition of the port became true with no request outstanding. -/
def dozeBecame (before after : State) (p : Port) : Bool :=
  after.dozeCondition p && !before.dozeCondition p && (after.port p).dozeRetry.isNone

/-- R28, R29: the condition is re-evaluated after a change. -/
def evalDoze (before after : State) (p : Port) : State := if dozeBecame before after p then askDoze after p else after

/-- R28, R29: both ports after a command that took `before` to `after`. -/
def settleDoze (before after : State) : State := evalDoze before (evalDoze before after .sp1) .sp2

/-- The outcome of a command that may change a doze condition: no buffer stays in hand. -/
def done (before after : State) : Host.Outcome State Fault Refusal :=
  .next { settleDoze before after with inHand := 0 }

/-! ## Arrivals (R21, R37, R40) -/

/-- R40: the receive register takes the arriving cell for its tests. -/
def receiveCell (s : State) (p : Port) (c : Cell) : State := s.setPort p { s.port p with receive := some c }

/-- R21: the count of a cell in service, with the run of failed cells set back (R20); the cell leaves the receive register
for the block that takes it (R40). -/
def takeIn (s : State) (p : Port) : State :=
  s.setPort p
    { s.port p with
      receive := none, badRun := 0, counts := { (s.port p).counts with cellsIn := satInc (s.port p).counts.cellsIn } }

/-- R6, R40: a malformed cell, dropped from the receive register. -/
def countMalformed (s : State) (p : Port) : State :=
  s.setPort p
    { s.port p with
      receive := none, counts := { (s.port p).counts with malformed := satInc (s.port p).counts.malformed } }

/-- R21, R40: a good cell in SEEK or FAULT, dropped from the receive register. -/
def turnAway (s : State) (p : Port) : State :=
  s.setPort p
    { s.port p with
      receive := none, badRun := 0
      counts := { (s.port p).counts with notInService := satInc (s.port p).counts.notInService } }

/-- Whether cells are received at the port: lock is held (R21), in a port that follows its state machine. -/
def receives (s : State) (p : Port) : Bool := s.portFree p && (s.port p).lock

/-- R6, R21, R40: an arriving cell other than HELLO stands in the receive register while it is tested; in service `act`
takes it. -/
def arrive (s : State) (p : Port) (c : Cell) (act : State → State) : State :=
  if !receives s p then s
  else
    let t := receiveCell s p c
    if !headerOk c then countMalformed t p
    else if inServiceState (s.port p).state then act (takeIn t p)
    else turnAway t p

/-- R28, R31: a CALL, TOLL, SIGN or REPORT cell passed on restarts the idle timer of a UP port and wakes a dozing one. -/
def stir (s : State) (p : Port) : State :=
  match (s.port p).state with
  | .up => s.setPort p { s.port p with idle := some idleMs }
  | .doze => s.setPort p (enterWaking (s.port p))
  | _ => s

/-- R37, R40: the hop limit and the pool; on a grant `act` takes the cell with its buffer in hand. -/
def admitCell (s : State) (c : Cell) (act : State → State) : State :=
  if c.hops = hopLimit then s.countNode (fun n => { n with hopLimit := satInc n.hopLimit })
  else if s.poolFree = 0 then s.countNode (fun n => { n with transitDrop := satInc n.transitDrop })
  else act { s with inHand := 1 }

/-- R21, R37, R40: the arrival of a CALL, TOLL, SIGN or REPORT cell. -/
def transitArrival (s : State) (p : Port) (c : Cell) (act : State → State) : State :=
  arrive s p c (fun t => admitCell (stir t p) c act)

/-! ## Carriage (R8, R9) -/

/-- R8: what the TIU decides for a cell that passed R6. -/
inductive Carriage where
  | consume
  | consumeAndForward
  | forward
  | undelivered
deriving DecidableEq, Repr

/-- R8: the carriage by target and role. -/
def carriage (s : State) (c : Cell) : Carriage :=
  if c.target = s.station then .consume
  else if s.isGateway then (if c.target = anyGateway || c.target = allStations then .consume else .undelivered)
  else if c.target = allStations then .consumeAndForward
  else .forward

/-- R58: UNDELIVERED. -/
def countUndelivered (s : State) : State := s.countNode (fun n => { n with undelivered := satInc n.undelivered })

/-- R9: NO-CONSUMER. -/
def countNoConsumer (s : State) : State := s.countNode (fun n => { n with noConsumer := satInc n.noConsumer })

/-- R8: a data cell in hand from side `a`: its continuing copy leaves first (log 7), then `consume` takes the local
one. -/
def carry (s : State) (a : Side) (c : Cell) (consume : State → State) : State :=
  match carriage s c with
  | .consume => consume s
  | .consumeAndForward => consume (passCopy s (otherSide a) c)
  | .forward => passOn s (otherSide a) c
  | .undelivered => countUndelivered { s with inHand := 0 }

/-! ## The sign pages as memory (R129) -/

/-- What an unlisted pixel reads as: 0, as POWER-ON leaves it (R17). -/
def Memory.unlisted : Byte := 0

/-- The memory of four pages with every pixel 0. -/
def Memory.blank : Memory := []

/-- The value of one pixel. -/
def Memory.read : Memory → Nat → Byte
  | [], _ => Memory.unlisted
  | (a, v) :: m, i => if a = i then v else Memory.read m i

/-- The memory with one pixel written; a pixel that reads as unlisted ones do is not listed. -/
def Memory.write : Memory → Nat → Byte → Memory
  | [], i, v => if v = Memory.unlisted then [] else [(i, v)]
  | (a, w) :: m, i, v =>
      if i < a then (if v = Memory.unlisted then (a, w) :: m else (i, v) :: (a, w) :: m)
      else if i = a then (if v = Memory.unlisted then m else (a, v) :: m)
      else (a, w) :: Memory.write m i v

/-- Every listed address lies above `lo`, addresses rise and no listed value is the unlisted one. -/
def Memory.wfAbove : Memory → Nat → Bool
  | [], _ => true
  | (a, v) :: m, lo => decide (lo ≤ a) && v != Memory.unlisted && Memory.wfAbove m (a + 1)

/-- The canonical form of the pages. -/
def Memory.wf (m : Memory) : Bool := Memory.wfAbove m 0

end Sys2Proof.Machine
end

