-- ==== Sys2Proof/Machine/Office.lean ====
section
/-! DEFINITION. Office channels and the to-office queue: channels, notices, the end of a CHAIN call (R180, R183, R184,
R186). The commands of the gateway stand in Gateway.lean. -/

namespace Sys2Proof.Machine

/-! ## Channels (R180) -/

/-- R180: the channel holds the identity. -/
def channelHolds (id : Identity) : OfficeChannel → Bool
  | .free => false
  | .chain x _ => x == id
  | .localCall x _ _ => x == id

/-- R180: the channel that holds an identity. -/
def findChannel (s : State) (id : Identity) : Option Nat := s.gw.channels.findIdx? (channelHolds id)

/-- R180: the FREE channel of lowest number. -/
def freeChannel (s : State) : Option Nat := s.gw.channels.findIdx? (fun c => c == .free)

/-- The content of a channel. -/
def channelAt (s : State) (n : Nat) : OfficeChannel := s.gw.channels.getD n .free

/-- A channel changed. -/
def setChannel (s : State) (n : Nat) (c : OfficeChannel) : State :=
  { s with gw := { s.gw with channels := s.gw.channels.set n c } }

/-! ## The to-office queue (R185, R186) -/

/-- R186: the queue holds fewer than 32 cells. -/
def officeRoom (s : State) : Bool := decide (s.gw.toOffice.length < officeCapacity)

/-- R185: the hops byte carries the office channel on the link. -/
def onChannel (n : Nat) (c : Cell) : Cell := { c with hops := BitVec.ofNat 8 n }

/-- A cell placed at the tail of the to-office queue. -/
def officePush (s : State) (c : Cell) : State := { s with gw := { s.gw with toOffice := s.gw.toOffice ++ [c] } }

/-- R38: a local cell of the class finds its floor. -/
def floorMet (s : State) (k : Class) : Bool := decide (classFloor k ≤ s.poolFree)

/-- R58: a pool refusal of a class. -/
def countPool (s : State) (k : Class) : State := s.countNode (fun n => countPoolRefused n k)

/-- R186: TO-OFFICE-DROPPED by class. -/
def countOfficeDropped (s : State) (k : Class) : State :=
  s.countGw (fun n =>
    match k with
    | .call => { n with toOfficeDroppedCall := satInc n.toOfficeDroppedCall }
    | .sign => { n with toOfficeDroppedSign := satInc n.toOfficeDroppedSign }
    | .report => { n with toOfficeDroppedReport := satInc n.toOfficeDroppedReport }
    | .link | .toll => n)

/-- R180: a notice is made as a local cell for the office, targeted as CALL cells toward a gateway are (log 30). -/
def noticeCell (s : State) (n : Nat) (k : Kind) (id : Identity) (g : Grade) (reason : Byte) : Cell :=
  onChannel n (callCell s.station k anyGateway id (gradeCode g) reason)

/-- R183, R184: NOTICES-LOST. -/
def countNoticeLost (s : State) : State := s.countGw (fun n => { n with noticesLost := satInc n.noticesLost })

/-- R183: a local notice takes a buffer under the CALL floor; without room or buffer it is lost (log 23). -/
def giveNotice (s : State) (c : Cell) : State :=
  if !officeRoom s then countNoticeLost s
  else if floorMet s .call then officePush s c
  else countPool (countNoticeLost s) .call

/-- R182: a consumed CALL cell goes to the office in its own buffer with the channel's number and grade (log 30). -/
def chainNotice (n : Nat) (g : Grade) (c : Cell) : Cell := { onChannel n c with aux6 := gradeCode g }

/-- R182: a notice in the cell's own buffer; a full queue drops it. -/
def passNotice (s : State) (c : Cell) : State :=
  if officeRoom s then officePush { s with inHand := 0 } c else countNoticeLost { s with inHand := 0 }

/-- R186: a consumed cell of another class goes to the office in its own buffer, hops byte 0. -/
def passToOffice (s : State) (c : Cell) : State :=
  if officeRoom s then officePush { s with inHand := 0 } (onChannel 0 c)
  else countOfficeDropped { s with inHand := 0 } (cellClass c)

/-- R186: an answer of the gateway's own block is placed when the pool grants its buffer and the queue has room. -/
def answerAccepted (s : State) (k : Class) : Bool := floorMet s k && officeRoom s

/-- R186: what a local answer leaves; a full queue is tested first (log 23). -/
def answerToOffice (s : State) (c : Cell) : State :=
  if !officeRoom s then countOfficeDropped s (cellClass c)
  else if floorMet s (cellClass c) then officePush s (onChannel 0 c)
  else countPool s (cellClass c)

/-! ## Ends of calls (R89, R183) -/

/-- R89: a table without the entry of a call. -/
def withoutCall (table : List SrtEntry) (id : Identity) : List SrtEntry := table.filter (fun e => e.identity != id)

/-- R89: the entry of a call released from a side's table. -/
def releaseEntry (s : State) (d : Side) (id : Identity) : State := s.setTable d (withoutCall (s.table d) id)

/-- R94: the entries of a call released from both tables. -/
def releaseBoth (s : State) (id : Identity) : State := releaseEntry (releaseEntry s .up id) .down id

/-- R89: the entries of a call changed in a table. -/
def changeCall (table : List SrtEntry) (id : Identity) (f : SrtEntry → SrtEntry) : List SrtEntry :=
  table.map (fun e => if e.identity = id then f e else e)

/-- R89: the entries of a call changed in both tables. -/
def changeBoth (s : State) (id : Identity) (f : SrtEntry → SrtEntry) : State :=
  (s.setTable .up (changeCall (s.table .up) id f)).setTable .down (changeCall (s.table .down) id f)

/-- R100: REFUSES-SENT by reason. -/
def countRefuse (s : State) (r : RefuseReason) : State :=
  s.countCcu (fun n =>
    match r with
    | .spanFull => { n with refusesSpanFull := satInc n.refusesSpanFull }
    | .officeFull => { n with refusesOfficeFull := satInc n.refusesOfficeFull }
    | .noRoute => { n with refusesNoRoute := satInc n.refusesNoRoute }
    | .duplicate => { n with refusesDuplicate := satInc n.refusesDuplicate })

/-- R100: BROKEN-SENT by reason. -/
def countBroken (s : State) (r : BrokenReason) : State :=
  s.countCcu (fun n =>
    match r with
    | .spanLost => { n with brokenSpanLost := satInc n.brokenSpanLost }
    | .preempted => { n with brokenPreempted := satInc n.brokenPreempted }
    | .lost => { n with brokenLost := satInc n.brokenLost })

/-- R99, R100: a CALL-BROKEN made out of side `d`. -/
def makeBroken (s : State) (d : Side) (target : Byte) (id : Identity) (grade : Byte) (r : BrokenReason) : State :=
  offerControl (countBroken s r) d (callCell s.station .callBroken target id grade (brokenCode r))

/-- R91, R181: a CALL-REFUSE made out of side `d`. -/
def makeRefuse (s : State) (d : Side) (id : Identity) (grade : Byte) (r : RefuseReason) : State :=
  offerControl (countRefuse s r) d (callCell s.station .callRefuse id.station id grade (refuseCode r))

/-- R183: the GATEWAY entry is released and the channel becomes FREE. -/
def freeChain (s : State) (n : Nat) (id : Identity) : State := setChannel (releaseEntry s s.inner id) n .free

/-- R183, R98: a CHAIN call ended by PORT-DOWN of side `d`, the inner side. -/
def endChainLost (s : State) (d : Side) (e : SrtEntry) : State :=
  let t := releaseEntry s d e.identity
  match findChannel s e.identity with
  | some n => giveNotice (setChannel t n .free) (noticeCell s n .callBroken e.identity e.grade (brokenCode .spanLost))
  | none => t

/-- R183: a CHAIN call preempted by an ACCIDENT setup. -/
def preemptChain (s : State) (e : SrtEntry) : State :=
  let t := s.countCcu (fun n => { n with preemptions := satInc n.preemptions })
  match findChannel s e.identity with
  | some n =>
      giveNotice
        (makeBroken (freeChain t n e.identity) s.inner e.identity.station e.identity (gradeCode e.grade) .preempted)
        (noticeCell s n .callBroken e.identity e.grade (brokenCode .preempted))
  | none => makeBroken (releaseEntry t s.inner e.identity) s.inner e.identity.station e.identity (gradeCode e.grade) .preempted

end Sys2Proof.Machine
end

