-- ==== Sys2Proof/Machine/Custody.lean ====
section
/-! DEFINITION. The Custody Store and Dispatcher: the flow state, the dispatch pass, withdrawals, completions and
acknowledgements (R111 to R125). Its commands stand in Tolls.lean. -/

namespace Sys2Proof.Machine

/-! ## Flow (R111, R112) -/

/-- R111: the free count of the store. -/
def storeFree (s : State) : Nat := storeCapacity - s.csd.store.length

/-- R111: the flow state after a store change. -/
def evalFlow (s : State) : State :=
  if !s.gli.flowStopped && decide (storeFree s ≤ flowStopFree) then
    { s with gli := { s.gli with flowStopped := true, flowPlace := some .xoff } }
  else if s.gli.flowStopped && decide (flowRunFree ≤ storeFree s) then
    { s with gli := { s.gli with flowStopped := false, flowPlace := some .xon } }
  else s

/-- R112: the flow state and flow character of start-up. -/
def startFlow (s : State) : State :=
  if storeFree s < flowRunFree then { s with gli := { s.gli with flowStopped := true, flowPlace := some .xoff } }
  else { s with gli := { s.gli with flowStopped := false, flowPlace := some .xon } }

/-! ## Entries (R113, R115) -/

/-- The entry is DISPATCHING or SENT. -/
def entryInFlight (e : CustodyEntry) : Bool :=
  match e.state with
  | .queued => false
  | .dispatching _ => true
  | .sent => true

/-- R115: the in-flight count. -/
def inFlight (store : List CustodyEntry) : Nat := store.countP entryInFlight

/-- The entry of a sequence changed. -/
def changeEntry (store : List CustodyEntry) (sequence : Half) (f : CustodyEntry → CustodyEntry) : List CustodyEntry :=
  store.map (fun e => if e.sequence = sequence then f e else e)

/-- The store of `s` with the entry of a sequence changed. -/
def State.changeEntry (s : State) (sequence : Half) (f : CustodyEntry → CustodyEntry) : State :=
  { s with csd := { s.csd with store := Sys2Proof.Machine.changeEntry s.csd.store sequence f } }

/-- The entry of a sequence. -/
def findEntry (s : State) (sequence : Half) : Option CustodyEntry := s.csd.store.find? (fun e => e.sequence == sequence)

/-- R115: an entry made QUEUED. -/
def queueEntry (e : CustodyEntry) : CustodyEntry := { e with state := .queued, retry := none }

/-- R116: the oldest QUEUED entry. -/
def oldestQueued (store : List CustodyEntry) : Option CustodyEntry := store.find? (fun e => e.state == .queued)

/-! ## Dispatch (R116 to R118) -/

/-- R117: the side of a switch, where the entry's four transmissions went unanswered and the other side is VALID. -/
def switchSide (s : State) (e : CustodyEntry) : Option Side :=
  match e.lastDirection with
  | some d => if e.sameDirection = switchAttempts ∧ (s.entry (otherSide d)).valid = true then some (otherSide d) else none
  | none => none

/-- R118: the TOLL-RECORD of an entry; flag bit 2 is RETRY. -/
def recordCell (s : State) (e : CustodyEntry) : Cell :=
  makeCell s.station .tollRecord anyGateway e.sequence 0 0 (if e.attempts = 0 then 0 else 4) e.body

/-- R118: the entry becomes DISPATCHING. -/
def dispatched (s : State) (e : CustodyEntry) (d : Side) : State :=
  ((offerEffect s d (recordCell s e)).changeEntry e.sequence (fun x => { x with state := .dispatching d })).countCsd
    (fun n => { n with tollDispatches := satInc n.tollDispatches })

/-- R118: a refused offer starts the dispatch timer. -/
def dispatchRefusal (s : State) (e : CustodyEntry) (d : Side) : State :=
  let t := (offerEffect s d (recordCell s e)).countCsd (fun n => { n with dispatchRefused := satInc n.dispatchRefused })
  { t with csd := { t.csd with dispatchTimer := some dispatchMs } }

/-- R117: the count and the mark of a switch. -/
def switched (s : State) (e : CustodyEntry) : State :=
  (s.changeEntry e.sequence (fun x => { x with sameDirection := 0 })).countCsd
    (fun n => { n with directionSwitches := satInc n.directionSwitches })

/-- R117: the direction chosen for an entry, and the state after the choice. -/
def directed (s : State) (e : CustodyEntry) : Option (Side × State) :=
  match switchSide s e with
  | some d => some (d, switched s e)
  | none =>
      match s.nearest with
      | some d => some (d, s)
      | none => none

/-- R116: the steps of a pass, at most `n` offers. -/
def passSteps : Nat → State → State
  | 0, s => s
  | n + 1, s =>
      if inFlightMax ≤ inFlight s.csd.store then s
      else
        match oldestQueued s.csd.store with
        | none => s
        | some e =>
            match directed s e with
            | none => s
            | some (d, t) =>
                if offerAnswer t d (recordCell t e) == .taken then passSteps n (dispatched t e d)
                else dispatchRefusal t e d

/-- R116, R124: a dispatch pass, where the gantry job is fitted. Sixteen offers reach the in-flight limit. -/
def dispatchPass (s : State) : State := if gantryFitted s.straps then passSteps (inFlightMax + 1) s else s

/-! ## Completion (R119) -/

/-- R119: an entry whose transmission toward `d` completed. -/
def sentEntry (d : Side) (e : CustodyEntry) : CustodyEntry :=
  { e with
    state := .sent
    attempts := min 15 (e.attempts + 1)
    sameDirection := if e.lastDirection = some d then min switchAttempts (e.sameDirection + 1) else 1
    lastDirection := some d
    retry := some custodyRetryMs }

/-- R119: the report of a completed transmission. -/
def completeRecord (s : State) (d : Side) (sequence : Half) : State :=
  if gantryFitted s.straps then
    let store := s.csd.store.map (fun e => if e.sequence = sequence ∧ e.state = .dispatching d then sentEntry d e else e)
    { s with csd := { s.csd with store := store } }
  else s

/-! ## Loss of a side or of reach (R121, R122) -/

/-- R121: the entry is DISPATCHING or SENT toward the side. -/
def towardSide (d : Side) (e : CustodyEntry) : Bool :=
  match e.state with
  | .queued => false
  | .dispatching x => x == d
  | .sent => e.lastDirection == some d

/-- The sequences of the entries DISPATCHING toward a side, in order. -/
def dispatchingTo (store : List CustodyEntry) (d : Side) : List Half :=
  (store.filter (fun e => e.state == .dispatching d)).map CustodyEntry.sequence

/-- R121: the CSD takes PORT-DOWN of a side. -/
def custodyPortDown (s : State) (d : Side) : State :=
  if gantryFitted s.straps then
    let t := (dispatchingTo s.csd.store d).foldl (fun x q => withdraw x d q) s
    dispatchPass
      { t with csd := { t.csd with
          store := t.csd.store.map (fun e => if towardSide d e then queueEntry e else e)
          counts := { t.csd.counts with
            portWithdrawals := satAdd t.csd.counts.portWithdrawals (t.csd.store.countP (towardSide d)) } } }
  else s

/-- R122: one withdrawal on REACH-LOST: WITHDRAWN makes the entry QUEUED, NOT-FOUND leaves it. -/
def reachWithdraw (d : Side) (s : State) (sequence : Half) : State :=
  if recordWaits s d sequence then
    ((withdraw s d sequence).changeEntry sequence queueEntry).countCsd
      (fun n => { n with portWithdrawals := satInc n.portWithdrawals })
  else s

/-- R122: the CSD takes REACH-LOST of a side; a pass follows if an entry became QUEUED. -/
def custodyReachLost (s : State) (d : Side) : State :=
  if gantryFitted s.straps then
    let t := (dispatchingTo s.csd.store d).foldl (reachWithdraw d) s
    if (dispatchingTo s.csd.store d).any (recordWaits s d) then dispatchPass t else t
  else s

/-! ## Acknowledgement (R123) -/

/-- R123: the entry of a sequence removed, its cell withdrawn where it is DISPATCHING. -/
def removeEntry (s : State) (e : CustodyEntry) : State :=
  let t := match e.state with
    | .dispatching d => withdraw s d e.sequence
    | _ => s
  { t with csd := { t.csd with
      store := t.csd.store.filter (fun x => x.sequence != e.sequence)
      counts := { t.csd.counts with acksTaken := satInc t.csd.counts.acksTaken } } }

/-- R123: the CSD takes a TOLL-ACK for a sequence. -/
def takeAck (s : State) (sequence : Half) : State :=
  match findEntry s sequence with
  | some e => dispatchPass (evalFlow (removeEntry s e))
  | none => s.countCsd (fun n => { n with lateAck := satInc n.lateAck })

end Sys2Proof.Machine
end

