-- ==== Sys2Proof/Machine/Reach.lean ====
section
/-! DEFINITION. The Reach Table: the place and freshness tests, the refresh, the events REACH-GAINED and REACH-LOST
(R60 to R66). -/

namespace Sys2Proof.Machine

/-- R61: the mark and the origin fit the side. -/
def beaconFits (s : State) (d : Side) (c : Cell) : Bool :=
  match d with
  | .up => !beaconMark c.toCellData && decide (c.origin.toNat < s.station.toNat)
  | .down => beaconMark c.toCellData && decide (s.station.toNat < c.origin.toNat)

/-- R62: a sequence is newer when the difference modulo 65,536 lies in 1 to 32,767. -/
def sequenceNewer (new old : Half) : Bool := decide (1 ≤ (new - old).toNat) && decide ((new - old).toNat ≤ 32767)

/-- R62: the beacon is fresh against the entry. -/
def beaconFresh (e : ReachEntry) (c : Cell) : Bool :=
  !e.valid || c.origin != e.gateway || sequenceNewer c.reference e.sequence

/-- R62: the entry refreshed by a fresh beacon. -/
def refreshedEntry (e : ReachEntry) (c : Cell) : ReachEntry :=
  { held := true, gateway := c.origin, hops := c.hops, sequence := c.reference, age := 0, valid := true
    counts := { e.counts with
      beaconsTaken := satInc e.counts.beaconsTaken
      reachChanges := if e.valid && c.origin != e.gateway then satInc e.counts.reachChanges else e.counts.reachChanges } }

/-- R63: a beacon that refreshed its entry is retired at a gateway and handed on elsewhere. -/
def retireOrHandOn (s : State) (d : Side) (c : Cell) : State :=
  if s.isGateway then { s with inHand := 0 } else handOnBeacon s (otherSide d) c

/-- R62, R66: the refresh, and the dispatch pass of REACH-GAINED. -/
def refreshEntry (s : State) (d : Side) (c : Cell) : State :=
  if (s.entry d).valid then s.setEntry d (refreshedEntry (s.entry d) c)
  else dispatchPass (s.setEntry d (refreshedEntry (s.entry d) c))

/-- R61 to R63: the Reach Table takes a BEACON in hand, arrived on side `d`. The entry is refreshed
and REACH-GAINED taken first; the beacon then goes on. -/
def takeBeacon (s : State) (d : Side) (c : Cell) : State :=
  if !beaconFits s d c then
    ({ s with inHand := 0 } : State).countEntry d (fun n => { n with beaconMismarked := satInc n.beaconMismarked })
  else if beaconFresh (s.entry d) c then retireOrHandOn (refreshEntry s d c) d c
  else ({ s with inHand := 0 } : State).countEntry d (fun n => { n with beaconStale := satInc n.beaconStale })

/-- R64: an entry lapses that is VALID and whose age has reached 600 ms; a beacon taken first has set the age back. -/
def lapseDue (e : ReachEntry) : Bool := e.valid && decide (reachLapseMs ≤ e.age.toNat)

/-- R64: the entry of the side lapses, raising REACH-LOST. Gateway, hops, sequence and age are kept. -/
def lapseEntry (s : State) (d : Side) : State :=
  custodyReachLost
    (s.setEntry d { s.entry d with
      valid := false
      counts := { (s.entry d).counts with reachLapses := satInc (s.entry d).counts.reachLapses } }) d

/-- R65, R66: the Reach Table takes PORT-DOWN of the side. -/
def invalidateEntry (s : State) (d : Side) : State :=
  if (s.entry d).valid then custodyReachLost (s.setEntry d { s.entry d with valid := false }) d else s

end Sys2Proof.Machine
end

