-- ==== Sys2Proof/Machine/Circuits.lean ====
section
/-! DEFINITION. The Call Circuit Unit: line states, Call Records and their attempts, preemption, and what the origin, a
path node and the gateway end do with a CALL cell (R74 to R99, R181, R182, R184). -/

namespace Sys2Proof.Machine

/-! ## Line states (R74, R79, R80) -/

/-- R79, R80: a line that leaves TALK stops packing and playing, and its playout buffer is emptied. -/
def leaveTalk (x : PhoneLine) : PhoneLine := { x with playout := [], packPeriod := none, playPeriod := none }

/-- R74: CALLING with hold tone. -/
def enterCalling (x : PhoneLine) : PhoneLine := { leaveTalk x with state := .calling, playing := .holdTone }

/-- R80: a playout period starts: the head payload is played, or 4 ms of silence, counted PLAYOUT-UNDERRUN. -/
def playHead (x : PhoneLine) : PhoneLine :=
  match x.playout with
  | b :: rest => { x with playout := rest, playing := .samples b, playPeriod := some voicePeriodMs }
  | [] =>
      { x with
        playing := .silence, playPeriod := some voicePeriodMs
        counts := { x.counts with playoutUnderrun := satInc x.counts.playoutUnderrun } }

/-- R74, R79, R80: TALK, with its periods begun: the first playout period starts at the entry, with the buffer empty. -/
def enterTalk (x : PhoneLine) : PhoneLine := playHead { x with state := .talk, packPeriod := some voicePeriodMs }

/-- R74, R77, R86: CLEARED with busy tone; the record ends and the measurement is disarmed. -/
def enterCleared (x : PhoneLine) : PhoneLine :=
  { leaveTalk x with state := .cleared, playing := .busyTone, keyMeasuring := false, record := none }

/-- R76: IDLE; the record ends, the measurement is disarmed. -/
def enterIdle (x : PhoneLine) : PhoneLine :=
  { leaveTalk x with state := .idle, playing := .nothing, keyMeasuring := false, hookDebounce := none, record := none }

/-! ## Call Records (R81) -/

/-- The Call Record of a line replaced. -/
def setRecord (s : State) (l : Line) (r : CallRecord) : State := s.setLine l { s.line l with record := some r }

/-- R81: the record is in SEEKING or CONNECTED. -/
def recordActive (r : CallRecord) : Bool := r.state == .seeking || r.state == .connected

/-- R85: the record's own entry released. -/
def releaseOwn (s : State) (r : CallRecord) : State :=
  match r.direction, r.identity with
  | some d, some id => releaseEntry s d id
  | _, _ => s

/-- R84: the record enters WAITING. -/
def enterWaiting (s : State) (l : Line) (r : CallRecord) : State :=
  setRecord s l
    { r with state := .waiting, identity := none, direction := none, triedUp := false, triedDown := false,
             timer := some callRetryMs }

/-- A side entered in tried. -/
def addTried (r : CallRecord) (d : Side) : CallRecord :=
  match d with
  | .up => { r with triedUp := true }
  | .down => { r with triedDown := true }

/-- R81, R85: the record in REROUTE, with no attempt. -/
def rerouted (r : CallRecord) : CallRecord := { r with state := .reroute, identity := none, direction := none, timer := none }

/-- R85: a new round: tried cleared, then the current direction entered in it. -/
def newRound (r : CallRecord) : CallRecord :=
  match r.direction with
  | some d => addTried { r with triedUp := false, triedDown := false } d
  | none => { r with triedUp := false, triedDown := false }

/-- R82: the direction of the next attempt. -/
def recordDirection (s : State) (r : CallRecord) : Option Side :=
  match r.triedUp, r.triedDown with
  | false, false => s.nearest
  | true, false => s.nearestExcluding .up
  | false, true => s.nearestExcluding .down
  | true, true => none

/-- R81: the identity that the next serial of a line gives. -/
def nextIdentity (s : State) (l : Line) : Identity :=
  { station := s.station, phone := l, serial := (s.line l).nextSerial }

/-- R81: the record takes the next serial. -/
def takeSerial (s : State) (l : Line) (r : CallRecord) : State :=
  s.setLine l { s.line l with nextSerial := (s.line l).nextSerial + 1, record := some { r with identity := some (nextIdentity s l) } }

/-! ## Preemption (R92) -/

/-- R89: the table is full. -/
def tableFull (table : List SrtEntry) : Bool := decide (srtCapacity ≤ table.length)

/-- R92: the youngest BREAKDOWN entry. -/
def youngestBreakdown (table : List SrtEntry) : Option SrtEntry := (table.filter (fun e => e.grade == .breakdown)).getLast?

/-- R92, R98: the target of a CALL-BROKEN out of a side whose entry faces the given end. -/
def brokenTarget (f : Faces) (id : Identity) : Byte :=
  match f with
  | .origin => id.station
  | .gateway => anyGateway

/-- The other end. -/
def otherFaces : Faces → Faces
  | .origin => .gateway
  | .gateway => .origin

/-- R92: the CALL-BROKENs of a PATH victim in side `d`, the one toward the origin first. -/
def preemptPath (s : State) (d : Side) (e : SrtEntry) : State :=
  let toOrigin := if e.faces = .origin then d else otherSide d
  makeBroken (makeBroken s toOrigin e.identity.station e.identity (gradeCode e.grade) .preempted)
    (otherSide toOrigin) anyGateway e.identity (gradeCode e.grade) .preempted

/-- R92: the victim's entries are released; the record of an ORIGIN victim takes its event next. No node that reserves by
R82 or R91 against other calls holds a GATEWAY entry: R181 has its own preemption. -/
def preemptEntry (s : State) (d : Side) (e : SrtEntry) : State :=
  let t := s.countCcu (fun n => { n with preemptions := satInc n.preemptions })
  match e.place with
  | .path => preemptPath (releaseBoth t e.identity) d e
  | .origin => releaseEntry t d e.identity
  | .gateway => releaseEntry t d e.identity

/-- The line whose record an ORIGIN victim belongs to. -/
def victimLine (e : SrtEntry) : Option Line :=
  match e.place with
  | .origin => some e.identity.phone
  | _ => none

/-- R92: the places of each table that a preemption has made or found for its own reservation, which is placed after the
event of the preempted record: that record's next attempt does not take them (log 8). -/
abbrev Spoken := Side → Nat

/-- No place is spoken for. -/
def unspoken : Spoken := fun _ => 0

/-- R82: the place that an own reservation is about to take in side `d`. -/
def spokenOwn (d : Side) : Spoken := fun x => if x = d then 1 else 0

/-- R91: the places that a setup is about to take in both tables. -/
def spokenPath : Spoken := fun _ => 1

/-- R89: no place of the table is left beside those spoken for. -/
def tableTaken (spoken : Nat) (table : List SrtEntry) : Bool := decide (srtCapacity ≤ table.length + spoken)

/-- R82, R92: room for an own reservation: there is room, or the youngest BREAKDOWN entry is preempted where `may` and the
record's grade is ACCIDENT; the line of an ORIGIN victim is returned. -/
def ownRoom (may : Bool) (spoken : Spoken) (s : State) (d : Side) (r : CallRecord) : Option (State × Option Line) :=
  if !tableTaken (spoken d) (s.table d) then some (s, none)
  else if may && r.grade == .accident then
    match youngestBreakdown (s.table d) with
    | some e => some (preemptEntry s d e, victimLine e)
    | none => none
  else none

/-- R92: the record of a preempted ORIGIN entry takes its event, if there is one. -/
def settleVictim (broken : State → Line → State) (s : State) (v : Option Line) : State :=
  match v with
  | some l => broken s l
  | none => s

/-! ## Attempts (R82 to R84, R184) -/

/-- R82: an ORIGIN entry placed last in the table, under the next serial. -/
def reserveOwn (s : State) (l : Line) (d : Side) (r : CallRecord) : State :=
  takeSerial
    (s.setTable d (s.table d ++ [{ identity := nextIdentity s l, grade := r.grade, held := false, place := .origin,
                                   faces := .gateway, timer := none }])) l r

/-- R99: the CALL-SETUP of an attempt. -/
def setupCell (s : State) (id : Identity) (g : Grade) : Cell := callCell s.station .callSetup anyGateway id (gradeCode g) 0

/-- R82: the attempt was taken: SEEKING toward `d` under the identity. -/
def seekingRecord (r : CallRecord) (id : Identity) (d : Side) : CallRecord :=
  { r with identity := some id, state := .seeking, direction := some d, timer := some setupMs }

/-- R82: the steps of an attempt of the record of line `l`. `may` is whether it may preempt, `spoken` the places it may not
take, and `broken` takes the event of a preempted record before the entry is reserved (R92). Each refusal enters a side in
tried, so three steps suffice. -/
def attemptSteps (may : Bool) (spoken : Spoken) (broken : Spoken → State → Line → State) :
    Nat → State → Line → CallRecord → State
  | 0, s, l, r => enterWaiting s l r
  | n + 1, s, l, r =>
      match recordDirection s r with
      | none => enterWaiting s l r
      | some d =>
          match ownRoom may spoken s d r with
          | none => attemptSteps may spoken broken n s l (addTried r d)
          | some (t, victim) =>
              let t := settleVictim (broken (spokenOwn d)) t victim
              let id := nextIdentity t l
              let t := reserveOwn t l d r
              let c := setupCell t id r.grade
              if offerAnswer t d c == .taken then
                (setRecord (offerEffect t d c) l (seekingRecord r id d)).countLine l
                  (fun n => { n with callAttempts := satInc n.callAttempts })
              else attemptSteps may spoken broken n (releaseEntry (offerEffect t d c) d id) l (addTried r d)

/-- R184: a channel for a call of the gateway's own phone is granted. -/
def channelGranted (s : State) : Bool := (freeChannel s).isSome && officeRoom s && floorMet s .call

/-- R184: what the refusal of a channel counts (log 23). -/
def channelRefusal (s : State) : State :=
  let t := countRefuse s .officeFull
  if (freeChannel s).isSome && officeRoom s then countPool t .call else t

/-- R100: a line count of an attempt or of a connection. -/
def countAttempt (s : State) (l : Line) : State := s.countLine l (fun n => { n with callAttempts := satInc n.callAttempts })
def countConnected (s : State) (l : Line) : State := s.countLine l (fun n => { n with callsConnected := satInc n.callsConnected })

/-- R184: the channel taken, the CALL-SETUP notice placed, CALLS-TERMINATED counted. -/
def grantChannel (s : State) (n : Nat) (id : Identity) (g : Grade) : State :=
  (officePush (setChannel s n (.localCall id g (some entryTimerMs))) (noticeCell s n .callSetup id g 0)).countGw
    (fun x => { x with callsTerminated := satInc x.callsTerminated })

/-- R83, R184: an attempt at a gateway takes a serial and asks for an office channel. -/
def officeAttempt (s : State) (l : Line) (r : CallRecord) : State :=
  let id := nextIdentity s l
  let t := countAttempt (takeSerial s l r) l
  match channelGranted t, freeChannel t with
  | true, some n =>
      let t := grantChannel t n id r.grade
      countConnected
        (t.setLine l
          (enterTalk { t.line l with record := some { r with identity := some id, state := .connected, direction := none, timer := none } })) l
  | _, _ => enterWaiting (channelRefusal t) l r

/-- R82, R83: an attempt of a record that may preempt nobody: that of a preempted record, whose grade is BREAKDOWN; it
leaves the places of the reservation that preempted it (log 8). -/
def attemptPlain (spoken : Spoken) (s : State) (l : Line) (r : CallRecord) : State :=
  if s.isGateway then officeAttempt s l r else attemptSteps false spoken (fun _ t _ => t) 3 s l r

/-- R85, R86: the record of line `l` takes CALL-BROKEN, whatever the reason; `att` starts the next attempt. -/
def breakRecord (att : State → Line → CallRecord → State) (s : State) (l : Line) : State :=
  match (s.line l).record with
  | some r =>
      if recordActive r then
        let t := releaseOwn s r
        let t := t.setLine l (enterCalling (t.line l))
        att t l (rerouted (newRound r))
      else s
  | none => s

/-- R92: the record of a preempted ORIGIN entry. -/
def preemptedRecord (spoken : Spoken) (s : State) (l : Line) : State := breakRecord (attemptPlain spoken) s l

/-- R82, R83: an attempt of the record of line `l`. -/
def attempt (s : State) (l : Line) (r : CallRecord) : State :=
  if s.isGateway then officeAttempt s l r else attemptSteps true unspoken preemptedRecord 3 s l r

/-- R85, R86: CALL-BROKEN to the record of line `l`. -/
def recordBroken (s : State) (l : Line) : State := breakRecord attempt s l

/-- R85: CALL-REFUSE to a SEEKING record: its direction is tried, and it reroutes. -/
def recordRefused (s : State) (l : Line) : State :=
  match (s.line l).record with
  | some r =>
      attempt (releaseOwn s r) l
        (rerouted (match r.direction with | some d => addTried r d | none => r))
  | none => s

/-- R85, R86: CALL-RELEASE to the record of line `l`. -/
def recordReleased (s : State) (l : Line) : State :=
  match (s.line l).record with
  | some r => (releaseOwn s r).setLine l (enterCleared ((releaseOwn s r).line l))
  | none => s

/-- R85, R86: an entry HELD with its voice watch started. -/
def heldEntry (e : SrtEntry) : SrtEntry := { e with held := true, timer := some entryTimerMs }

/-- R86, R96: a VOICE restarts the watch of a HELD entry. -/
def watchedEntry (e : SrtEntry) : SrtEntry := if e.held then { e with timer := some entryTimerMs } else e

/-- R85: CALL-ACCEPT to a SEEKING record. -/
def recordAccepted (s : State) (l : Line) (r : CallRecord) (id : Identity) (d : Side) : State :=
  let t := s.setTable d (changeCall (s.table d) id heldEntry)
  countConnected
    (t.setLine l (enterTalk { t.line l with record := some { r with state := .connected, timer := none } })) l

/-- R80: a payload at the tail of the playout buffer, the oldest removed from a full one. -/
def playoutPush (s : State) (l : Line) (payload : List Byte) : State :=
  if playoutCapacity ≤ (s.line l).playout.length then
    (s.setLine l { s.line l with playout := (s.line l).playout.drop 1 ++ [payload] }).countLine l
      (fun n => { n with playoutOverflow := satInc n.playoutOverflow })
  else s.setLine l { s.line l with playout := (s.line l).playout ++ [payload] }

/-! ## A CALL cell at its origin (R85, R86, R88) -/

/-- R88: a stale ACCEPT or VOICE from side `a` is answered, unless an answer was made in the last 500 ms. -/
def answerStale (s : State) (a : Side) (c : Cell) : State :=
  let id := callOf c.toCellData
  if (s.line id.phone).staleHold.isSome then s
  else
    let t := offerControl s a (callCell s.station .callRelease c.origin id 0 0)
    (t.setLine id.phone { t.line id.phone with staleHold := some staleHoldMs }).countLine id.phone
      (fun n => { n with staleAnswered := satInc n.staleAnswered })

/-- R88: a stale cell, by kind; kinds that R88 does not name are discarded (log 16). -/
def takeStale (s : State) (a : Side) (c : Cell) : State :=
  match c.kind with
  | .callAccept | .voice => answerStale s a c
  | _ => s

/-- R85: the record in SEEKING takes a cell of its identity. -/
def takeSeeking (s : State) (l : Line) (r : CallRecord) (id : Identity) (d : Side) (k : Kind) : State :=
  match k with
  | .callAccept => recordAccepted s l r id d
  | .callRefuse => recordRefused s l
  | .callBroken => recordBroken s l
  | .callRelease => recordReleased s l
  | _ => s

/-- R86: the record in CONNECTED takes a cell of its identity. -/
def takeConnected (s : State) (l : Line) (id : Identity) (d : Side) (c : Cell) : State :=
  match c.kind with
  | .voice =>
      playoutPush (s.setTable d (changeCall (s.table d) id watchedEntry)) l (payloadBytes c.toCellData voiceSamples)
  | .callBroken => recordBroken s l
  | .callRelease => recordReleased s l
  | _ => s

/-- R85 to R88: a CALL cell targeted to this station that names a call of this station. -/
def takeAtOrigin (s : State) (a : Side) (c : Cell) : State :=
  let id := callOf c.toCellData
  match (s.line id.phone).record with
  | some r =>
      match r.state, r.direction, r.identity == some id with
      | .seeking, some d, true => takeSeeking s id.phone r id d c.kind
      | .connected, some d, true => takeConnected s id.phone id d c
      | _, _, _ => takeStale s a c
  | none => takeStale s a c

/-! ## A CALL cell at a path node (R91 to R96) -/

/-- R91: what a setup meets. -/
inductive SetupAnswer where
  | refuse (r : RefuseReason)
  | preempt
  | reserve
deriving DecidableEq, Repr

/-- R91: a table that is not full, or holds a BREAKDOWN entry. -/
def canYield (table : List SrtEntry) : Bool := !tableFull table || (youngestBreakdown table).isSome

/-- R3: a gateway's outer side. -/
def outerSide (s : State) (d : Side) : Bool := s.isGateway && d == otherSide s.inner

/-- R91: the tests in order; `a` is the arrival side. -/
def setupAnswer (s : State) (a : Side) (id : Identity) (g : Grade) : SetupAnswer :=
  let b := otherSide a
  if namesCall (s.table a) id || namesCall (s.table b) id then .refuse .duplicate
  else if !s.inService b || outerSide s b then .refuse .noRoute
  else if tableFull (s.table a) || tableFull (s.table b) then
    if g == .accident && canYield (s.table a) && canYield (s.table b) then .preempt else .refuse .spanFull
  else .reserve

/-- R91: the two PATH entries of a call. -/
def reservePath (s : State) (a : Side) (id : Identity) (g : Grade) : State :=
  let e : SrtEntry := { identity := id, grade := g, held := false, place := .path, faces := .gateway, timer := some entryTimerMs }
  let t := s.setTable (otherSide a) (s.table (otherSide a) ++ [e])
  t.setTable a (t.table a ++ [{ e with faces := .origin }])

/-- R92: the youngest BREAKDOWN call of a full table preempted; the record of an ORIGIN victim takes its event. -/
def yieldTable (s : State) (d : Side) : State :=
  if tableFull (s.table d) then
    match youngestBreakdown (s.table d) with
    | some e => settleVictim (preemptedRecord spokenPath) (preemptEntry s d e) (victimLine e)
    | none => s
  else s

/-- R92: room made for an ACCIDENT setup, in B's table first and in A's if that is then still full; then the entries. -/
def preemptAndReserve (s : State) (a : Side) (id : Identity) (g : Grade) : State :=
  reservePath (yieldTable (yieldTable s (otherSide a)) a) a id g

/-- R42, R8, R41: a path cell that the CCU lets continue goes out of the other side; at a gateway, which has not consumed it,
R8 drops it. -/
def carryOn (s : State) (a : Side) (c : Cell) : State :=
  if s.isGateway then countUndelivered { s with inHand := 0 } else passOn s (otherSide a) c

/-- R93, R95, R96: the entries that a path node holds of a call changed. A gateway is a path node only for a cell that it does
not consume, and holds no PATH entry: its GATEWAY entry is kept by R181 to R183 alone (R89; log 47). -/
def changePath (s : State) (id : Identity) (f : SrtEntry → SrtEntry) : State :=
  if s.isGateway then s else changeBoth s id f

/-- R94: the entries that a path node holds of a call released, as for `changePath`. -/
def releasePath (s : State) (id : Identity) : State := if s.isGateway then s else releaseBoth s id

/-- R91: a CALL-SETUP at a path node. A refusal carries the setup's own grade byte, whatever its value (log 17). -/
def pathSetup (s : State) (a : Side) (c : Cell) : State :=
  let id := callOf c.toCellData
  let g := gradeOf c.aux6
  match setupAnswer s a id g with
  | .refuse r => makeRefuse { s with inHand := 0 } a id c.aux6 r
  | .preempt => carryOn (preemptAndReserve s a id g) a c
  | .reserve => carryOn (reservePath s a id g) a c

/-- The node holds entries of the call. -/
def holdsCall (s : State) (id : Identity) : Bool := namesCall (s.table .up) id || namesCall (s.table .down) id

/-- A grade that the spec does not state, as a byte of the grade field (log 10). -/
def freeGrade (n : Nat) : Byte := if Config.freeBool n then 1 else 0

/-- R93: the CALL-BROKENs that answer an ACCEPT whose path is gone, out of the arrival side first. -/
def lostAccept (s : State) (a : Side) (id : Identity) : State :=
  let t := { s with inHand := 0, freeUses := s.freeUses + 2 }
  makeBroken (makeBroken t a anyGateway id (freeGrade s.freeUses) .lost) (otherSide a) id.station id
    (freeGrade (s.freeUses + 1)) .lost

/-- R93: a CALL-ACCEPT at a path node. -/
def pathAccept (s : State) (a : Side) (c : Cell) : State :=
  let id := callOf c.toCellData
  if holdsCall s id then carryOn (changePath s id heldEntry) a c else lostAccept s a id

/-- R94: CALL-REFUSE, CALL-RELEASE or CALL-BROKEN at a path node. -/
def pathRelease (s : State) (a : Side) (c : Cell) : State := carryOn (releasePath s (callOf c.toCellData)) a c

/-- R95: the grade of an entry becomes ACCIDENT. -/
def upgradedEntry (e : SrtEntry) : SrtEntry := { e with grade := .accident }

/-- R100: UPGRADE-DROPPED. -/
def countUpgradeDropped (s : State) : State := s.countCcu (fun n => { n with upgradeDropped := satInc n.upgradeDropped })

/-- R95: a CALL-UPGRADE at a path node. -/
def pathUpgrade (s : State) (a : Side) (c : Cell) : State :=
  let id := callOf c.toCellData
  if holdsCall s id then carryOn (changePath s id upgradedEntry) a c
  else countUpgradeDropped { s with inHand := 0 }

/-- R96: a VOICE at a path node. -/
def pathVoice (s : State) (a : Side) (c : Cell) : State :=
  carryOn (changePath s (callOf c.toCellData) watchedEntry) a c

/-- R91 to R96: a CALL cell at a path node, by kind. -/
def takeAtPath (s : State) (a : Side) (c : Cell) : State :=
  match c.kind with
  | .callSetup => pathSetup s a c
  | .callAccept => pathAccept s a c
  | .callUpgrade => pathUpgrade s a c
  | .voice => pathVoice s a c
  | _ => pathRelease s a c

/-! ## A CALL cell at the gateway end (R181, R182) -/

/-- R181: the tests in order. -/
def gatewaySetupAnswer (s : State) (id : Identity) (g : Grade) : SetupAnswer :=
  let table := s.table s.inner
  let preempting := tableFull table && g == .accident && (youngestBreakdown table).isSome
  if (findChannel s id).isSome || namesCall table id then .refuse .duplicate
  else if (freeChannel s).isNone || !officeRoom s || (decide (31 ≤ s.gw.toOffice.length) && preempting) then .refuse .officeFull
  else if preempting then .preempt
  else if tableFull table then .refuse .spanFull
  else .reserve

/-- R181: the setup accepted: entry, channel, CALL-ACCEPT, notice in the setup's own buffer. -/
def gatewayAccept (s : State) (c : Cell) (id : Identity) (g : Grade) : State :=
  match freeChannel s with
  | some n =>
      let t := s.setTable s.inner
        (s.table s.inner ++ [{ identity := id, grade := g, held := true, place := .gateway, faces := .origin,
                               timer := some entryTimerMs }])
      let t := setChannel t n (.chain id g)
      let t := offerControl t s.inner (callCell s.station .callAccept id.station id (gradeCode g) 0)
      (officePush { t with inHand := 0 } (onChannel n c)).countGw
        (fun x => { x with callsTerminated := satInc x.callsTerminated })
  | none => s

/-- R181: the youngest BREAKDOWN entry of the inner table preempted. -/
def gatewayPreempt (s : State) : State :=
  match youngestBreakdown (s.table s.inner) with
  | some e => preemptChain s e
  | none => s

/-- R181: a CALL-SETUP at the gateway. A refusal carries the setup's own grade byte, whatever its value (log 17). -/
def gatewaySetup (s : State) (c : Cell) : State :=
  let id := callOf c.toCellData
  let g := gradeOf c.aux6
  match gatewaySetupAnswer s id g with
  | .refuse r => makeRefuse s s.inner id c.aux6 r
  | .preempt => gatewayAccept (gatewayPreempt s) c id g
  | .reserve => gatewayAccept s c id g

/-- R184: office or chain VOICE for a LOCAL channel: its payload is played and its watch restarted. -/
def playLocal (s : State) (n : Nat) (id : Identity) (g : Grade) (c : CellData) : State :=
  playoutPush (setChannel s n (.localCall id g (some entryTimerMs))) id.phone (payloadBytes c voiceSamples)

/-- R182: a CALL-UPGRADE at the gateway. -/
def gatewayUpgrade (s : State) (c : Cell) : State :=
  let id := callOf c.toCellData
  match findChannel s id with
  | some n =>
      match channelAt s n with
      | .chain _ _ =>
          let t := s.setTable s.inner (changeCall (s.table s.inner) id upgradedEntry)
          passNotice (setChannel t n (.chain id .accident)) (chainNotice n .accident c)
      | _ => countUpgradeDropped s
  | none => countUpgradeDropped s

/-- R182: a CALL-RELEASE or CALL-BROKEN at the gateway. -/
def gatewayRelease (s : State) (c : Cell) : State :=
  let id := callOf c.toCellData
  match findChannel s id with
  | some n =>
      match channelAt s n with
      | .chain _ g => passNotice (freeChain s n id) (chainNotice n g c)
      | _ => s
  | none => s

/-- R182: a VOICE for a CHAIN channel goes to the office in its own buffer, or is dropped at a full queue. -/
def passVoice (s : State) (n : Nat) (g : Grade) (c : Cell) : State :=
  if officeRoom s then officePush { s with inHand := 0 } (chainNotice n g c)
  else countOfficeDropped { s with inHand := 0 } .call

/-- R182: a VOICE at the gateway. -/
def gatewayVoice (s : State) (c : Cell) : State :=
  let id := callOf c.toCellData
  match findChannel s id with
  | some n =>
      match channelAt s n with
      | .chain _ g => passVoice (s.setTable s.inner (changeCall (s.table s.inner) id watchedEntry)) n g c
      | .localCall _ g _ => playLocal s n id g c.toCellData
      | .free => s
  | none => s.countGw (fun n => { n with voiceNoChannel := satInc n.voiceNoChannel })

/-- R181, R182: a CALL cell consumed at the gateway, by kind; kinds that they do not name are discarded (log 16). -/
def takeAtGateway (s : State) (c : Cell) : State :=
  match c.kind with
  | .callSetup => gatewaySetup s c
  | .callUpgrade => gatewayUpgrade s c
  | .callRelease | .callBroken => gatewayRelease s c
  | .voice => gatewayVoice s c
  | _ => s

/-! ## Every CALL cell is shown to the CCU (R42, R90) -/

/-- R90: CALL-MISDIRECTED; the cell is stopped. -/
def misdirected (s : State) : State :=
  ({ s with inHand := 0 } : State).countCcu (fun n => { n with callMisdirected := satInc n.callMisdirected })

/-- R42, R90: a CALL cell in hand that arrived on side `a`. At a gateway the cells that R8 consumes are the gateway end's; any
other is taken by its call station, as at a node. -/
def takeCall (s : State) (a : Side) (c : Cell) : State :=
  if s.isGateway && carriage s c == .consume then takeAtGateway s c
  else if (callOf c.toCellData).station = s.station then
    if c.target = s.station then takeAtOrigin s a c else misdirected s
  else if c.target = s.station then misdirected s
  else takeAtPath s a c

/-- R98: one entry of the lost side `d`, in the table's order. -/
def breakEntry (d : Side) (s : State) (e : SrtEntry) : State :=
  match e.place with
  | .path =>
      makeBroken (releaseBoth s e.identity) (otherSide d)
        (match e.faces with | .gateway => e.identity.station | .origin => anyGateway)
        e.identity (gradeCode e.grade) .spanLost
  | .origin => recordBroken (releaseEntry s d e.identity) e.identity.phone
  | .gateway => endChainLost s d e

/-- R98: an entry of the lost side, unless an own call that rerouted before it has preempted it. -/
def breakHeld (d : Side) (s : State) (e : SrtEntry) : State :=
  if namesCall (s.table d) e.identity then breakEntry d s e else s

/-- R98: the CCU takes PORT-DOWN of a side. -/
def circuitsPortDown (s : State) (d : Side) : State := (s.table d).foldl (breakHeld d) s

end Sys2Proof.Machine
end

