-- ==== Sys2Proof/Machine/SignStore.lean ====
section
/-! DEFINITION. The Sign Page Store and Scan: claims, window, cursor, replies, brightness, row drive, and the meanings of
its commands (R128 to R151). -/

namespace Sys2Proof.Machine

/-- R128: the SPS works. -/
def State.signWorks (s : State) : Bool := s.live && signFitted s.straps

/-! ## Claims and the target page (R136 to R142) -/

/-- R142: the target page, none for BLANK. -/
def targetPage (x : Sps) : Option Nat :=
  if x.incident then some 2
  else if x.hazard then some 3
  else
    match x.remote with
    | some .page0 => some 0
    | some .page1 => some 1
    | some .noPage => none
    | none => none

/-- R137: a phone line raises INCIDENT. -/
def raiseIncident (s : State) : State :=
  if incidentAllowed s.straps && !s.sps.incident then
    { s with sps := { s.sps with
        incident := true, counts := { s.sps.counts with incidentRaises := satInc s.sps.counts.incidentRaises } } }
  else s

/-- R138: the SPS takes REASONS-ON. -/
def reasonsOn (s : State) : State :=
  let x := { s.sps with reasonsActive := true }
  if !hazardEnabled s.straps then { s with sps := x }
  else if x.hazard then { s with sps := { x with hazardHold := none } }
  else { s with sps := { x with hazard := true, counts := { x.counts with hazardRaises := satInc x.counts.hazardRaises } } }

/-- R138: the SPS takes REASONS-OFF. -/
def reasonsOff (s : State) : State :=
  let x := { s.sps with reasonsActive := false }
  if hazardEnabled s.straps && x.hazard then { s with sps := { x with hazardHold := some hazardHoldMs } }
  else { s with sps := x }

/-! ## Brightness (R146 to R149) -/

/-- R146: the brightness target. -/
def brightnessTarget (x : Sps) : Byte :=
  match x.dim with
  | .fixed l => l
  | .auto => x.autoTarget

/-- R148: one slew step of a level toward a target. -/
def slewed (level target : Byte) : Byte :=
  if level.toNat < target.toNat then BitVec.ofNat 8 (min (level.toNat + 4) target.toNat)
  else if target.toNat < level.toNat then BitVec.ofNat 8 (max (level.toNat - 4) target.toNat)
  else level

/-- R149: the steps of sub-cycle `i` for which an enable of duty `d` is high, from the first step on. -/
def subCycleSteps (d i : Nat) : Nat := if i < d % 4 then d / 4 + 1 else d / 4

/-! ## Replies (R131) -/

/-- R131: the reasons of a SIGN-REPLY. -/
inductive SignReason where
  | ok
  | badWindow
  | shown
  | active
  | badPage
deriving DecidableEq, Repr

def signReasonCode : SignReason → Byte
  | .ok => 0
  | .badWindow => 1
  | .shown => 2
  | .active => 3
  | .badPage => 4

/-- R131: a page in a reply, 4 for BLANK. -/
def pageCode (p : Option Nat) : Byte :=
  match p with
  | some n => BitVec.ofNat 8 n
  | none => 4

/-- A bit of a byte. -/
def bitAt (i : Nat) (b : Bool) : Byte := if b then BitVec.ofNat 8 (2 ^ i) else 0

/-- R131: byte 3, the claim set. -/
def claimByte (x : Sps) : Byte :=
  bitAt 0 x.incident ||| bitAt 1 x.hazard ||| bitAt 2 x.remote.isSome ||| bitAt 3 x.hazardHold.isSome

/-- R131: byte 4, the page of REMOTE. -/
def remoteByte (x : Sps) : Byte :=
  match x.remote with
  | some .page0 => 0
  | some .page1 => 1
  | _ => 0xFF

/-- R131: the dim mode in a reply and in the status table. -/
def dimByte (x : Sps) : Byte :=
  match x.dim with
  | .fixed _ => 0
  | .auto => 1

/-- R131: the payload of a SIGN-REPLY. -/
def replyPayload (x : Sps) (k : Kind) (written : Nat) : List Byte :=
  [kindCode k, pageCode x.scanned, pageCode (targetPage x), claimByte x, remoteByte x, BitVec.ofNat 8 x.winPage,
   BitVec.ofNat 8 x.curCol, BitVec.ofNat 8 x.curRow, BitVec.ofNat 8 written, x.level, dimByte x, brightnessTarget x]

/-- R131: the SIGN-REPLY to a command, showing the state after it. -/
def replyCell (s : State) (c : Cell) (r : SignReason) (written : Nat) : Cell :=
  makeCell s.station .signReply c.origin c.reference 0 (signReasonCode r) 0 (replyPayload s.sps c.kind written)

/-- R131: the count of a reply's reason. -/
def countReason (n : SpsCounts) : SignReason → SpsCounts
  | .ok => n
  | .badWindow => { n with badWindow := satInc n.badWindow }
  | .shown => { n with shown := satInc n.shown }
  | .active => { n with active := satInc n.active }
  | .badPage => { n with badPage := satInc n.badPage }

/-- R150: REPLIES-LOST. -/
def countReplyLost (s : State) : State := s.countSps (fun n => { n with repliesLost := satInc n.repliesLost })

/-- R131, R186: the reply offered to the arrival side, or handed to the Gateway Unit where there is none. -/
def offerReply (s : State) (side : Option Side) (c : Cell) : State :=
  match side with
  | some d => if offerAnswer s d c == .taken then offerEffect s d c else countReplyLost (offerEffect s d c)
  | none => if answerAccepted s (cellClass c) then answerToOffice s c else countReplyLost (answerToOffice s c)

/-- R130, R131: the command at the head is answered, and its buffer returned when the reply has been made. -/
def finishTask (s : State) (t : SignTask) (r : SignReason) (written : Nat) : State :=
  let s := s.countSps (fun n => countReason n r)
  let s := offerReply s t.side (replyCell s t.cell r written)
  { s with sps := { s.sps with waiting := s.sps.waiting.drop 1, job := none } }

/-- R130: a command of a kind is taken: it stands at the head, no SIGN-PIXELS is in progress (log 25). -/
def takeTask (s : State) (k : Kind) (act : State → SignTask → State) : Host.Outcome State Fault Refusal :=
  if s.signWorks && s.sps.job.isNone then
    match s.sps.waiting with
    | t :: _ =>
        if t.cell.kind == k then done s (act (s.countSps (fun n => { n with signCommands := satInc n.signCommands })) t)
        else .next s
    | [] => .next s
  else .next s

/-! ## Window and pixels (R132 to R135) -/

/-- R132: a SIGN-WINDOW is accepted. -/
def windowOk (c : CellData) : Bool :=
  c.length == 4 && decide (c.aux7.toNat ≤ 3)
  && decide ((payloadByte c 0).toNat ≤ (payloadByte c 1).toNat) && decide ((payloadByte c 1).toNat ≤ 127)
  && decide ((payloadByte c 2).toNat ≤ (payloadByte c 3).toNat) && decide ((payloadByte c 3).toNat ≤ 31)

/-- R132: the window and cursor that a SIGN-WINDOW sets. -/
def setWindow (x : Sps) (c : CellData) : Sps :=
  { x with
    winPage := c.aux7.toNat
    c0 := (payloadByte c 0).toNat, c1 := (payloadByte c 1).toNat
    r0 := (payloadByte c 2).toNat, r1 := (payloadByte c 3).toNat
    curCol := (payloadByte c 0).toNat, curRow := (payloadByte c 2).toNat }

/-- R132: SIGN-WINDOW. -/
def takeWindow (s : State) (t : SignTask) : State :=
  if windowOk t.cell.toCellData then finishTask { s with sps := setWindow s.sps t.cell.toCellData } t .ok 0
  else finishTask s t .badWindow 0

/-- R133: the pixel count of a SIGN-PIXELS. -/
def pixelCount (c : CellData) : Nat := 256 * c.aux6.toNat + c.aux7.toNat

/-- R133: the count and the length pass. -/
def pixelsOk (c : CellData) : Bool :=
  decide (1 ≤ pixelCount c) && decide (pixelCount c ≤ 192) && decide ((pixelCount c + 3) / 4 ≤ c.length.toNat)

/-- R133: pixel `k` of the payload, packed four to a byte, the first in bits 7 and 6. -/
def pixelAt (c : CellData) (k : Nat) : Byte := (payloadByte c (k / 4) >>> (6 - 2 * (k % 4))) &&& 3

/-- R133: SIGN-PIXELS: the tests; the pixels follow one by one. -/
def takePixels (s : State) (t : SignTask) : State :=
  if pixelsOk t.cell.toCellData then { s with sps := { s.sps with job := some 0 } } else finishTask s t .badWindow 0

/-- R129: the address of a pixel. -/
def pixelAddress (page col row : Nat) : Nat := 4096 * page + 128 * row + col

/-- R135: the window page is the scanned or the target page. -/
def pageShown (x : Sps) : Bool := x.scanned == some x.winPage || targetPage x == some x.winPage

/-- R133: the cursor at which pixel `k` is written. -/
def writeCursor (x : Sps) (c : CellData) (k : Nat) : Nat × Nat :=
  if k = 0 && startFlag c then (x.c0, x.r0) else (x.curCol, x.curRow)

/-- R134: the cursor after a pixel. -/
def cursorAfter (x : Sps) (p : Nat × Nat) : Nat × Nat :=
  if p.1 < x.c1 then (p.1 + 1, p.2) else if p.2 < x.r1 then (x.c0, p.2 + 1) else (x.c0, x.r0)

/-- R134: pixel `k` of a SIGN-PIXELS written. -/
def writePixel (x : Sps) (c : CellData) (k : Nat) : Sps :=
  let p := writeCursor x c k
  { x with
    pages := Memory.write x.pages (pixelAddress x.winPage p.1 p.2) (pixelAt c k)
    curCol := (cursorAfter x p).1, curRow := (cursorAfter x p).2
    job := some (k + 1)
    counts := { x.counts with pixelsWritten := satInc x.counts.pixelsWritten } }

/-- R134, R135: one step of the SIGN-PIXELS at the head, `k` pixels written so far. -/
def pixelStep (s : State) (t : SignTask) (k : Nat) : State :=
  if pageShown s.sps then finishTask s t .shown k
  else if k + 1 < pixelCount t.cell.toCellData then { s with sps := writePixel s.sps t.cell.toCellData k }
  else finishTask { s with sps := writePixel s.sps t.cell.toCellData k } t .ok (k + 1)

/-! ## SHOW, CLEAR, DIM (R140, R141, R146) -/

/-- R140: the page a SIGN-SHOW names. -/
def showOperand (b : Byte) : Option RemotePage :=
  if b = 0 then some .page0 else if b = 1 then some .page1 else if b = 0xFF then some .noPage else none

/-- R140: SIGN-SHOW. -/
def takeShow (s : State) (t : SignTask) : State :=
  match showOperand t.cell.aux7 with
  | some r => finishTask { s with sps := { s.sps with remote := some r } } t .ok 0
  | none => finishTask s t .badPage 0

/-- R141: SIGN-CLEAR. -/
def takeClear (s : State) (t : SignTask) : State :=
  if t.cell.aux7 = 1 then finishTask { s with sps := { s.sps with incident := false } } t .ok 0
  else if t.cell.aux7 = 2 then
    if hazardEnabled s.straps && s.sps.reasonsActive then finishTask s t .active 0
    else finishTask { s with sps := { s.sps with hazard := false, hazardHold := none } } t .ok 0
  else if t.cell.aux7 = 3 then finishTask { s with sps := { s.sps with remote := none } } t .ok 0
  else finishTask s t .badPage 0

/-- R146: SIGN-DIM. -/
def takeDim (s : State) (t : SignTask) : State :=
  if t.cell.aux7 = 0 && t.cell.length != 0 then
    let l := payloadByte t.cell.toCellData 0
    finishTask { s with sps := { s.sps with dim := .fixed l, level := l } } t .ok 0
  else if t.cell.aux7 = 1 then finishTask { s with sps := { s.sps with dim := .auto } } t .ok 0
  else finishTask s t .badPage 0

/-! ## Refresh (R143 to R145) -/

/-- R144: the flash place of a page that becomes scanned. -/
def flashStart (page : Option Nat) : Option Nat := if page = some 2 ∨ page = some 3 then some 0 else none

/-- R143, R144: the refresh boundary. -/
def boundary (x : Sps) : Sps :=
  if targetPage x = x.scanned then { x with nextRow := 0, flash := x.flash.map (fun k => (k + 1) % flashCycle) }
  else
    { x with
      nextRow := 0, scanned := targetPage x, flash := flashStart (targetPage x)
      counts := { x.counts with pageChanges := satInc x.counts.pageChanges } }

/-- R144: the frame is a blank one of a flash cycle. -/
def blankFrame (x : Sps) : Bool :=
  match x.flash with
  | some k => decide (flashShown ≤ k)
  | none => false

/-- R145: the value of one pixel as the drivers take it. -/
def driverValue (x : Sps) (col row : Nat) : BitVec 2 :=
  match x.scanned with
  | some p => if blankFrame x then 0 else (Memory.read x.pages (pixelAddress p col row)).extractLsb' 0 2
  | none => 0

/-- R145, R149: a row period: the row loaded and latched, the duties taken from the level. -/
def driveRow (x : Sps) : Sps :=
  { x with
    rowAddr := x.nextRow
    drivers := (List.range 128).map (fun col => driverValue x col x.nextRow)
    duty1 := x.level.toNat / 4, duty2 := x.level.toNat / 2, duty3 := x.level.toNat
    nextRow := x.nextRow + 1 }

/-! ## The commands -/

/-- R9, R130: a SIGN command in hand consumed here waits its turn with its buffer and its arrival side. -/
def consumeSign (a : Side) (c : Cell) (s : State) : State :=
  if signFitted s.straps then
    { s with inHand := 0, sps := { s.sps with waiting := s.sps.waiting ++ [{ cell := c, side := some a }] } }
  else countNoConsumer s

/-- SIGN_COMMAND_CONSUMED (R8, R9, R130). -/
def execSignCommandConsumed (p : Port) (k : SignCommand) (c : CellData) (s : State) : Host.Outcome State Fault Refusal :=
  let x := cellOf (signKind k) c
  done s (transitArrival s p x (fun t => carry t (t.sideOf p) x (consumeSign (t.sideOf p) x)))

/-- SIGN_WINDOW (R132). -/
def execSignWindow (s : State) : Host.Outcome State Fault Refusal := takeTask s .signWindow takeWindow

/-- SIGN_PIXELS (R133). -/
def execSignPixels (s : State) : Host.Outcome State Fault Refusal := takeTask s .signPixels takePixels

/-- PIXEL_WRITE (R134, R135). -/
def execPixelWrite (s : State) : Host.Outcome State Fault Refusal :=
  if s.signWorks then
    match s.sps.job, s.sps.waiting with
    | some k, t :: _ => done s (pixelStep s t k)
    | _, _ => .next s
  else .next s

/-- SIGN_SHOW (R140). -/
def execSignShow (s : State) : Host.Outcome State Fault Refusal := takeTask s .signShow takeShow

/-- SIGN_CLEAR (R141). -/
def execSignClear (s : State) : Host.Outcome State Fault Refusal := takeTask s .signClear takeClear

/-- SIGN_DIM (R146). -/
def execSignDim (s : State) : Host.Outcome State Fault Refusal := takeTask s .signDim takeDim

/-- HAZARD_HOLD_EXPIRY (R139). -/
def execHazardHoldExpiry (s : State) : Host.Outcome State Fault Refusal :=
  if s.signWorks && s.sps.hazardHold.isSome then
    .next { s with sps := { s.sps with
      hazard := false, hazardHold := none
      counts := { s.sps.counts with hazardExpiries := satInc s.sps.counts.hazardExpiries } } }
  else .next s

/-- REFRESH_BOUNDARY (R143, R144). -/
def execRefreshBoundary (s : State) : Host.Outcome State Fault Refusal :=
  if s.signWorks then .next { s with sps := boundary s.sps } else .next s

/-- ROW_PERIOD (R145, R149). After row 31 the boundary comes first (log 27). -/
def execRowPeriod (s : State) : Host.Outcome State Fault Refusal :=
  if s.signWorks && decide (s.sps.nextRow < 32) then .next { s with sps := driveRow s.sps } else .next s

/-- BRIGHTNESS_SLEW (R148). -/
def execBrightnessSlew (s : State) : Host.Outcome State Fault Refusal :=
  if s.signWorks then
    .next { s with sps := { s.sps with level := slewed s.sps.level (brightnessTarget s.sps), slewPeriod := some slewMs } }
  else .next s

end Sys2Proof.Machine
end

