-- ==== Sys2Proof/Machine/Weather.lean ====
section
/-! DEFINITION. The Weather Sampling Unit: converter and sweep, channels, wind, rain, road surface, hazard reasons,
reports, and the meanings of its commands (R152 to R174). -/

namespace Sys2Proof.Machine

/-- R152: the WSU works. -/
def State.weatherWorks (s : State) : Bool := s.live && weatherFitted s.straps

/-! ## Channels (R155 to R158) -/

/-- Channel AN`n`, 1 to 12. -/
def channelOf (w : Wsu) (n : Nat) : Channel := w.channels.getD (n - 1) {}

/-- R155: the class of a result: none for a valid one. -/
def resultFault (r : BitVec 12) : Option SampleFault :=
  if r.toNat ≤ 8 then some .openLead else if 4087 ≤ r.toNat then some .short else none

/-- R156: a valid sample in the ring. -/
def ringPush (ring : List (BitVec 12)) (r : BitVec 12) : List (BitVec 12) :=
  if ringCapacity ≤ ring.length then ring.drop 1 ++ [r] else ring ++ [r]

/-- R155 to R157: a channel takes a result. The ring is emptied at the entry into FAULT alone, so valid samples taken in
FAULT before a faulted one still stand in it at the return to OK (log 42, the model's choice). -/
def channelTakes (c : Channel) (r : BitVec 12) : Channel :=
  match resultFault r with
  | none =>
      let run := min 3 (c.validRun + 1)
      { c with ring := ringPush c.ring r, faultedRun := 0, validRun := run, fault := c.fault && decide (run < 3) }
  | some k =>
      let run := min 3 (c.faultedRun + 1)
      if !c.fault && run = 3 then
        { c with ring := [], faultedRun := run, validRun := 0, lastFault := some k, fault := true,
                 faultEntries := satInc c.faultEntries }
      else { c with faultedRun := run, validRun := 0, lastFault := some k }

/-- R156: the average of a channel. -/
def average (c : Channel) : Option Nat :=
  if c.ring.isEmpty then none else some ((c.ring.map BitVec.toNat).sum / c.ring.length)

/-- R147: the AUTO target of AN4. -/
def autoTargetOf (c : Channel) : Byte :=
  if c.fault then autoFallback
  else
    match average c with
    | some a => autoBand a
    | none => autoFallback

/-- R158: an AN4 result handed to the SPS where the sign job is fitted. -/
def handLight (s : State) : State :=
  if signFitted s.straps then { s with sps := { s.sps with autoTarget := autoTargetOf (channelOf s.wsu 4) } } else s

/-! ## Hazard reasons (R162, R167, R168) -/

/-- R162: reason WIND. -/
def windActive (w : Wsu) : Bool := w.gustMark || w.windMemory.any (fun m => m)

/-- R167: reason ICE. -/
def iceActive (w : Wsu) : Bool := w.road == .ice

/-- R168: the set of active reasons is not empty. -/
def reasonsActive (w : Wsu) : Bool := windActive w || iceActive w

/-- R168: the change of the reasons from `before` to `after` handed to the SPS. -/
def settleReasons (before after : State) : State :=
  if !reasonsActive before.wsu && reasonsActive after.wsu then
    let t := after.countWsu (fun n => { n with hazardOnsets := satInc n.hazardOnsets })
    if signFitted t.straps then reasonsOn t else t
  else if reasonsActive before.wsu && !reasonsActive after.wsu then
    if signFitted after.straps then reasonsOff after else after
  else after

/-! ## Wind (R159 to R161) -/

/-- R160: a pulse takes the counter past 255. -/
def pulseOverflows (w : Wsu) : Bool := w.windCounter == 255

/-- R160: the WSU after a WIND pulse; `preload` is 256 - L. -/
def windPulsed (preload : Nat) (w : Wsu) : Wsu :=
  if pulseOverflows w then
    if w.overflows = 0 then
      { w with
        windCounter := BitVec.ofNat 8 preload, overflows := 1, gustMark := true, periodGusts := satInc w.periodGusts
        counts := { w.counts with gusts := satInc w.counts.gusts } }
    else { w with windCounter := BitVec.ofNat 8 preload, overflows := satInc w.overflows }
  else { w with windCounter := w.windCounter + 1 }

/-- R161: the window count; `l` is the gust limit. -/
def windowCount (l preload : Nat) (w : Wsu) : Half := BitVec.ofNat 16 (w.windCounter.toNat - preload + l * w.overflows.toNat)

/-- R161: the count replaces the period maximum. -/
def newMaximum (w : Wsu) (c : Half) : Bool :=
  match w.periodMax with
  | none => true
  | some m => decide (m.toNat < c.toNat)

/-- R162: the ending window's mark in the wind memory. -/
def memoryPush (m : List Bool) (mark : Bool) : List Bool :=
  if windMemoryCapacity ≤ m.length then m.drop 1 ++ [mark] else m ++ [mark]

/-- R159, R161, R162: a window ends and the next begins. -/
def windowTurned (l preload : Nat) (w : Wsu) : Wsu :=
  let c := windowCount l preload w
  { w with
    latestWindow := c
    periodMax := if newMaximum w c then some c else w.periodMax
    gustDir := if newMaximum w c then average (channelOf w 5) else w.gustDir
    windMemory := memoryPush w.windMemory w.gustMark
    gustMark := false, windCounter := BitVec.ofNat 8 preload, overflows := 0
    windowPeriod := some windowMs
    counts := { w.counts with windows := satInc w.counts.windows } }

/-! ## Rain (R163, R164) -/

/-- R164: a tip taken by the interval timer. -/
def intervalTip (w : Wsu) : Wsu :=
  match w.interval with
  | .unarmed => { w with interval := .running 0 0 }
  | .running t _ => { w with interval := .running 0 0, lastInterval := some (BitVec.ofNat 16 (max 1 t)) }
  | .stopped => { w with interval := .running 0 0 }

/-- R163: a tip. -/
def rainTipped (w : Wsu) : Wsu :=
  intervalTip { w with tips := satInc w.tips, counts := { w.counts with tips := satInc w.counts.tips } }

/-! ## Road surface (R165 to R167) -/

/-- R167: the road state at a race end. -/
def judgeRoad (w : Wsu) (r : RaceResult) : Road :=
  match r with
  | .fast => .unknown
  | .stopped => .unknown
  | .count c =>
      if dryCount ≤ c.toNat then .dry
      else if (channelOf w 2).fault then .wet
      else
        match average (channelOf w 2) with
        | some a => if a ≤ freezingCode then .ice else .wet
        | none => .wet

/-- R166: the flags of a race end counted. -/
def countRace (n : WsuCounts) (r : RaceResult) : WsuCounts :=
  match r with
  | .fast => { n with races := satInc n.races, racesFast := satInc n.racesFast }
  | .stopped => { n with races := satInc n.races, racesStopped := satInc n.racesStopped }
  | .count _ => { n with races := satInc n.races }

/-- R166, R167: a race ends with a result; the surface counter stops at `surface`. -/
def raceEnded (w : Wsu) (r : RaceResult) (reference surface : Half) : Wsu :=
  { w with
    racing := false, refCounter := reference, surfCounter := surface, race := some r, road := judgeRoad w r
    counts := countRace w.counts r }

/-- R166: the result when the reference overflows first. -/
def referenceResult (surface : Half) : RaceResult := if surface = 0 then .stopped else .count surface

/-! ## Reports (R169 to R172) -/

/-- R157, R170: the average that a report carries for a channel: none while its status is FAULT. -/
def shownAverage (c : Channel) : Option Nat := if c.fault then none else average c

/-- R170: the two bytes of a channel. -/
def channelHalf (c : Channel) : Half :=
  BitVec.ofNat 16 ((if c.fault then 32768 else 0) + (match shownAverage c with | some a => a | none => 16384))

/-- R170: the road state's code. -/
def roadCode : Road → Nat
  | .dry => 0
  | .wet => 1
  | .ice => 2
  | .unknown => 3

/-- R170: byte 38. -/
def surfaceByte (w : Wsu) : Byte :=
  BitVec.ofNat 8 (roadCode w.road) ||| bitAt 2 (w.race == some .fast) ||| bitAt 3 (w.race == some .stopped)
    ||| bitAt 4 (w.interval == .stopped)

/-- R170: byte 39. -/
def reasonsByte (w : Wsu) : Byte := bitAt 0 (windActive w) ||| bitAt 1 (iceActive w)

/-- R170: the surface result. -/
def surfaceResult (w : Wsu) : Half :=
  match w.race with
  | some (.count c) => c
  | _ => 0

/-- R170: the payload of a WEATHER-REPORT. -/
def reportPayload (w : Wsu) : List Byte :=
  halfBytes w.reportNumber
    ++ (List.range 12).flatMap (fun i => halfBytes (channelHalf (channelOf w (i + 1))))
    ++ halfBytes w.latestWindow
    ++ halfBytes (w.periodMax.getD 0)
    ++ halfBytes (match w.gustDir with | some a => BitVec.ofNat 16 a | none => 0xFFFF)
    ++ halfBytes w.tips
    ++ halfBytes (w.lastInterval.getD 0)
    ++ halfBytes (surfaceResult w)
    ++ [surfaceByte w, reasonsByte w, w.periodGusts]

/-- R169, R171: a WEATHER-REPORT. -/
def reportCell (s : State) (target : Byte) (reference : Half) (aux7 : Byte) : Cell :=
  makeCell s.station .weatherReport target reference 0 aux7 0 (reportPayload s.wsu)

/-- R173: the counts of a periodic report's fate. -/
def countReportSent (s : State) : State := s.countWsu (fun n => { n with reportsSent := satInc n.reportsSent })
def countReportRefused (s : State) : State := s.countWsu (fun n => { n with reportsRefused := satInc n.reportsRefused })
def countReportNoReach (s : State) : State := s.countWsu (fun n => { n with reportsNoReach := satInc n.reportsNoReach })

/-- R169: the periodic report offered toward the nearest gateway. -/
def offerReport (s : State) (c : Cell) : State :=
  match s.nearest with
  | none => countReportNoReach s
  | some d => if offerAnswer s d c == .taken then countReportSent (offerEffect s d c) else countReportRefused (offerEffect s d c)

/-- R172: at a gateway the report is handed to the Gateway Unit: the pool first, then the queue (R186). -/
def handReport (s : State) (c : Cell) : State :=
  if floorMet s .report then
    if officeRoom s then countReportSent (officePush s (onChannel 0 c)) else countReportSent (countOfficeDropped s .report)
  else countReportRefused (countPool s .report)

/-- R169: the period counters restart. -/
def restartPeriod (w : Wsu) : Wsu :=
  { w with tips := 0, periodMax := none, gustDir := none, periodGusts := 0, reportPeriod := some reportMs }

/-- R169: the report period ends. -/
def reportEnded (s : State) : State :=
  let t : State := { s with wsu := { s.wsu with reportNumber := s.wsu.reportNumber + 1 } }
  let c := reportCell t anyGateway t.wsu.reportNumber 0
  let u := if t.isGateway then handReport t c else offerReport t c
  { u with wsu := restartPeriod u.wsu }

/-- R173: the counts of a poll's answer. -/
def countPollAnswered (s : State) : State := s.countWsu (fun n => { n with pollsAnswered := satInc n.pollsAnswered })
def countPollLost (s : State) : State := s.countWsu (fun n => { n with pollAnswersLost := satInc n.pollAnswersLost })

/-- R171, R172: a poll consumed, answered out of its arrival side or handed back to the Gateway Unit. -/
def answerPoll (s : State) (side : Option Side) (poll : CellData) : State :=
  let c := reportCell s poll.origin poll.reference 1
  match side with
  | some d => if offerAnswer s d c == .taken then countPollAnswered (offerEffect s d c) else countPollLost (offerEffect s d c)
  | none => if answerAccepted s .report then countPollAnswered (answerToOffice s c) else countPollLost (answerToOffice s c)

/-! ## The converter (R153, R154) -/

/-- R154: a sweep starts, or the one in progress is abandoned. -/
def sweepStarted (w : Wsu) : Wsu :=
  match w.converter with
  | .idle => { w with converter := .settling 1, settle := some settleMs, sweepPeriod := some sweepMs }
  | _ =>
      { w with
        converter := .idle, settle := none, sweepPeriod := some sweepMs
        counts := { w.counts with sweepsSkipped := satInc w.counts.sweepsSkipped } }

/-- R155: FAULTED-SAMPLES. -/
def countSample (n : WsuCounts) (r : BitVec 12) : WsuCounts :=
  if (resultFault r).isSome then { n with faultedSamples := satInc n.faultedSamples } else n

/-- R154: the next channel selected, or the sweep ended. -/
def sweepOn (w : Wsu) (n : Nat) : Wsu :=
  if n < 12 then { w with converter := .settling (n + 1), settle := some settleMs }
  else { w with converter := .idle, settle := none, counts := { w.counts with sweeps := satInc w.counts.sweeps } }

/-- R155: channel `n` takes a result. -/
def sampleTaken (w : Wsu) (n : Nat) (r : BitVec 12) : Wsu :=
  { w with channels := w.channels.set (n - 1) (channelTakes (channelOf w n) r), counts := countSample w.counts r }

/-- R153 to R158: an end of conversion of channel `n`. -/
def conversionEnded (s : State) (n : Nat) (r : BitVec 12) : State :=
  let t : State := { s with wsu := sampleTaken s.wsu n r }
  let t := if n = 4 then handLight t else t
  { t with wsu := sweepOn t.wsu n }

/-! ## The commands -/

/-- SWEEP_START (R154). -/
def execSweepStart (s : State) : Host.Outcome State Fault Refusal :=
  if s.weatherWorks then .next { s with wsu := sweepStarted s.wsu } else .next s

/-- SETTLE_EXPIRY (R153). -/
def execSettleExpiry (s : State) : Host.Outcome State Fault Refusal :=
  if s.weatherWorks then
    match s.wsu.converter with
    | .settling n => .next { s with wsu := { s.wsu with converter := .converting n, settle := none } }
    | _ => .next s
  else .next s

/-- END_OF_CONVERSION (R153 to R158). With the converter not CONVERTING it is disregarded (R154). -/
def execEndOfConversion (result : BitVec 12) (s : State) : Host.Outcome State Fault Refusal :=
  if s.weatherWorks then
    match s.wsu.converter with
    | .converting n => .next (conversionEnded s n result)
    | _ => .next s
  else .next s

/-- WIND_PULSE (R160). -/
def execWindPulse (s : State) : Host.Outcome State Fault Refusal :=
  if s.weatherWorks then .next (settleReasons s { s with wsu := windPulsed (strapPreload s.straps) s.wsu }) else .next s

/-- WIND_WINDOW_START (R159, R161, R162). -/
def execWindWindowStart (s : State) : Host.Outcome State Fault Refusal :=
  if s.weatherWorks then
    .next (settleReasons s { s with wsu := windowTurned (strapGustLimit s.straps) (strapPreload s.straps) s.wsu })
  else .next s

/-- RAIN_TIP (R163, R164). -/
def execRainTip (s : State) : Host.Outcome State Fault Refusal :=
  if s.weatherWorks then .next { s with wsu := rainTipped s.wsu } else .next s

/-- INTERVAL_TIMER_STOP (R164). -/
def execIntervalTimerStop (s : State) : Host.Outcome State Fault Refusal :=
  if s.weatherWorks then
    match s.wsu.interval with
    | .running _ _ =>
        .next { s with wsu := { s.wsu with
          interval := .stopped, counts := { s.wsu.counts with noRainStops := satInc s.wsu.counts.noRainStops } } }
    | _ => .next s
  else .next s

/-- SURFACE_RACE_START (R165). -/
def execSurfaceRaceStart (s : State) : Host.Outcome State Fault Refusal :=
  if s.weatherWorks then
    .next { s with wsu := { s.wsu with
      racing := true, refCounter := referenceLoad, surfCounter := 0, racePeriod := some raceMs } }
  else .next s

/-- REFERENCE_OVERFLOW (R166): the reference counter passes 65,535 to 0. -/
def execReferenceOverflow (surface : Half) (s : State) : Host.Outcome State Fault Refusal :=
  if s.weatherWorks && s.wsu.racing then
    .next (settleReasons s { s with wsu := raceEnded s.wsu (referenceResult surface) 0 surface })
  else .next s

/-- SURFACE_OVERFLOW (R166): the surface counter passes 65,535 to 0. -/
def execSurfaceOverflow (s : State) : Host.Outcome State Fault Refusal :=
  if s.weatherWorks && s.wsu.racing then
    .next (settleReasons s { s with wsu := raceEnded s.wsu .fast s.wsu.refCounter 0 })
  else .next s

/-- REPORT_PERIOD_END (R169, R172). -/
def execReportPeriodEnd (s : State) : Host.Outcome State Fault Refusal :=
  if s.weatherWorks then done s (reportEnded s) else .next s

/-- R8, R9: a WEATHER-POLL in hand consumed here. -/
def consumePoll (a : Side) (c : Cell) (s : State) : State :=
  if weatherFitted s.straps then answerPoll s (some a) c.toCellData else countNoConsumer s

/-- WEATHER_POLL (R8, R171). -/
def execWeatherPoll (p : Port) (c : CellData) (s : State) : Host.Outcome State Fault Refusal :=
  let x := cellOf .weatherPoll c
  done s (transitArrival s p x (fun t => carry t (t.sideOf p) x (consumePoll (t.sideOf p) x)))

/-- R8, R9: a cell for the office consumed here: to the Gateway Unit at a gateway, NO-CONSUMER elsewhere. -/
def consumeForOffice (c : Cell) (s : State) : State := if s.isGateway then passToOffice s c else countNoConsumer s

/-- WEATHER_REPORT (R8, R186). -/
def execWeatherReport (p : Port) (c : CellData) (s : State) : Host.Outcome State Fault Refusal :=
  let x := cellOf .weatherReport c
  done s (transitArrival s p x (fun t => carry t (t.sideOf p) x (consumeForOffice x)))

end Sys2Proof.Machine
end

