-- ==== Sys2Proof/Machine/Status.lean ====
section
/-! DEFINITION. The status table: its fields, the banks of the counter window, ALERT, the counter clear and the node
answerer's payload (R194 to R198). A byte for which the spec states no value is a free value (log 9). -/

namespace Sys2Proof.Machine

/-! ## ALERT (R198) -/

/-- R12: the strap check's result, once a reset has ended. -/
def alertStrap (s : State) : Bool := s.running && strapFault s.straps
def alertPort (s : State) : Bool := s.ports.sp1.state == .fault || s.ports.sp2.state == .fault
def alertChannel (s : State) : Bool := s.wsu.channels.any (fun c => c.fault)
def alertKey (s : State) : Bool := s.lines.line0.keyStuck || s.lines.line1.keyStuck

/-- R198: ALERT is asserted; it is released while RESET is low. -/
def alertAsserted (s : State) : Bool :=
  s.running && (alertStrap s || alertPort s || s.gli.flowStopped || alertChannel s || alertKey s)

/-- R196: offset 0x14. -/
def alertByte (s : State) : Byte :=
  bitAt 0 (alertStrap s) ||| bitAt 1 (alertPort s) ||| bitAt 2 s.gli.flowStopped ||| bitAt 3 (alertChannel s)
    ||| bitAt 4 (alertKey s) ||| bitAt 7 (alertAsserted s)

/-! ## Fields -/

/-- A field of the status table: its first offset and its bytes, most significant first. -/
structure Field where
  off : Nat
  bytes : List Byte
deriving DecidableEq, Repr

def field1 (off : Nat) (b : Byte) : Field := ⟨off, [b]⟩
def field2 (off : Nat) (h : Half) : Field := ⟨off, halfBytes h⟩
def fieldNat1 (off n : Nat) : Field := field1 off (BitVec.ofNat 8 n)
def fieldNat2 (off n : Nat) : Field := field2 off (BitVec.ofNat 16 n)

/-- Log 9: the free byte at an offset, fresh at each use. -/
def freeAt (s : State) (off : Nat) : Byte := Config.freeByte (256 * s.freeUses + off)

/-- Log 9: a free 2-byte value. -/
def freeField2 (s : State) (off : Nat) : Field := ⟨off, [freeAt s off, freeAt s (off + 1)]⟩

/-- R196: an identity field with no identity: the station reads 0, phone and serial are free (log 9). -/
def noIdentity (s : State) (off : Nat) : Field := ⟨off, [0, freeAt s (off + 1)]⟩

def portStateCode : PortState → Nat
  | .dark => 0
  | .seek => 1
  | .up => 2
  | .doze => 3
  | .waking => 4
  | .fault => 5

def sideCode : Side → Nat
  | .up => 0
  | .down => 1

def faultCode : Option PortFault → Nat
  | none => 0
  | some .duplicate => 1
  | some .misordered => 2

/-- The side a port serves, 0xFF where FLIP is a strap fault (log 40). -/
def sideServed (s : State) (p : Port) : Byte :=
  if flipLevelFault s.straps then 0xFF else BitVec.ofNat 8 (sideCode (s.sideOf p))

/-- R196: offsets 0x18 to 0x1F and 0x20 to 0x27. -/
def portFields (s : State) (base : Nat) (p : Port) : List Field :=
  let u := s.port p
  [fieldNat1 base (portStateCode u.state), field1 (base + 1) (sideServed s p),
   field1 (base + 2) (bitAt 0 u.lock ||| bitAt 1 u.dozeRetry.isSome),
   field1 (base + 3) (match u.neighbour with | some n => n.station | none => 0),
   field1 (base + 4) (match u.neighbour with | some n => roleCode n.role | none => 0xFF),
   fieldNat1 (base + 5) (faultCode u.faultReason)]

/-- R196: offsets 0x28 to 0x2E and 0x2F to 0x35. -/
def reachFields (e : ReachEntry) (base : Nat) : List Field :=
  [field1 base (bitAt 0 e.held ||| bitAt 1 e.valid), field1 (base + 1) e.gateway, field1 (base + 2) e.hops,
   field2 (base + 3) e.sequence, field2 (base + 5) e.age]

/-- R196: offset 0x36. -/
def nearestCode (s : State) : Nat :=
  if s.isGateway then 3
  else
    match s.nearest with
    | some d => sideCode d
    | none => 2

/-- R196: offsets 0x3A to 0x43 and 0x44 to 0x4D. -/
def tiuFields (t : Tiu) (base : Nat) : List Field :=
  [fieldNat1 base t.tqCall.length, fieldNat2 (base + 1) t.tqData.length, fieldNat1 (base + 3) t.insLink.length,
   fieldNat1 (base + 4) t.insCall.length, fieldNat1 (base + 5) t.insToll.length, fieldNat1 (base + 6) t.insSign.length,
   fieldNat1 (base + 7) t.insReport.length,
   field1 (base + 8) (bitAt 0 t.beaconSlot.isSome ||| bitAt 1 t.holdExpiry.isSome ||| bitAt 2 t.holdRepeat.isSome),
   fieldNat1 (base + 9) t.fairness]

def lineStateCode : LineState → Nat
  | .idle => 0
  | .offhookCheck => 1
  | .calling => 2
  | .talk => 3
  | .cleared => 4

def recordStateCode : RecordState → Nat
  | .reroute => 1
  | .seeking => 2
  | .connected => 3
  | .waiting => 4

/-- A direction field. -/
def directionByte (d : Option Side) : Byte :=
  match d with
  | some x => BitVec.ofNat 8 (sideCode x)
  | none => 0xFF

/-- The record part of a line's fields, from offset `base + 2`. -/
def recordFields (s : State) (base : Nat) (r : Option CallRecord) : List Field :=
  match r with
  | some r =>
      [fieldNat1 (base + 2) (recordStateCode r.state),
       (match r.identity with | some id => field2 (base + 3) (referenceOf id) | none => noIdentity s (base + 3)),
       field1 (base + 5) (gradeCode r.grade), field1 (base + 6) (directionByte r.direction),
       field1 (base + 7) (bitAt 0 r.triedUp ||| bitAt 1 r.triedDown)]
  | none =>
      [fieldNat1 (base + 2) 0, noIdentity s (base + 3), field1 (base + 5) (freeAt s (base + 5)), field1 (base + 6) 0xFF,
       field1 (base + 7) (freeAt s (base + 7))]

/-- R196: offsets 0x50 to 0x57 and 0x58 to 0x5F. -/
def lineFields (s : State) (base : Nat) (x : PhoneLine) : List Field :=
  [fieldNat1 base (lineStateCode x.state), field1 (base + 1) (bitAt 0 x.keyStuck)] ++ recordFields s base x.record

/-- R196: offsets 0x00 to 0x14. Of the gust limit and the preload, which R14 calls shown in a node without the weather job too,
the layout holds the limit alone: there the preload is seen as 256 less the limit at 0x13 (log 46, the model's choice). -/
def identityFields (s : State) : List Field :=
  let k := s.straps
  [fieldNat1 0x00 0x40, fieldNat1 0x01 0x01, fieldNat1 0x02 0, field2 0x03 s.powerOnCount,
   fieldNat1 0x05 (levelValue k.stn3), fieldNat1 0x06 (levelValue k.stn2), fieldNat1 0x07 (levelValue k.stn1),
   fieldNat1 0x08 (levelValue k.stn0), fieldNat1 0x09 (levelValue k.role), fieldNat1 0x0A (levelValue k.flip),
   fieldNat1 0x0B (levelValue k.fit1), fieldNat1 0x0C (levelValue k.fit0), fieldNat1 0x0D (levelValue k.wl1),
   fieldNat1 0x0E (levelValue k.wl0), fieldNat1 0x0F (levelValue k.signMode),
   field1 0x10 (bitAt 0 (strapFault k) ||| bitAt 1 (stationRangeFault k) ||| bitAt 2 (flipLevelFault k)
     ||| bitAt 3 (repeaterStationFault k)),
   field1 0x11 (strapStation k),
   field1 0x12 (bitAt 3 (phonesFitted k) ||| bitAt 2 (gantryFitted k) ||| bitAt 1 (signFitted k) ||| bitAt 0 (weatherFitted k)),
   fieldNat1 0x13 (strapGustLimit k), field1 0x14 (alertByte s)]

/-- R196: offsets 0x69 to 0x6C, free while the store is empty (log 9). -/
def oldestFields (s : State) : List Field :=
  match s.csd.store with
  | e :: _ => [field2 0x69 e.sequence, field2 0x6B e.age]
  | [] => [freeField2 s 0x69, freeField2 s 0x6B]

def flowPlaceCode : Option FlowChar → Nat
  | none => 0
  | some .xon => 1
  | some .xoff => 2

def assemblerCode : Assembler → Nat
  | .hunt => 0
  | .assemble _ _ => 1
  | .write _ => 2

/-- R105: the next position of a partial record. -/
def nextPosition (partialRecord : List Byte) : Nat := partialRecord.length + 1

/-- R196: offset 0x72, free outside ASSEMBLE (log 9). -/
def positionField (s : State) : Field :=
  match s.gli.assembler with
  | .assemble q _ => fieldNat1 0x72 (nextPosition q)
  | _ => field1 0x72 (freeAt s 0x72)

/-- R196: offsets 0x64 to 0x72. -/
def custodyFields (s : State) : List Field :=
  [fieldNat2 0x64 s.csd.store.length, fieldNat2 0x66 (storeFree s), fieldNat1 0x68 (inFlight s.csd.store)]
    ++ oldestFields s
    ++ [field2 0x6D s.csd.nextSeq,
        fieldNat1 0x6F ((if s.gli.flowStopped then 1 else 0) + 2 * flowPlaceCode s.gli.flowPlace + 16 * s.gli.answers.length),
        fieldNat1 0x70 s.gli.fifo.length,
        fieldNat1 0x71 (assemblerCode s.gli.assembler + (if s.gli.lineBreak then 4 else 0)), positionField s]

/-- R196: offsets 0x74 to 0x82. -/
def signFields (x : Sps) : List Field :=
  [fieldNat1 0x74 x.winPage, fieldNat1 0x75 x.c0, fieldNat1 0x76 x.c1, fieldNat1 0x77 x.r0, fieldNat1 0x78 x.r1,
   fieldNat1 0x79 x.curCol, fieldNat1 0x7A x.curRow, field1 0x7B (claimByte x), field1 0x7C (remoteByte x),
   field1 0x7D (pageCode (targetPage x)), field1 0x7E (pageCode x.scanned), field1 0x7F x.level, field1 0x80 (dimByte x),
   field1 0x81 (brightnessTarget x), field1 0x82 x.autoTarget]

def sampleFaultCode : Option SampleFault → Nat
  | none => 0
  | some .openLead => 1
  | some .short => 2

/-- R196: the two bytes of channel `n`. -/
def channelField (w : Wsu) (n : Nat) : Field :=
  let c := channelOf w n
  fieldNat2 (0x84 + 2 * (n - 1)) ((channelHalf c).toNat + 4096 * sampleFaultCode c.lastFault)

/-- R196: the ring counts of channels 2i + 1 and 2i + 2. -/
def ringField (w : Wsu) (i : Nat) : Field :=
  fieldNat1 (0x9C + i) (16 * (channelOf w (2 * i + 1)).ring.length + (channelOf w (2 * i + 2)).ring.length)

/-- R153, R196: the converter's state, and the channel selected. An IDLE converter is shown with no channel selected also after
a sweep has ended or was abandoned: whether the selector is then released is the model's choice (log 48). -/
def converterByte : Converter → Nat
  | .idle => 0
  | .settling n => 1 + 16 * n
  | .converting n => 2 + 16 * n

def intervalCode : Interval → Nat
  | .unarmed => 0
  | .running _ _ => 1
  | .stopped => 2

/-- R196: offsets 0xAC and 0xAD, free while the timer is UNARMED (log 9). -/
def intervalField (s : State) : Field :=
  match s.wsu.interval with
  | .unarmed => freeField2 s 0xAC
  | .running t _ => fieldNat2 0xAC t
  | .stopped => fieldNat2 0xAC intervalMax

/-- R196: offsets 0x84 to 0xAF. In a node without the weather job the wind counter at 0xA3 reads 0, not the preload (log 46, the
model's choice). -/
def weatherFields (s : State) : List Field :=
  let w := s.wsu
  (List.range 12).map (fun i => channelField w (i + 1)) ++ (List.range 6).map (ringField w)
    ++ [fieldNat1 0xA2 (converterByte w.converter), field1 0xA3 w.windCounter, field1 0xA4 w.overflows,
        fieldNat1 0xA5 ((if w.gustMark then 1 else 0) + 2 * w.windMemory.countP (fun m => m)),
        field2 0xA6 w.latestWindow, field2 0xA8 (surfaceResult w),
        field1 0xAA (surfaceByte w ||| bitAt 5 w.racing ||| BitVec.ofNat 8 (64 * intervalCode w.interval)),
        field1 0xAB (reasonsByte w), intervalField s, field2 0xAE (w.lastInterval.getD 0)]

def isChain : OfficeChannel → Bool
  | .chain _ _ => true
  | _ => false

def isLocal : OfficeChannel → Bool
  | .localCall _ _ _ => true
  | _ => false

/-- R185: GRDY, high in a gateway past step 4 while the from-office queue has room. -/
def grdy (s : State) : Bool := s.live && s.isGateway && decide (s.gw.fromOffice.length < officeCapacity)

/-- R196: offsets 0xF0 to 0xF9. -/
def gatewayFields (s : State) : List Field :=
  let g := s.gw
  [fieldNat1 0xF0 0, fieldNat1 0xF1 s.maint.bank, field2 0xF2 g.beaconSeq, fieldNat1 0xF4 g.acceptance.length,
   fieldNat1 0xF5 (g.channels.countP isChain), fieldNat1 0xF6 (g.channels.countP isLocal),
   fieldNat1 0xF7 g.toOffice.length, fieldNat1 0xF8 g.fromOffice.length, field1 0xF9 (bitAt 0 (grdy s) ||| bitAt 1 g.ordy)]

/-! ## The counter window (R194) -/

def portCountBytes (n : PortCounts) : List (List Byte) :=
  [longBytes n.cellsIn, longBytes n.cellsOut, halfBytes n.checkErrors, halfBytes n.malformed, halfBytes n.notInService,
   halfBytes n.lightLosses, halfBytes n.lockLosses, halfBytes n.helloTimeouts, halfBytes n.neighbourChanges,
   halfBytes n.faultEntries, halfBytes n.dozeEntries, halfBytes n.wakeFailures, halfBytes n.portUps, halfBytes n.portDowns]

def nodeCountBytes (n : NodeCounts) : List (List Byte) :=
  [longBytes n.transitDrop, halfBytes n.hopLimit, longBytes n.undelivered, halfBytes n.noConsumer,
   halfBytes n.poolRefusedCall, halfBytes n.poolRefusedToll, halfBytes n.poolRefusedSign, halfBytes n.poolRefusedReport,
   halfBytes n.noSideCall, halfBytes n.noSideToll, halfBytes n.noSideSign, halfBytes n.noSideReport]

def reachCountBytes (n : ReachCounts) : List (List Byte) :=
  [longBytes n.beaconsTaken, halfBytes n.beaconStale, halfBytes n.beaconMismarked, halfBytes n.reachLapses,
   halfBytes n.reachChanges]

def sideCountBytes (n : SideCounts) : List (List Byte) :=
  [halfBytes n.queueRefusedLink, halfBytes n.queueRefusedCall, halfBytes n.queueRefusedToll, halfBytes n.queueRefusedSign,
   halfBytes n.queueRefusedReport, halfBytes n.callQueueFull, halfBytes n.voiceUnreserved, halfBytes n.beaconReplaced,
   longBytes n.flushed, halfBytes n.holdsSent, halfBytes n.resumesSent, halfBytes n.holdsTaken, halfBytes n.resumesTaken,
   halfBytes n.holdExpiries]

/-- R194: the counts of R100 and R197. A row kept per line gives line 0 and then line 1; the row of two playout counts
gives both of line 0 and then both of line 1 (log 36). -/
def callCountBytes (s : State) : List (List Byte) :=
  let a := s.lines.line0.counts
  let b := s.lines.line1.counts
  let n := s.ccu
  [halfBytes a.callAttempts, halfBytes b.callAttempts, halfBytes a.callsConnected, halfBytes b.callsConnected,
   halfBytes a.voiceDropped, halfBytes b.voiceDropped, halfBytes a.playoutOverflow, halfBytes a.playoutUnderrun,
   halfBytes b.playoutOverflow, halfBytes b.playoutUnderrun, halfBytes a.keyStuckEvents, halfBytes b.keyStuckEvents,
   halfBytes a.staleAnswered, halfBytes b.staleAnswered, halfBytes n.refusesSpanFull, halfBytes n.refusesOfficeFull,
   halfBytes n.refusesNoRoute, halfBytes n.refusesDuplicate, halfBytes n.brokenSpanLost, halfBytes n.brokenPreempted,
   halfBytes n.brokenLost, halfBytes n.preemptions, halfBytes n.pendingExpiries, halfBytes n.voiceWatchExpiries,
   halfBytes n.upgradeDropped, halfBytes n.callMisdirected, halfBytes n.controlRefused,
   halfBytes s.maint.queriesAnswered, halfBytes s.maint.queryAnswersLost]

def tollCountBytes (g : GliCounts) (c : CsdCounts) : List (List Byte) :=
  [longBytes g.charsReceived, halfBytes g.parityErrors, halfBytes g.framingErrors, halfBytes g.breaks, halfBytes g.overruns,
   halfBytes g.recordsTruncated, halfBytes g.recordsBroken, halfBytes g.recordsDamaged, halfBytes g.recordsFull,
   halfBytes g.sequenceHeld, halfBytes g.acksSent, halfBytes g.naksSent, halfBytes g.xonsSent, halfBytes g.xoffsSent,
   longBytes c.recordsStored, longBytes c.tollDispatches, halfBytes c.dispatchRefused, halfBytes c.retryExpiries,
   halfBytes c.directionSwitches, halfBytes c.portWithdrawals, longBytes c.acksTaken, halfBytes c.lateAck]

def weatherCountBytes (w : Wsu) : List (List Byte) :=
  let n := w.counts
  [longBytes n.sweeps, halfBytes n.sweepsSkipped, halfBytes n.faultedSamples]
    ++ (List.range 12).map (fun i => halfBytes (channelOf w (i + 1)).faultEntries)
    ++ [longBytes n.windows, halfBytes n.gusts, longBytes n.tips, halfBytes n.noRainStops, halfBytes n.races,
        halfBytes n.racesFast, halfBytes n.racesStopped, halfBytes n.hazardOnsets, halfBytes n.reportsSent,
        halfBytes n.reportsNoReach, halfBytes n.reportsRefused, halfBytes n.pollsAnswered, halfBytes n.pollAnswersLost]

def gatewayCountBytes (n : GatewayCounts) : List (List Byte) :=
  [longBytes n.beaconsMade, halfBytes n.beaconsRefused, longBytes n.tollPassed, halfBytes n.tollDuplicates,
   halfBytes n.tollOfficeFull, halfBytes n.windowSlides, halfBytes n.windowSkipped, longBytes n.tollAcksMade,
   halfBytes n.tollAcksLost, halfBytes n.callsTerminated, halfBytes n.noticesLost, halfBytes n.voiceNoChannel,
   halfBytes n.toOfficeDroppedCall, halfBytes n.toOfficeDroppedSign, halfBytes n.toOfficeDroppedReport,
   longBytes n.cellsToOffice, longBytes n.cellsFromOffice, halfBytes n.officeCheckErrors, halfBytes n.officeOverruns,
   halfBytes n.officeRejected, halfBytes n.officeUndelivered]

def signCountBytes (n : SpsCounts) : List (List Byte) :=
  [halfBytes n.signCommands, longBytes n.pixelsWritten, halfBytes n.badWindow, halfBytes n.shown, halfBytes n.active,
   halfBytes n.badPage, halfBytes n.repliesLost, halfBytes n.incidentRaises, halfBytes n.hazardRaises,
   halfBytes n.hazardExpiries, halfBytes n.pageChanges]

def endCode : EntryEnd → Nat
  | .origin => 0
  | .path => 1
  | .gateway => 2

/-- R194: the third byte of a reservation place. -/
def placeByte (e : SrtEntry) : Byte :=
  bitAt 0 (e.grade == .accident) ||| bitAt 1 e.held ||| BitVec.ofNat 8 (4 * endCode e.place)
    ||| bitAt 4 (e.faces == .origin) ||| bitAt 7 true

/-- R194: reservation place `i`, 0 to 7, of a table. Of its four bytes the identity alone is a value for the read latch
(log 44, the model's choice). -/
def placeBytes (table : List SrtEntry) (i : Nat) : List (List Byte) :=
  match table[i]? with
  | some e => [halfBytes (referenceOf e.identity), [placeByte e], [BitVec.ofNat 8 (i + 1)]]
  | none => [[0, 0], [0], [0]]

/-- R194: the four bytes of a channel. Of them the identity alone is a value for the read latch (log 44, the model's
choice). -/
def channelBytes (c : OfficeChannel) : List (List Byte) :=
  match c with
  | .free => [[0], [0, 0], [0]]
  | .chain id g => [[1], halfBytes (referenceOf id), [gradeCode g]]
  | .localCall id g _ => [[2], halfBytes (referenceOf id), [gradeCode g]]

/-- R194: the values of a bank, in order. -/
def bankValues (s : State) : Nat → List (List Byte)
  | 0 => portCountBytes s.ports.sp1.counts ++ portCountBytes s.ports.sp2.counts
  | 1 => nodeCountBytes s.node ++ reachCountBytes s.reach.up.counts ++ reachCountBytes s.reach.down.counts
  | 2 => sideCountBytes s.tiu.up.counts ++ sideCountBytes s.tiu.down.counts
  | 3 => callCountBytes s
  | 4 => tollCountBytes s.gli.counts s.csd.counts
  | 5 => weatherCountBytes s.wsu
  | 6 => gatewayCountBytes s.gw.counts
  | 7 => signCountBytes s.sps.counts
  | 8 => (List.range 8).flatMap (placeBytes s.srt.up) ++ (List.range 8).flatMap (placeBytes s.srt.down)
  | 9 => (List.range 16).flatMap (fun n => channelBytes (channelAt s n))
  | _ => (List.range 16).flatMap (fun n => channelBytes (channelAt s (n + 16)))

/-- R194: values packed from an offset. -/
def packed : Nat → List (List Byte) → List Field
  | _, [] => []
  | off, v :: rest => ⟨off, v⟩ :: packed (off + v.length) rest

/-- R196: the whole table as it stands. -/
def statusFields (s : State) : List Field :=
  identityFields s ++ portFields s 0x18 .sp1 ++ portFields s 0x20 .sp2 ++ reachFields s.reach.up 0x28
    ++ reachFields s.reach.down 0x2F ++ [fieldNat1 0x36 (nearestCode s), fieldNat2 0x38 s.poolFree]
    ++ tiuFields s.tiu.up 0x3A ++ tiuFields s.tiu.down 0x44 ++ lineFields s 0x50 s.lines.line0 ++ lineFields s 0x58 s.lines.line1
    ++ [fieldNat1 0x60 s.srt.up.length, fieldNat1 0x61 s.srt.down.length] ++ custodyFields s ++ signFields s.sps
    ++ weatherFields s ++ packed 0xB0 (bankValues s s.maint.bank) ++ gatewayFields s

/-- The field that holds an offset. -/
def fieldAt (s : State) (off : Nat) : Option Field :=
  (statusFields s).find? (fun f => decide (f.off ≤ off) && decide (off < f.off + f.bytes.length))

/-- R196: the byte at an offset as it stands; offsets with no field read 0. -/
def statusByte (s : State) (off : Nat) : Byte :=
  match fieldAt s off with
  | some f => f.bytes.getD (off - f.off) 0
  | none => 0

/-! ## The read (R192, R193) -/

/-- R193: with no latch for the offset: a value captured at its first byte, a byte as it stands otherwise. -/
def captureByte (s : State) (off : Nat) : Byte × Option ReadLatch :=
  match fieldAt s off with
  | some f =>
      (f.bytes.getD (off - f.off) 0,
        if f.off = off && decide (2 ≤ f.bytes.length) then some ⟨BitVec.ofNat 8 (off + 1), f.bytes.drop 1⟩ else none)
  | none => (0, none)

/-- R193: the byte driven at an offset and the latch it leaves. -/
def readByte (s : State) (off : Nat) : Byte × Option ReadLatch :=
  match s.maint.latch with
  | some ⟨next, b :: rest⟩ =>
      if next.toNat = off then (b, if rest.isEmpty then none else some ⟨next + 1, rest⟩) else captureByte s off
  | _ => captureByte s off

/-! ## The counter clear (R195) -/

/-- R195: every count of R35, R58, R72, R100, R127, R150, R173, R189 and R197 at 0. -/
def clearCounts (s : State) : State :=
  { s with
    ports := { sp1 := { s.ports.sp1 with counts := {} }, sp2 := { s.ports.sp2 with counts := {} } }
    node := {}
    tiu := { up := { s.tiu.up with counts := {} }, down := { s.tiu.down with counts := {} } }
    reach := { up := { s.reach.up with counts := {} }, down := { s.reach.down with counts := {} } }
    lines := { line0 := { s.lines.line0 with counts := {} }, line1 := { s.lines.line1 with counts := {} } }
    ccu := {}
    gli := { s.gli with counts := {} }
    csd := { s.csd with counts := {} }
    sps := { s.sps with counts := {} }
    wsu := { s.wsu with counts := {}, channels := s.wsu.channels.map (fun c => { c with faultEntries := 0 }) }
    gw := { s.gw with counts := {} }
    maint := { s.maint with queriesAnswered := 0, queryAnswersLost := 0, justSet := false } }

/-! ## Node queries (R197) -/

/-- R197: the offsets of payload bytes 0 to 47. -/
def queryOffsets : List Nat :=
  List.range 17 ++ [0x18, 0x1B, 0x20, 0x23, 0x28, 0x29, 0x2A, 0x2F, 0x30, 0x31, 0x36, 0x38, 0x39, 0x50, 0x58, 0x52, 0x5A,
    0x60, 0x61, 0x64, 0x65, 0x68, 0x6B, 0x6C, 0x6F, 0x7B, 0x7D, 0x7E, 0x7F, 0xAB, 0xAA]

/-- R197: the payload of a NODE-STATUS. -/
def queryPayload (s : State) : List Byte :=
  queryOffsets.map (statusByte s)
    ++ [BitVec.ofNat 8 (s.wsu.channels.countP (fun c => c.fault)), statusByte s 0x14, statusByte s 0xF4,
        statusByte s 0xF5 + statusByte s 0xF6]

/-- R197: the NODE-STATUS that answers a query. -/
def statusCell (s : State) (query : CellData) : Cell :=
  makeCell s.station .nodeStatus query.origin query.reference 0 0 0 (queryPayload s)

/-- R197: the answerer's counts. -/
def countQueryAnswered (s : State) : State :=
  { s with maint := { s.maint with queriesAnswered := satInc s.maint.queriesAnswered } }
def countQueryLost (s : State) : State :=
  { s with maint := { s.maint with queryAnswersLost := satInc s.maint.queryAnswersLost } }

/-- R197, R186: a query answered out of its arrival side or handed back to the Gateway Unit. The capture uses the free
values once (log 9). -/
def answerQuery (s : State) (side : Option Side) (query : CellData) : State :=
  let c := statusCell s query
  let s := { s with freeUses := s.freeUses + 1 }
  match side with
  | some d => if offerAnswer s d c == .taken then countQueryAnswered (offerEffect s d c) else countQueryLost (offerEffect s d c)
  | none => if answerAccepted s .report then countQueryAnswered (answerToOffice s c) else countQueryLost (answerToOffice s c)

/-! ## The commands -/

/-- POINTER_WRITE (R191, R193). -/
def execPointerWrite (value : Byte) (s : State) : Host.Outcome State Fault Refusal :=
  if s.running then .next { s with maint := { s.maint with readPtr := value, latch := none, justSet := true } } else .next s

/-- R191: a data byte after the pointer byte: 0xA5 right after a pointer of 0xF0 is the counter clear, any other is
disregarded (log 29). -/
def takeDataByte (s : State) (value : Byte) : State :=
  if s.maint.justSet && s.maint.readPtr == 0xF0 && value == 0xA5 then clearCounts s
  else { s with maint := { s.maint with justSet := false } }

/-- COUNTER_CLEAR (R191, R195): the data byte 0xA5, the clear where the pointer has just been set to 0xF0. -/
def execCounterClear (s : State) : Host.Outcome State Fault Refusal :=
  if s.running then .next (takeDataByte s 0xA5) else .next s

/-- IGNORED_WRITE_BYTE (R191): a further data byte, which is disregarded unless it is the clear. -/
def execIgnoredWriteByte (value : Byte) (s : State) : Host.Outcome State Fault Refusal :=
  if s.running then .next (takeDataByte s value) else .next s

/-- STATUS_BYTE_READ (R192 to R194). -/
def execStatusByteRead (s : State) : Host.Outcome State Fault Refusal :=
  if s.running then
    let x := readByte s s.maint.readPtr.toNat
    .next { s with
      freeUses := s.freeUses + 1
      maint := { s.maint with
        driven := some x.1, latch := x.2, readPtr := s.maint.readPtr + 1, justSet := false
        bank := if s.maint.readPtr = 0xEF then (s.maint.bank + 1) % 11 else s.maint.bank } }
  else .next s

/-- NODE_QUERY (R8, R197). -/
def execNodeQuery (p : Port) (c : CellData) (s : State) : Host.Outcome State Fault Refusal :=
  let x := cellOf .nodeQuery c
  done s (transitArrival s p x (fun t => carry t (t.sideOf p) x (fun u => answerQuery u (some (t.sideOf p)) c)))

/-- NODE_STATUS (R8, R186). -/
def execNodeStatus (p : Port) (c : CellData) (s : State) : Host.Outcome State Fault Refusal :=
  let x := cellOf .nodeStatus c
  done s (transitArrival s p x (fun t => carry t (t.sideOf p) x (consumeForOffice x)))

end Sys2Proof.Machine
end

