-- ==== Sys2Proof/Machine/Gateway.lean ====
section
/-! DEFINITION. The Gateway Unit and the Office Link: beacons, toll acceptance, the office link, office cells, voice
watches at the gateway, and the meanings of their commands (R175 to R190). -/

namespace Sys2Proof.Machine

/-- The Gateway Unit works: a gateway past step 4 of start-up. -/
def State.gatewayWorks (s : State) : Bool := s.live && s.isGateway

/-! ## Beacons (R175) -/

/-- R175: the beacon-side mark, flags bit 1: set in GATEWAY-D. -/
def beaconFlags (s : State) : Byte :=
  match s.role with
  | .gatewayD => 2
  | _ => 0

/-- R175: the gateway's own beacon. -/
def beaconCell (s : State) : Cell := makeCell s.station .beacon allStations s.gw.beaconSeq 0 0 (beaconFlags s) []

/-- R175: a beacon made and offered to the LINK insertion queue of the inner side. -/
def makeBeacon (s : State) : State :=
  let t := offerEffect s s.inner (beaconCell s)
  if offerAnswer s s.inner (beaconCell s) == .taken then
    { t with gw := { t.gw with
        beaconSeq := t.gw.beaconSeq + 1, counts := { t.gw.counts with beaconsMade := satInc t.gw.counts.beaconsMade } } }
  else t.countGw (fun n => { n with beaconsRefused := satInc n.beaconsRefused })

/-- The beacon period set. -/
def setBeaconPeriod (s : State) (t : Timer) : State := { s with gw := { s.gw with beaconPeriod := t } }

/-- R175: the Gateway Unit takes PORT-UP from SEEK. -/
def gatewayPortUp (s : State) : State := if s.isGateway then setBeaconPeriod (makeBeacon s) (some beaconMs) else s

/-- R175: the Gateway Unit takes PORT-DOWN. -/
def gatewayPortDown (s : State) : State := if s.isGateway then setBeaconPeriod s none else s

/-! ## Toll acceptance (R176 to R179) -/

/-- R177: the classes of a record. -/
inductive TollClass where
  | behind
  | duplicate
  | new (position : Nat)
  | ahead (d : Nat)
deriving DecidableEq, Repr

/-- R176: the entry of an origin station, none where it is EMPTY. -/
def acceptanceOf (s : State) (station : Byte) : Option Acceptance := s.gw.acceptance.find? (fun e => e.station == station)

/-- R177: the class of a record of sequence `q`. -/
def tollClass (e : Option Acceptance) (q : Half) : TollClass :=
  match e with
  | none => .new 0
  | some e =>
      let d := (q - e.base).toNat
      if 32768 ≤ d then .behind
      else if 32 ≤ d then .ahead d
      else if e.flags.getLsbD d then .duplicate
      else .new d

/-- R178: the sequences that a slide by `k` skips. -/
def slideSkipped (flags : BitVec 32) (k : Nat) : Nat :=
  (List.range (min k 32)).countP (fun i => !flags.getLsbD i) + (k - 32)

/-- R178, step 3: the base moves up while flag 0 is set, at most 32 places. -/
def advanceBase : Nat → Acceptance → Acceptance
  | 0, e => e
  | n + 1, e => if e.flags.getLsbD 0 then advanceBase n { e with base := e.base + 1, flags := e.flags >>> 1 } else e

/-- R178, steps 2 and 3: the flag at a position set, and the advance. -/
def flagged (e : Acceptance) (position : Nat) : Acceptance :=
  advanceBase 32 { e with flags := e.flags ||| BitVec.ofNat 32 (2 ^ position) }

/-- R178, step 1: the window slid by `k`. -/
def slid (e : Acceptance) (k : Nat) : Acceptance := { e with base := e.base + BitVec.ofNat 16 k, flags := e.flags >>> k }

/-- R176: an entry of the Acceptance Table put in its place. -/
def putAcceptance (table : List Acceptance) (e : Acceptance) : List Acceptance :=
  if table.any (fun x => x.station == e.station) then table.map (fun x => if x.station = e.station then e else x)
  else table ++ [e]

/-- R178: the entry after a NEW or AHEAD record. -/
def acceptedEntry (e : Option Acceptance) (station : Byte) (q : Half) (k : TollClass) : Acceptance :=
  match e, k with
  | none, _ => flagged { station := station, base := q, flags := 0 } 0
  | some e, .new i => flagged e i
  | some e, .ahead d => flagged (slid e (d - 31)) 31
  | some e, _ => e

/-- R178: the counts of a slide. -/
def countSlide (n : GatewayCounts) (e : Option Acceptance) (k : TollClass) : GatewayCounts :=
  match e, k with
  | some e, .ahead d =>
      { n with windowSlides := satInc n.windowSlides, windowSkipped := satAdd n.windowSkipped (slideSkipped e.flags (d - 31)) }
  | _, _ => n

/-- R179: the TOLL-ACK of a record. -/
def ackCell (s : State) (c : Cell) : Cell := makeCell s.station .tollAck c.origin c.reference 0 0 0 []

/-- R179: a TOLL-ACK offered to the side the record arrived on. -/
def makeAck (s : State) (a : Side) (c : Cell) : State :=
  let t := offerEffect s a (ackCell s c)
  if offerAnswer s a (ackCell s c) == .taken then t.countGw (fun n => { n with tollAcksMade := satInc n.tollAcksMade })
  else t.countGw (fun n => { n with tollAcksLost := satInc n.tollAcksLost })

/-- R178: a record passed to the office. -/
def passRecord (s : State) (c : Cell) (k : TollClass) : State :=
  let e := acceptanceOf s c.origin
  let t := officePush { s with inHand := 0 } (onChannel 0 c)
  { t with gw := { t.gw with
      acceptance := putAcceptance t.gw.acceptance (acceptedEntry e c.origin c.reference k)
      counts := countSlide { t.gw.counts with tollPassed := satInc t.gw.counts.tollPassed } e k } }

/-- R177, R178: a TOLL-RECORD in hand consumed at a gateway, from side `a`. -/
def takeRecord (s : State) (a : Side) (c : Cell) : State :=
  let k := tollClass (acceptanceOf s c.origin) c.reference
  if k = .behind ∨ k = .duplicate then
    makeAck (({ s with inHand := 0 } : State).countGw (fun n => { n with tollDuplicates := satInc n.tollDuplicates })) a c
  else if officeRoom s then makeAck (passRecord s c k) a c
  else ({ s with inHand := 0 } : State).countGw (fun n => { n with tollOfficeFull := satInc n.tollOfficeFull })

/-! ## Office cells (R187, R188) -/

/-- R187: the head leaves the from-office queue. -/
def popHead (s : State) : State :=
  { s with gw := { s.gw with fromOffice := s.gw.fromOffice.drop 1, headOffered := false, headHandedOver := false } }

/-- R187: the head stays and waits to be offered again. -/
def keepHead (s : State) : State := { s with gw := { s.gw with headOffered := true } }

/-- R187: OFFICE-REJECTED. -/
def rejectHead (s : State) : State := (popHead s).countGw (fun n => { n with officeRejected := satInc n.officeRejected })

/-- R187: OFFICE-UNDELIVERED. -/
def discardHead (s : State) : State := (popHead s).countGw (fun n => { n with officeUndelivered := satInc n.officeUndelivered })

/-- R187: the kinds delivered by target. -/
def deliverable (k : Kind) : Bool := (kindClass k == .sign && k != .signReply) || k == .weatherPoll || k == .nodeQuery

/-- R187: the cell of a raw cell whose code names a kind. -/
def cellOfRaw (c : RawCell) : Option Cell :=
  match kindOfCode? c.code with
  | some k => some (cellOf k c.toCellData)
  | none => none

/-- R187: how the head is taken. -/
inductive OfficeKind where
  | deliver (c : Cell)
  | voice (c : Cell)
  | release (c : Cell)
  | reject
deriving DecidableEq, Repr

def officeKind (c : RawCell) : OfficeKind :=
  match cellOfRaw c with
  | some x =>
      if deliverable x.kind && (isStation x.target || x.target == allStations) then .deliver x
      else if x.kind == .voice then .voice x
      else if x.kind == .callRelease then .release x
      else .reject
  | none => .reject

/-- R187: an offer to the inner side of the head made a local cell; `taken` follows a taking. -/
def offerHead (s : State) (c : Cell) (taken : State → State) : State :=
  match offerAnswer s s.inner c with
  | .taken => taken (popHead (offerEffect s s.inner c))
  | .queueFull => keepHead (offerEffect s s.inner c)
  | .pool => keepHead (offerEffect s s.inner c)
  | .noSide => discardHead (offerEffect s s.inner c)
  | .voiceUnreserved => discardHead (offerEffect s s.inner c)

/-- R8, R9, R187: the gateway's own block takes an office cell with no arrival side; its buffer is in hand while a poll or
a query is answered, and waits with a SIGN command. -/
def consumeOfficeCell (s : State) (c : Cell) : State :=
  match c.kind with
  | .weatherPoll => if weatherFitted s.straps then { answerPoll { s with inHand := 1 } none c.toCellData with inHand := 0 } else countNoConsumer s
  | .nodeQuery => { answerQuery { s with inHand := 1 } none c.toCellData with inHand := 0 }
  | _ =>
      if signFitted s.straps then { s with sps := { s.sps with waiting := s.sps.waiting ++ [{ cell := c, side := none }] } }
      else countNoConsumer s

/-- R187: the head made a local cell of the gateway. -/
def asLocal (s : State) (c : Cell) : Cell := { c with origin := s.station, hops := 0 }

/-- R187: the head has been handed over. -/
def markHanded (s : State) : State := { s with gw := { s.gw with headHandedOver := true } }

/-- R187: the head delivered by its target. -/
def deliverHead (s : State) (c : Cell) : State :=
  if c.target = s.station then
    if floorMet s (cellClass c) then popHead (consumeOfficeCell s c) else keepHead (countPool s (cellClass c))
  else if c.target = allStations && !s.gw.headHandedOver then
    if floorMet s (cellClass c) then
      let t := markHanded (consumeOfficeCell s c)
      offerHead t (asLocal t c) (fun u => u)
    else keepHead (countPool s (cellClass c))
  else offerHead s (asLocal s c) (fun u => u)

/-- R188: the channel that an office CALL cell names and holds its identity. -/
def officeChannel (s : State) (c : Cell) : OfficeChannel :=
  if channelHolds (callOf c.toCellData) (channelAt s c.hops.toNat) then channelAt s c.hops.toNat else .free

/-- R188: the chain VOICE of an office VOICE. -/
def chainVoice (s : State) (id : Identity) (g : Grade) (c : Cell) : Cell :=
  makeCell s.station .voice id.station (referenceOf id) (gradeCode g) 0 0 (payloadBytes c.toCellData voiceSamples)

/-- R188: an office VOICE at the head. -/
def officeVoice (s : State) (c : Cell) : State :=
  match officeChannel s c with
  | .chain id g => offerHead s (chainVoice s id g c) (fun u => u)
  | .localCall id g _ => popHead (playLocal s c.hops.toNat id g c.toCellData)
  | .free => rejectHead s

/-- R188: an office CALL-RELEASE at the head. -/
def officeRelease (s : State) (c : Cell) : State :=
  match officeChannel s c with
  | .chain id g =>
      offerHead s (callCell s.station .callRelease id.station id (gradeCode g) 0) (fun u => freeChain u c.hops.toNat id)
  | .localCall id _ _ => popHead (recordReleased (setChannel s c.hops.toNat .free) id.phone)
  | .free => rejectHead s

/-- R187, R188: the head offered, by its kind. -/
def takeHead (s : State) (k : OfficeKind) : State :=
  match k with
  | .deliver c => deliverHead s c
  | .voice c => officeVoice s c
  | .release c => officeRelease s c
  | .reject => rejectHead s

/-- R187: the cell at the head that has (`again`) or has not been refused before. -/
def headOf (s : State) (again : Bool) : Option RawCell :=
  if s.gatewayWorks && (s.gw.headOffered == again) then s.gw.fromOffice.head? else none

/-! ## The commands -/

/-- BEACON_PERIOD (R175). -/
def execBeaconPeriod (s : State) : Host.Outcome State Fault Refusal :=
  if s.gatewayWorks && s.gw.beaconPeriod.isSome then .next (setBeaconPeriod (makeBeacon s) (some beaconMs)) else .next s

/-- R8, R9: a TOLL-RECORD in hand consumed here. -/
def consumeRecord (a : Side) (c : Cell) (s : State) : State := if s.isGateway then takeRecord s a c else countNoConsumer s

/-- TOLL_RECORD (R8, R177). -/
def execTollRecord (p : Port) (c : CellData) (s : State) : Host.Outcome State Fault Refusal :=
  let x := cellOf .tollRecord c
  done s (transitArrival s p x (fun t => carry t (t.sideOf p) x (consumeRecord (t.sideOf p) x)))

/-- SIGN_REPLY (R8, R186). -/
def execSignReply (p : Port) (c : CellData) (s : State) : Host.Outcome State Fault Refusal :=
  let x := cellOf .signReply c
  done s (transitArrival s p x (fun t => carry t (t.sideOf p) x (consumeForOffice x)))

/-- TO_OFFICE_TRANSFER_START (R185): ORDY is tested at the cell start. -/
def execToOfficeTransferStart (ordy : Bool) (s : State) : Host.Outcome State Fault Refusal :=
  if s.gatewayWorks && s.gw.toTransfer.isNone then
    .next { s with gw := { s.gw with
      ordy := ordy
      toTransfer := if ordy then s.gw.toOffice.head?.map cellCheck else none } }
  else .next s

/-- TO_OFFICE_TRANSFER_COMPLETE (R185). -/
def execToOfficeTransferComplete (s : State) : Host.Outcome State Fault Refusal :=
  if s.gatewayWorks && s.gw.toTransfer.isSome then
    .next { s with gw := { s.gw with
      toOffice := s.gw.toOffice.drop 1, toTransfer := none
      counts := { s.gw.counts with cellsToOffice := satInc s.gw.counts.cellsToOffice } } }
  else .next s

/-- R13, R185: the office sees GRDY of a gateway out of reset, held low in STRAP-FAULT. -/
def State.officeLinked (s : State) : Bool := s.running && s.isGateway

/-- FROM_OFFICE_TRANSFER_START (R185). In STRAP-FAULT GRDY is held low, so that the transfer is an overrun there; in reset
nothing is counted, since every count is 0 at its end (log 43). -/
def execFromOfficeTransferStart (s : State) : Host.Outcome State Fault Refusal :=
  if s.officeLinked && s.gw.fromTransfer.isNone then
    if grdy s then .next { s with gw := { s.gw with fromTransfer := some .kept } }
    else
      .next { s with gw := { s.gw with
        fromTransfer := some .overrun
        counts := { s.gw.counts with officeOverruns := satInc s.gw.counts.officeOverruns } } }
  else .next s

/-- FROM_OFFICE_TRANSFER_COMPLETE (R185). -/
def execFromOfficeTransferComplete (c : RawCell) (check : Half) (s : State) : Host.Outcome State Fault Refusal :=
  if s.officeLinked then
    match s.gw.fromTransfer with
    | some .kept =>
        if checkOf c.code c.toCellData = check then
          .next { s with gw := { s.gw with
            fromTransfer := none, fromOffice := s.gw.fromOffice ++ [c]
            counts := { s.gw.counts with cellsFromOffice := satInc s.gw.counts.cellsFromOffice } } }
        else
          .next { s with gw := { s.gw with
            fromTransfer := none
            counts := { s.gw.counts with officeCheckErrors := satInc s.gw.counts.officeCheckErrors } } }
    | some .overrun => .next { s with gw := { s.gw with fromTransfer := none } }
    | none => .next s
  else .next s

/-- OFFICE_SIGN_OR_REPORT_CELL (R187). -/
def execOfficeSignOrReportCell (s : State) : Host.Outcome State Fault Refusal :=
  match (headOf s false).map officeKind with
  | some (.deliver c) => done s (deliverHead s c)
  | _ => .next s

/-- OFFICE_VOICE (R188). -/
def execOfficeVoice (s : State) : Host.Outcome State Fault Refusal :=
  match (headOf s false).map officeKind with
  | some (.voice c) => done s (officeVoice s c)
  | _ => .next s

/-- OFFICE_CALL_RELEASE (R188). -/
def execOfficeCallRelease (s : State) : Host.Outcome State Fault Refusal :=
  match (headOf s false).map officeKind with
  | some (.release c) => done s (officeRelease s c)
  | _ => .next s

/-- OFFICE_CELL_REJECTED (R187). -/
def execOfficeCellRejected (s : State) : Host.Outcome State Fault Refusal :=
  match (headOf s false).map officeKind with
  | some .reject => .next (rejectHead s)
  | _ => .next s

/-- OFFICE_OFFER_RETRY (R187): the head that was refused is offered again. -/
def execOfficeOfferRetry (s : State) : Host.Outcome State Fault Refusal :=
  match headOf s true with
  | some c => done s (takeHead s (officeKind c))
  | none => .next s

/-- R183: the voice watch of a CHAIN call expires. -/
def chainWatchExpired (s : State) (id : Identity) (g : Grade) : State :=
  let t := s.countCcu (fun n => { n with voiceWatchExpiries := satInc n.voiceWatchExpiries })
  let release := callCell s.station .callRelease id.station id (gradeCode g) 0
  match findChannel t id with
  | some n =>
      giveNotice (offerControl (freeChain t n id) s.inner release) (noticeCell s n .callBroken id g (brokenCode .lost))
  | none => offerControl (releaseEntry t s.inner id) s.inner release

/-- R183: the GATEWAY entry of a call whose timer runs. -/
def watchedGatewayEntry (s : State) (id : Identity) : Option SrtEntry :=
  (s.table s.inner).find? (fun e => e.identity == id && e.place == .gateway && e.timer.isSome)

/-- GATEWAY_VOICE_WATCH_EXPIRY (R183). -/
def execGatewayVoiceWatchExpiry (id : Identity) (s : State) : Host.Outcome State Fault Refusal :=
  if s.gatewayWorks then
    match watchedGatewayEntry s id with
    | some e => done s (chainWatchExpired s id e.grade)
    | none => .next s
  else .next s

/-- R184: the LOCAL channel of a line's connected record, with its grade. -/
def localChannel (s : State) (l : Line) : Option (Nat × Identity × Grade) :=
  match (s.line l).record with
  | some r =>
      match r.identity with
      | some id =>
          match findChannel s id with
          | some n =>
              match channelAt s n with
              | .localCall _ g _ => some (n, id, g)
              | _ => none
          | none => none
      | none => none
  | none => none

/-- LOCAL_VOICE_WATCH_EXPIRY (R184). -/
def execLocalVoiceWatchExpiry (l : Line) (s : State) : Host.Outcome State Fault Refusal :=
  if s.gatewayWorks then
    match localChannel s l with
    | some (n, id, g) =>
        let t := s.countCcu (fun x => { x with voiceWatchExpiries := satInc x.voiceWatchExpiries })
        let t := giveNotice (setChannel t n .free) (noticeCell t n .callBroken id g (brokenCode .lost))
        done s (recordBroken t l)
    | none => .next s
  else .next s

end Sys2Proof.Machine
end

