-- ==== Sys2Proof/Machine/PortEvents.lean ====
section
/-! DEFINITION. PORT-UP and PORT-DOWN with their consumers, and the entries into the port states (R18 to R34). -/

namespace Sys2Proof.Machine

/-! ## The events (R33, R34) -/

/-- R33, R57: a port raises PORT-UP: the TIU, the CSD and, from SEEK, the Gateway Unit take it. -/
def portUp (fromSeek : Bool) (s : State) (p : Port) : State :=
  let t := s.countPort p (fun n => { n with portUps := satInc n.portUps })
  let t := dispatchPass (holdCheck t (otherSide (t.sideOf p)))
  if fromSeek then gatewayPortUp t else t

/-- R34: a port raises PORT-DOWN, its new state taken: the TIU, the Reach Table, the CCU, the CSD and the Gateway Unit
take it in this order (log 34). -/
def portDown (s : State) (p : Port) : State :=
  let d := s.sideOf p
  let t := s.countPort p (fun n => { n with portDowns := satInc n.portDowns })
  gatewayPortDown (custodyPortDown (circuitsPortDown (invalidateEntry (flushSide t d) d) d) d)

/-! ## Entries into the port states -/

/-- What a port out of UP, DOZE and WAKING does not keep: the doze request, the watch and the timers of service. -/
def outOfService (u : PortUnit) : PortUnit :=
  { u with helloWatch := none, idle := none, dozeRetry := none, wakeTimer := none, answerWindow := none, burstLeft := 0 }

/-- R20, R31: what a port that leaves DOZE or WAKING for UP does not keep. -/
def afterWake (u : PortUnit) : PortUnit := { u with wakeTimer := none, answerWindow := none, burstLeft := 0 }

/-- R19: DARK, with everything of the neighbour and of service cleared. -/
def enterDark (u : PortUnit) : PortUnit :=
  { enterState (outOfService { u with lock := false }) .dark with
    badRun := 0, markerRun := 0, neighbour := none, faultReason := none, lossDebounce := none, helloPeriod := none }

/-- R19: SEEK from DARK: no lock and an empty neighbour record. -/
def enterSeekDark (u : PortUnit) : PortUnit :=
  { enterState { u with lock := false } .seek with badRun := 0, markerRun := 0, neighbour := none }

/-- R20: SEEK without lock. -/
def enterSeekUnlocked (u : PortUnit) : PortUnit :=
  { enterState (outOfService { u with lock := false }) .seek with
    badRun := 0, markerRun := 0, neighbour := none, helloPeriod := none }

/-- R23, R26, R31: SEEK with lock still held: a HELLO at once and then every 100 ms. -/
def enterSeekLocked (s : State) (u : PortUnit) : PortUnit :=
  let v := { enterState (outOfService u) .seek with neighbour := none, helloPeriod := some helloSeekMs }
  placeHello s v

/-- R23, R25: UP from SEEK: a HELLO at once and then every 1 s, the watch and the idle timer from 0. -/
def enterUpFromSeek (s : State) (u : PortUnit) : PortUnit :=
  placeHello s
    { enterState u .up with helloPeriod := some helloServiceMs, helloWatch := some helloWatchMs, idle := some idleMs }

/-- R32: UP from DOZE or WAKING: the idle timer from 0, the watch and the HELLO period as they were. -/
def enterUpFromWake (u : PortUnit) : PortUnit := { enterState (afterWake u) .up with idle := some idleMs }

/-- R29, R30: DOZE. -/
def enterDoze (u : PortUnit) : PortUnit :=
  { enterState u .doze with
    idle := none, dozeRetry := none, dozeSlot := 0
    counts := { u.counts with dozeEntries := satInc u.counts.dozeEntries } }

/-- R24: FAULT, with the reason and the offending neighbour. -/
def enterFault (u : PortUnit) (n : Neighbour) (r : PortFault) : PortUnit :=
  { enterState (outOfService u) .fault with
    neighbour := some n, faultReason := some r, helloPeriod := some helloServiceMs
    counts := { u.counts with faultEntries := satInc u.counts.faultEntries } }

/-- R20: lock is lost. -/
def loseLock (s : State) (p : Port) : State :=
  let u := s.port p
  let u := { u with counts := { u.counts with lockLosses := satInc u.counts.lockLosses } }
  match u.state with
  | .seek => s.setPort p { enterSeekUnlocked u with slotHello := none }
  | .up | .doze | .waking => portDown (s.setPort p (enterSeekUnlocked u)) p
  | .fault => s.setPort p { u with lock := false, badRun := 0, markerRun := 0 }
  | .dark => s

/-! ## HELLO (R24 to R26) -/

/-- R24: the side check. -/
def sideCheck (s : State) (d : Side) (origin : Byte) (r : Role) : Option PortFault :=
  if origin = s.station then some .duplicate
  else
    match d with
    | .up => if s.station.toNat < origin.toNat ∨ r = .gatewayD then some .misordered else none
    | .down => if origin.toNat < s.station.toNat ∨ r = .gatewayU then some .misordered else none

/-- R25: whether a HELLO names this station as heard. -/
def heardUs (s : State) (c : CellData) : Bool := payloadByte c 1 == s.station

/-- R25: the neighbour record taken from a HELLO, a change of a record held being counted. -/
def recordNeighbour (u : PortUnit) (n : Neighbour) : PortUnit :=
  { u with
    neighbour := some n
    counts := { u.counts with
      neighbourChanges :=
        match u.neighbour with
        | some m => if m = n then u.counts.neighbourChanges else satInc u.counts.neighbourChanges
        | none => u.counts.neighbourChanges } }

/-- R25: a valid HELLO in SEEK. -/
def seekHello (s : State) (p : Port) (c : CellData) (n : Neighbour) : State :=
  let u := recordNeighbour (s.port p) n
  if heardUs s c then portUp true (s.setPort p (enterUpFromSeek s u)) p else s.setPort p (placeHello s u)

/-- R26: a valid HELLO in service. One that differs from the record or does not name this station takes the port to SEEK,
where the neighbour record is cleared before the HELLO is taken again, so that R25 counts no second change (log 13, the
model's choice: R26 does not say whether the record still stands). -/
def serviceHello (s : State) (p : Port) (c : CellData) (n : Neighbour) : State :=
  let u := s.port p
  if u.neighbour = some n ∧ heardUs s c = true then s.setPort p { u with helloWatch := some helloWatchMs }
  else
    let u := { u with counts := { u.counts with neighbourChanges := satInc u.counts.neighbourChanges } }
    seekHello (portDown (s.setPort p (enterSeekLocked s u)) p) p c n

/-- R24: a HELLO that passes or fails the side check, in SEEK or in service. -/
def checkedHello (s : State) (p : Port) (c : CellData) (r : Role) : State :=
  let n : Neighbour := { station := c.origin, role := r }
  match sideCheck s (s.sideOf p) c.origin r with
  | some f =>
      if inServiceState (s.port p).state then portDown (s.setPort p (enterFault (s.port p) n f)) p
      else s.setPort p (enterFault (s.port p) n f)
  | none => if inServiceState (s.port p).state then serviceHello s p c n else seekHello s p c n

/-- R24: a HELLO taken in SEEK or in service; a role byte above 3 is counted MALFORMED. -/
def takeHello (s : State) (p : Port) (c : CellData) : State :=
  match roleOfCode? (payloadByte c 0) with
  | some r => checkedHello s p c r
  | none => countMalformed s p

/-- R20, R40: a good cell sets the run of failed cells back to 0 and leaves the receive register. -/
def goodCell (s : State) (p : Port) : State := s.setPort p { s.port p with receive := none, badRun := 0 }

end Sys2Proof.Machine
end

