-- ==== Sys2Proof/Machine/SpanPorts.lean ====
section
/-! DEFINITION. The meanings of the span port commands: light, lock, HELLO, doze and wake (R18 to R35). -/

namespace Sys2Proof.Machine

/-! ## Light and lock -/

/-- R19: the optical signal is there: a port in DARK that follows its state machine enters SEEK; elsewhere a loss debounce
is abandoned (log 37). -/
def lightOn (s : State) (p : Port) : State :=
  let u := { s.port p with light := true }
  if !s.portFree p then s.setPort p u
  else if u.state = .dark then s.setPort p (enterSeekDark u)
  else s.setPort p { u with lossDebounce := none }

/-- LIGHT_FOUND (R19). -/
def execLightFound (p : Port) (s : State) : Host.Outcome State Fault Refusal := .next (lightOn s p)

/-- LIGHT_RETURNS (R19). -/
def execLightReturns (p : Port) (s : State) : Host.Outcome State Fault Refusal := .next (lightOn s p)

/-- LIGHT_DISAPPEARS (R19): outside DARK the loss debounce starts. -/
def execLightDisappears (p : Port) (s : State) : Host.Outcome State Fault Refusal :=
  let u := { s.port p with light := false }
  if s.portFree p && u.state != .dark then .next (s.setPort p { u with lossDebounce := some lossDebounceMs })
  else .next (s.setPort p u)

/-- R19: 10 ms without light. -/
def lightLost (s : State) (p : Port) : State :=
  let u := s.port p
  let t := s.setPort p (enterDark { u with counts := { u.counts with lightLosses := satInc u.counts.lightLosses } })
  if inServiceState u.state then portDown t p else t

/-- LOSS_DEBOUNCE_EXPIRY (R19, R34). -/
def execLossDebounceExpiry (p : Port) (s : State) : Host.Outcome State Fault Refusal :=
  if s.portFree p && (s.port p).lossDebounce.isSome then done s (lightLost s p) else .next s

/-- LOCK_GAINED (R20, R23). -/
def execLockGained (p : Port) (s : State) : Host.Outcome State Fault Refusal :=
  let u := s.port p
  if s.portFree p && u.state == .seek && !u.lock then
    .next (s.setPort p (placeHello s { u with lock := true, badRun := 0, markerRun := 0, helloPeriod := some helloSeekMs }))
  else .next s

/-- MARKER_WATCH_EXPIRY (R20). -/
def execMarkerWatchExpiry (p : Port) (s : State) : Host.Outcome State Fault Refusal :=
  if receives s p then done s (loseLock s p) else .next s

/-- R5, R20, R40: a bad cell is dropped from the receive register: CHECK-ERRORS, and the run, which loses lock at 8. -/
def badCell (s : State) (p : Port) : State :=
  let u := s.port p
  let t := s.setPort p
    { u with
      receive := none, badRun := u.badRun + 1
      counts := { u.counts with checkErrors := satInc u.counts.checkErrors } }
  if lockLossRun ≤ u.badRun + 1 then loseLock t p else t

/-- BAD_CHECK_CELL (R5, R20). -/
def execBadCheckCell (p : Port) (s : State) : Host.Outcome State Fault Refusal :=
  if receives s p then done s (badCell s p) else .next s

/-- MALFORMED_CELL (R6). -/
def execMalformedCell (p : Port) (s : State) : Host.Outcome State Fault Refusal :=
  if receives s p then .next (countMalformed s p) else .next s

/-! ## HELLO -/

/-- HELLO (R21, R24 to R27, R40). -/
def execHello (p : Port) (c : CellData) (s : State) : Host.Outcome State Fault Refusal :=
  let t := receiveCell s p (cellOf .hello c)
  if !receives s p then .next s
  else if !headerOk (cellOf .hello c) then .next (countMalformed t p)
  else
    match (s.port p).state with
    | .dark => .next s
    | .seek => done s (takeHello (goodCell t p) p c)
    | .fault => .next (goodCell t p)
    | .up | .doze | .waking => done s (takeHello (takeIn t p) p c)

/-- R23: the HELLO period of a state. -/
def helloPeriodOf (st : PortState) : Nat := if st = .seek then helloSeekMs else helloServiceMs

/-- HELLO_PERIOD (R23). -/
def execHelloPeriod (p : Port) (s : State) : Host.Outcome State Fault Refusal :=
  let u := s.port p
  if s.portFree p && u.helloPeriod.isSome && maySend u.state u.lock .hello then
    .next (s.setPort p { placeHello s u with helloPeriod := some (helloPeriodOf u.state) })
  else .next s

/-- HELLO_WATCH_EXPIRY (R26). -/
def execHelloWatchExpiry (p : Port) (s : State) : Host.Outcome State Fault Refusal :=
  let u := s.port p
  if s.portFree p && inServiceState u.state && u.helloWatch.isSome then
    done s
      (portDown
        (s.setPort p (enterSeekLocked s { u with counts := { u.counts with helloTimeouts := satInc u.counts.helloTimeouts } })) p)
  else .next s

/-! ## Doze -/

/-- IDLE_TIMER_EXPIRY (R28, R29). -/
def execIdleTimerExpiry (p : Port) (s : State) : Host.Outcome State Fault Refusal :=
  let u := s.port p
  if s.portFree p && u.state == .up && u.idle.isSome then done s (s.setPort p { u with idle := some 0 }) else .next s

/-- DOZE_RETRY_EXPIRY (R29). -/
def execDozeRetryExpiry (p : Port) (s : State) : Host.Outcome State Fault Refusal :=
  let u := s.port p
  if s.portFree p && u.dozeRetry.isSome then
    if s.dozeCondition p then .next (askDoze (s.setPort p { u with dozeRetry := none }) p)
    else .next (s.setPort p { u with dozeRetry := none })
  else .next s

/-- R29: a DOZE-ACK placed in its slot. -/
def placeDozeAck (s : State) (u : PortUnit) : PortUnit := { u with slotDozeAck := some (linkCell s.station .dozeAck) }

/-- R29: a DOZE-REQ in service; `ready` is the doze condition. -/
def takeDozeReq (ready : Bool) (s : State) (p : Port) : State :=
  let u := s.port p
  match u.state with
  | .up => if ready then s.setPort p (enterDoze (placeDozeAck s u)) else s
  | .doze => s.setPort p (placeDozeAck s u)
  | _ => s

/-- DOZE_REQ (R29). -/
def execDozeReq (p : Port) (c : CellData) (s : State) : Host.Outcome State Fault Refusal :=
  done s (arrive s p (cellOf .dozeReq c) (fun t => takeDozeReq (s.dozeCondition p) t p))

/-- R30, R31: a DOZE-ACK in service. -/
def takeDozeAck (s : State) (p : Port) : State :=
  let u := s.port p
  if u.state = .up ∧ u.dozeRetry.isSome then
    if tiuQuiet (s.side (s.sideOf p)) then s.setPort p (enterDoze u) else s.setPort p (enterWaking (enterDoze u))
  else s

/-- DOZE_ACK (R30). -/
def execDozeAck (p : Port) (c : CellData) (s : State) : Host.Outcome State Fault Refusal :=
  done s (arrive s p (cellOf .dozeAck c) (fun t => takeDozeAck t p))

/-! ## Wake -/

/-- ANSWER_WINDOW_EXPIRY (R31): a further burst and a new window. -/
def execAnswerWindowExpiry (p : Port) (s : State) : Host.Outcome State Fault Refusal :=
  let u := s.port p
  if s.portFree p && u.state == .waking && u.answerWindow.isSome && u.wakeTimer.isSome then
    .next (s.setPort p { u with burstLeft := burstSlots, answerWindow := some answerWindowMs })
  else .next s

/-- WAKE_TIMER_EXPIRY (R31). -/
def execWakeTimerExpiry (p : Port) (s : State) : Host.Outcome State Fault Refusal :=
  let u := s.port p
  if s.portFree p && u.state == .waking && u.wakeTimer.isSome then
    done s
      (portDown
        (s.setPort p (enterSeekLocked s { u with counts := { u.counts with wakeFailures := satInc u.counts.wakeFailures } })) p)
  else .next s

/-- R32: a WAKE-ACK placed in its slot. -/
def placeWakeAck (s : State) (u : PortUnit) : PortUnit := { u with slotWakeAck := some (linkCell s.station .wakeAck) }

/-- R32: a recognised wake burst. -/
def takeWakeBurst (s : State) (p : Port) : State :=
  let u := s.port p
  match u.state with
  | .doze => s.setPort p (enterUpFromWake (placeWakeAck s u))
  | .waking => portUp false (s.setPort p (enterUpFromWake (placeWakeAck s u))) p
  | .up => s.setPort p (placeWakeAck s u)
  | _ => s

/-- WAKE_BURST (R32). -/
def execWakeBurst (p : Port) (s : State) : Host.Outcome State Fault Refusal :=
  if receives s p then done s (takeWakeBurst s p) else .next s

/-- R32: a WAKE-ACK in service. -/
def takeWakeAck (s : State) (p : Port) : State :=
  if (s.port p).state = .waking then portUp false (s.setPort p (enterUpFromWake (s.port p))) p else s

/-- WAKE_ACK (R32). -/
def execWakeAck (p : Port) (c : CellData) (s : State) : Host.Outcome State Fault Refusal :=
  done s (arrive s p (cellOf .wakeAck c) (fun t => takeWakeAck t p))

end Sys2Proof.Machine
end

