-- ==== Sys2Proof/Machine/Carriage.lean ====
section
/-! DEFINITION. The meanings of the commands of the TIUs, of the Reach Table and of the transmitter (R40 to R66). -/

namespace Sys2Proof.Machine

/-! ## Back-pressure -/

/-- R54: the side is held. -/
def takeHold (t : Tiu) : Tiu :=
  { t with holdExpiry := some holdExpiryMs, counts := { t.counts with holdsTaken := satInc t.counts.holdsTaken } }

/-- HOLD (R54). -/
def execHold (p : Port) (c : CellData) (s : State) : Host.Outcome State Fault Refusal :=
  done s (arrive s p (cellOf .hold c) (fun t => t.setSide (t.sideOf p) (takeHold (t.side (t.sideOf p)))))

/-- R55: a RESUME clears held. -/
def takeResume (t : Tiu) : Tiu :=
  { t with holdExpiry := none, counts := { t.counts with resumesTaken := satInc t.counts.resumesTaken } }

/-- RESUME (R55). -/
def execResume (p : Port) (c : CellData) (s : State) : Host.Outcome State Fault Refusal :=
  done s (arrive s p (cellOf .resume c) (fun t => t.setSide (t.sideOf p) (takeResume (t.side (t.sideOf p)))))

/-- HOLD_EXPIRY (R55). -/
def execHoldExpiry (d : Side) (s : State) : Host.Outcome State Fault Refusal :=
  let t := s.side d
  if s.live && t.holdExpiry.isSome then
    .next (s.setSide d { t with holdExpiry := none, counts := { t.counts with holdExpiries := satInc t.counts.holdExpiries } })
  else .next s

/-- HOLD_REPEAT_EXPIRY (R52). Hold-sent can stand at a depth of 32 only while the slot that took the 33rd cell is under way,
since R53's fall is taken at its completion (log 14); an expiry there is ignored, the model's choice (log 15). -/
def execHoldRepeatExpiry (d : Side) (s : State) : Host.Outcome State Fault Refusal :=
  if s.live && s.inService d && (s.side d).holdRepeat.isSome && decide (resumeDepth < (s.side (otherSide d)).tqData.length)
  then .next (makeHold s d) else .next s

/-! ## Beacons and the Reach Table -/

/-- BEACON (R61 to R63). -/
def execBeacon (p : Port) (c : CellData) (s : State) : Host.Outcome State Fault Refusal :=
  let x := cellOf .beacon c
  done s (arrive s p x (fun t => admitCell t x (fun u => takeBeacon u (u.sideOf p) x)))

/-- REACH_LAPSE (R64). -/
def execReachLapse (d : Side) (s : State) : Host.Outcome State Fault Refusal :=
  if s.live && lapseDue (s.entry d) then done s (lapseEntry s d) else .next s

/-! ## The transmitter -/

/-- R28, R50: a cell begins its slot; a CALL, TOLL, SIGN or REPORT cell restarts the idle timer of a UP port. -/
def beginCell (u : PortUnit) (x : Sending) : PortUnit :=
  { u with
    sending := some x, wire := .cell x.cell (cellCheck x.cell)
    idle := if u.state = .up ∧ cellClass x.cell ≠ .link then some idleMs else u.idle }

/-- R18: an empty slot, in DOZE one slot in ten. -/
def emptyWire (u : PortUnit) : Wire :=
  if u.state = .doze ∧ u.dozeSlot ≠ 0 then .silent else .emptySlot

/-- R48: the TIU's part of a slot. -/
def tiuSlot (s : State) (p : Port) : State :=
  let u := s.port p
  let d := s.sideOf p
  let x := tiuChoice (s.table d) (u.state == .up) (s.side d)
  let t := s.setSide d x.2
  match x.1 with
  | some y => t.setPort p (beginCell u y)
  | none => t.setPort p { u with wire := emptyWire u }

/-- R22, R48: a slot that may carry a cell: the port LINK slots first, then, in service, the TIU. -/
def openSlot (s : State) (p : Port) : State :=
  let u := s.port p
  match portChoice u with
  | some (c, v) => s.setPort p (beginCell v { cell := c, source := .portSlot })
  | none => if inServiceState u.state then tiuSlot s p else s.setPort p { u with wire := .emptySlot }

/-- R18: the place in the pattern of ten slots moves on in DOZE. -/
def nextDozeSlot (u : PortUnit) : PortUnit :=
  if u.state = .doze then { u with dozeSlot := (u.dozeSlot + 1) % dozeSlots } else u

/-- R18, R31, R48: one slot. -/
def slotBegun (s : State) (p : Port) : State :=
  let u := s.port p
  if u.state = .waking ∧ 0 < u.burstLeft then s.setPort p { u with burstLeft := u.burstLeft - 1, wire := .wakeMarker }
  else
    let t := openSlot s p
    t.setPort p (nextDozeSlot (t.port p))

/-- TRANSMIT_SLOT (R18, R22, R48, R49). -/
def execTransmitSlot (p : Port) (s : State) : Host.Outcome State Fault Refusal :=
  if s.portFree p && (s.port p).sending.isNone then done s (slotBegun s p) else .next s

/-- R47, R50, R53: what follows the end of a slot, by the queue the cell came from. -/
def afterSlot (s : State) (d : Side) (x : Sending) : State :=
  match x.source with
  | .tollIns => if x.cell.kind = .tollRecord then completeRecord s d x.cell.reference else s
  | .tqData => resumeCheck s d
  | _ => s

/-- R50: a transmission completes. -/
def slotEnded (s : State) (p : Port) (x : Sending) : State :=
  let u := s.port p
  afterSlot
    (s.setPort p { u with sending := none, counts := { u.counts with cellsOut := satInc u.counts.cellsOut } })
    (s.sideOf p) x

/-- TRANSMISSION_COMPLETE (R50). -/
def execTransmissionComplete (p : Port) (s : State) : Host.Outcome State Fault Refusal :=
  if s.portFree p then
    match (s.port p).sending with
    | some x => done s (slotEnded s p x)
    | none => .next s
  else .next s

end Sys2Proof.Machine
end

