-- ==== Sys2Proof/Machine/Calls.lean ====
section
/-! DEFINITION. The meanings of the CALL cells that arrive, and of the entry timers of path calls (R90 to R98). -/

namespace Sys2Proof.Machine

/-- R37, R42: a CALL cell arrives and is shown to the CCU. -/
def callArrival (s : State) (p : Port) (c : Cell) : State := transitArrival s p c (fun t => takeCall t (t.sideOf p) c)

/-- CALL_SETUP (R91, R181). -/
def execCallSetup (p : Port) (c : CellData) (s : State) : Host.Outcome State Fault Refusal :=
  done s (callArrival s p (cellOf .callSetup c))

/-- CALL_ACCEPT (R85, R93). -/
def execCallAccept (p : Port) (c : CellData) (s : State) : Host.Outcome State Fault Refusal :=
  done s (callArrival s p (cellOf .callAccept c))

/-- CALL_REFUSE (R85, R94). -/
def execCallRefuse (p : Port) (c : CellData) (s : State) : Host.Outcome State Fault Refusal :=
  done s (callArrival s p (cellOf .callRefuse c))

/-- CALL_RELEASE (R85, R86, R94, R182). -/
def execCallRelease (p : Port) (c : CellData) (s : State) : Host.Outcome State Fault Refusal :=
  done s (callArrival s p (cellOf .callRelease c))

/-- CALL_BROKEN (R85, R86, R94, R182). -/
def execCallBroken (p : Port) (c : CellData) (s : State) : Host.Outcome State Fault Refusal :=
  done s (callArrival s p (cellOf .callBroken c))

/-- CALL_UPGRADE (R95, R182). -/
def execCallUpgrade (p : Port) (c : CellData) (s : State) : Host.Outcome State Fault Refusal :=
  done s (callArrival s p (cellOf .callUpgrade c))

/-- VOICE (R86, R96, R182). -/
def execVoice (p : Port) (c : CellData) (s : State) : Host.Outcome State Fault Refusal :=
  done s (callArrival s p (cellOf .voice c))

/-- R97: a PATH entry of the call whose timer runs. -/
def timedPathEntry (s : State) (id : Identity) : Option SrtEntry :=
  (s.srt.up ++ s.srt.down).find? (fun e => e.identity == id && e.place == .path && e.timer.isSome)

/-- R97: the count of an expiry: the pending timer or the voice watch. -/
def countPathExpiry (s : State) (held : Bool) : State :=
  s.countCcu (fun n =>
    if held then { n with voiceWatchExpiries := satInc n.voiceWatchExpiries }
    else { n with pendingExpiries := satInc n.pendingExpiries })

/-- PATH_ENTRY_TIMER_EXPIRY (R97). -/
def execPathEntryTimerExpiry (id : Identity) (s : State) : Host.Outcome State Fault Refusal :=
  if s.live then
    match timedPathEntry s id with
    | some e => done s (countPathExpiry (releaseBoth s id) e.held)
    | none => .next s
  else .next s

end Sys2Proof.Machine
end

