-- ==== Sys2Proof/Machine/PhoneLines.lean ====
section
/-! DEFINITION. The meanings of the phone line commands: hook, key, voice and the timers of a Call Record (R74 to R88,
R184). The levels of HOOK and KEY are kept as they stand at the pins (log 4). -/

namespace Sys2Proof.Machine

/-- R74: the phone lines work. -/
def State.phonesWork (s : State) : Bool := s.live && phonesFitted s.straps

/-- R77: the key is measured in CALLING and TALK. -/
def lineMeasured (x : PhoneLine) : Bool := x.state == .calling || x.state == .talk

/-- R76: the on-hook debounce applies in CALLING, TALK and CLEARED. -/
def lineBusy (x : PhoneLine) : Bool := lineMeasured x || x.state == .cleared

/-! ## Hook (R75, R76) -/

/-- R75, R76: the handset goes off the hook. -/
def liftHook (works : Bool) (x : PhoneLine) : PhoneLine :=
  let y := { x with offHook := true }
  if !works then y
  else if x.state = .idle then { y with state := .offhookCheck, hookDebounce := some hookDebounceMs }
  else if lineBusy x then { y with hookDebounce := none }
  else y

/-- HOOK_OFF_HOOK (R75, R76). -/
def execHookOffHook (l : Line) (s : State) : Host.Outcome State Fault Refusal :=
  .next (s.setLine l (liftHook s.phonesWork (s.line l)))

/-- R75, R76: the handset goes on the hook. -/
def dropHook (works : Bool) (x : PhoneLine) : PhoneLine :=
  let y := { x with offHook := false }
  if !works then y
  else if x.state = .offhookCheck then { y with state := .idle, hookDebounce := none }
  else if lineBusy x then { y with hookDebounce := some hookDebounceMs }
  else y

/-- HOOK_ON_HOOK (R75, R76). -/
def execHookOnHook (l : Line) (s : State) : Host.Outcome State Fault Refusal :=
  .next (s.setLine l (dropHook s.phonesWork (s.line l)))

/-- R75: a call begins: CALLING, a record, its first attempt, INCIDENT. -/
def callBegun (s : State) (l : Line) : State :=
  let r : CallRecord := {}
  let t := s.setLine l { enterCalling (s.line l) with hookDebounce := none, record := some r }
  raiseIncident (attempt t l r)

/-- OFFHOOK_DEBOUNCE_EXPIRY (R75). -/
def execOffhookDebounceExpiry (l : Line) (s : State) : Host.Outcome State Fault Refusal :=
  let x := s.line l
  if s.phonesWork && x.state == .offhookCheck && x.hookDebounce.isSome then done s (callBegun s l) else .next s

/-- R99: the CALL-RELEASE that an origin makes toward the current direction. -/
def originRelease (s : State) (r : CallRecord) : State :=
  match r.direction, r.identity with
  | some d, some id => offerControl s d (callCell s.station .callRelease anyGateway id (gradeCode r.grade) 0)
  | _, _ => s

/-- R184: an own call of a gateway ends at on-hook: the channel FREE, a CALL-RELEASE notice. -/
def localRelease (s : State) (l : Line) : State :=
  match localChannel s l with
  | some (n, id, g) => giveNotice (setChannel s n .free) (noticeCell s n .callRelease id g 0)
  | none => s

/-- R76: what becomes of the record at on-hook. -/
def onHookRecord (s : State) (l : Line) (r : CallRecord) : State :=
  if recordActive r then
    if s.isGateway then localRelease s l else releaseOwn (originRelease s r) r
  else s

/-- R76: the call ends at on-hook. -/
def callEnded (s : State) (l : Line) : State :=
  let t :=
    match (s.line l).record with
    | some r => onHookRecord s l r
    | none => s
  t.setLine l (enterIdle (t.line l))

/-- ONHOOK_DEBOUNCE_EXPIRY (R76). -/
def execOnhookDebounceExpiry (l : Line) (s : State) : Host.Outcome State Fault Refusal :=
  let x := s.line l
  if s.phonesWork && lineBusy x && x.hookDebounce.isSome then done s (callEnded s l) else .next s

/-! ## Key (R77, R78, R87) -/

/-- R77, R78: KEY closes. -/
def closeKey (works : Bool) (x : PhoneLine) : PhoneLine :=
  let y := { x with keyClosed := true }
  if works then { y with keyTimer := some keyStuckMs, keyMeasuring := lineMeasured x } else y

/-- KEY_CLOSE (R77). -/
def execKeyClose (l : Line) (s : State) : Host.Outcome State Fault Refusal :=
  .next (s.setLine l (closeKey s.phonesWork (s.line l)))

/-- R77: a closed time that grades. -/
def gradingTime (us : Nat) : Bool := decide (keyShortUs ≤ us) && decide (us ≤ keyLongUs)

/-- R87: an own call of a NODE in SEEKING or CONNECTED is upgraded: its entry, and a CALL-UPGRADE toward its direction. -/
def upgradeChain (s : State) (r : CallRecord) : State :=
  match r.direction, r.identity with
  | some d, some id =>
      offerControl (s.setTable d (changeCall (s.table d) id upgradedEntry)) d
        (callCell s.station .callUpgrade anyGateway id 1 0)
  | _, _ => s

/-- R184: an own call of a gateway is upgraded: the channel's grade, and a CALL-UPGRADE notice. -/
def upgradeLocal (s : State) (l : Line) : State :=
  match localChannel s l with
  | some (n, id, _) =>
      let t :=
        match channelAt s n with
        | .localCall _ _ w => setChannel s n (.localCall id .accident w)
        | _ => s
      giveNotice t (noticeCell s n .callUpgrade id .accident 0)
  | none => s

/-- R87: the KEY grades the call of a line ACCIDENT. -/
def gradeAccident (s : State) (l : Line) : State :=
  match (s.line l).record with
  | some r =>
      if r.grade = .accident then s
      else
        let t := setRecord s l { r with grade := .accident }
        if recordActive r then (if t.isGateway then upgradeLocal t l else upgradeChain t r) else t
  | none => s

/-- R77, R78: KEY opens: the flag and the measurement end. -/
def openKey (x : PhoneLine) : PhoneLine := { x with keyClosed := false, keyTimer := none, keyStuck := false, keyMeasuring := false }

/-- KEY_OPEN (R77, R78, R87). -/
def execKeyOpen (l : Line) (closedUs : Nat) (s : State) : Host.Outcome State Fault Refusal :=
  let t := s.setLine l (openKey (s.line l))
  if s.phonesWork && (s.line l).keyMeasuring && gradingTime closedUs then done s (gradeAccident t l) else .next t

/-- KEY_STUCK (R78). -/
def execKeyStuck (l : Line) (s : State) : Host.Outcome State Fault Refusal :=
  let x := s.line l
  if s.phonesWork && x.keyClosed && x.keyTimer.isSome then
    .next (s.setLine l
      { x with
        keyStuck := true, keyTimer := none
        counts := { x.counts with keyStuckEvents := satInc x.counts.keyStuckEvents } })
  else .next s

/-! ## Voice (R79, R80, R184) -/

/-- R100: VOICE-DROPPED. -/
def countVoiceDropped (s : State) (l : Line) : State := s.countLine l (fun n => { n with voiceDropped := satInc n.voiceDropped })

/-- R79: the VOICE of a chain call. -/
def packChain (s : State) (l : Line) (r : CallRecord) (d : Side) (id : Identity) (samples : List Byte) : State :=
  let c := makeCell s.station .voice anyGateway (referenceOf id) (gradeCode r.grade) 0 0 samples
  if offerAnswer s d c == .taken then offerEffect s d c else countVoiceDropped (offerEffect s d c) l

/-- R184: the VOICE of an own call of a gateway; a full queue is tested first (log 23). -/
def packLocal (s : State) (l : Line) (n : Nat) (id : Identity) (g : Grade) (samples : List Byte) : State :=
  if !officeRoom s then countVoiceDropped s l
  else if floorMet s .call then
    officePush s (onChannel n (makeCell s.station .voice anyGateway (referenceOf id) (gradeCode g) 0 0 samples))
  else countPool (countVoiceDropped s l) .call

/-- R79: one packed period of the record of a line. -/
def packVoice (s : State) (l : Line) (r : CallRecord) (samples : List Byte) : State :=
  match r.direction, r.identity with
  | some d, some id => packChain s l r d id samples
  | _, _ =>
      match localChannel s l with
      | some (n, id, _) => packLocal s l n id r.grade samples
      | none => s

/-- VOICE_PACK_PERIOD (R79). -/
def execVoicePackPeriod (l : Line) (samples : List Byte) (s : State) : Host.Outcome State Fault Refusal :=
  let x := s.line l
  if s.phonesWork && x.state == .talk then
    let t := s.setLine l { x with packPeriod := some voicePeriodMs }
    match x.record with
    | some r => done s (packVoice t l r samples)
    | none => .next t
  else .next s

/-- PLAYOUT_PERIOD (R80). -/
def execPlayoutPeriod (l : Line) (s : State) : Host.Outcome State Fault Refusal :=
  if s.phonesWork && (s.line l).state == .talk then .next (s.setLine l (playHead (s.line l))) else .next s

/-! ## Timers of the record (R84 to R88) -/

/-- The record of a line in a state. -/
def recordIn (s : State) (l : Line) (st : RecordState) : Option CallRecord :=
  match (s.line l).record with
  | some r => if r.state = st then some r else none
  | none => none

/-- SETUP_TIMER_EXPIRY (R85). -/
def execSetupTimerExpiry (l : Line) (s : State) : Host.Outcome State Fault Refusal :=
  if s.phonesWork then
    match recordIn s l .seeking with
    | some r => if r.timer.isSome then done s (recordRefused (originRelease s r) l) else .next s
    | none => .next s
  else .next s

/-- CALL_RETRY_TIMER_EXPIRY (R84). -/
def execCallRetryTimerExpiry (l : Line) (s : State) : Host.Outcome State Fault Refusal :=
  if s.phonesWork then
    match recordIn s l .waiting with
    | some r => if r.timer.isSome then done s (attempt s l (rerouted r)) else .next s
    | none => .next s
  else .next s

/-- R86: the record's own entry is HELD and its voice watch runs. -/
def watchRuns (s : State) (r : CallRecord) : Bool :=
  match r.direction, r.identity with
  | some d, some id => (s.table d).any (fun e => e.identity == id && e.held && e.timer.isSome)
  | _, _ => false

/-- R86: the voice watch of a CONNECTED record expires. -/
def watchExpired (s : State) (l : Line) (r : CallRecord) : State :=
  recordBroken
    ((originRelease s r).countCcu (fun n => { n with voiceWatchExpiries := satInc n.voiceWatchExpiries })) l

/-- ORIGIN_VOICE_WATCH_EXPIRY (R86). -/
def execOriginVoiceWatchExpiry (l : Line) (s : State) : Host.Outcome State Fault Refusal :=
  if s.phonesWork then
    match recordIn s l .connected with
    | some r => if watchRuns s r then done s (watchExpired s l r) else .next s
    | none => .next s
  else .next s

/-- STALE_ANSWER_HOLD_EXPIRY (R88). -/
def execStaleAnswerHoldExpiry (l : Line) (s : State) : Host.Outcome State Fault Refusal :=
  if s.live && (s.line l).staleHold.isSome then .next (s.setLine l { s.line l with staleHold := none }) else .next s

end Sys2Proof.Machine
end

