-- ==== Sys2Proof/Machine/Tolls.lean ====
section
/-! DEFINITION. The meanings of the gantry line and custody commands (R102 to R123). -/

namespace Sys2Proof.Machine

/-- R102, R124: the gantry line and the CSD work. -/
def State.gantryWorks (s : State) : Bool := s.live && gantryFitted s.straps

/-! ## The receiver and its FIFO (R102 to R104) -/

/-- R103: a character passed to the FIFO, or lost at a full one. -/
def fifoPush (g : Gli) (c : FifoChar) : Gli :=
  if g.fifo.length < fifoCapacity then { g with fifo := g.fifo ++ [{ c with overrun := g.lossPending }], lossPending := false }
  else { g with lossPending := true, counts := { g.counts with overruns := satInc g.counts.overruns } }

/-- R104: a break. -/
def takeBreak (g : Gli) : Gli :=
  fifoPush { g with lineBreak := true, counts := { g.counts with breaks := satInc g.counts.breaks } }
    { value := 0, parity := false, framing := false, brk := true, overrun := false }

/-- R102: the count of ones in the data bits and the parity bit is odd. -/
def parityOdd (value : Byte) (parityBit : Bool) : Bool :=
  (((List.range 8).countP (fun i => value.getLsbD i)) + (if parityBit then 1 else 0)) % 2 == 1

/-- R102: a framed character. -/
def takeFramed (g : Gli) (value : Byte) (parityBit stopBit : Bool) : Gli :=
  let n := { g.counts with charsReceived := satInc g.counts.charsReceived }
  let n := if parityOdd value parityBit then { n with parityErrors := satInc n.parityErrors } else n
  let n := if stopBit then n else { n with framingErrors := satInc n.framingErrors }
  fifoPush { g with counts := n }
    { value := value, parity := parityOdd value parityBit, framing := !stopBit, brk := false, overrun := false }

/-- R102, R104: a character: at space from its start bit through its stop bit it is a break. -/
def takeCharacter (g : Gli) (value : Byte) (parityBit stopBit : Bool) : Gli :=
  if value = 0 ∧ parityBit = false ∧ stopBit = false then takeBreak g else takeFramed g value parityBit stopBit

/-- CHARACTER_RECEIVED (R102, R103). -/
def execCharacterReceived (value : Byte) (parityBit stopBit : Bool) (s : State) : Host.Outcome State Fault Refusal :=
  if s.gantryWorks && !s.gli.lineBreak then .next { s with gli := takeCharacter s.gli value parityBit stopBit } else .next s

/-- BREAK_DETECTED (R104). -/
def execBreakDetected (s : State) : Host.Outcome State Fault Refusal :=
  if s.gantryWorks && !s.gli.lineBreak then .next { s with gli := takeBreak s.gli } else .next s

/-- BREAK_END (R104). -/
def execBreakEnd (s : State) : Host.Outcome State Fault Refusal :=
  if s.gantryWorks then .next { s with gli := { s.gli with lineBreak := false } } else .next s

/-! ## The assembler (R105 to R109) -/

/-- R110: an answer offered; without a free place the assembler keeps it and stalls. -/
def answerReader (g : Gli) (a : Answer) : Gli :=
  if g.answers.length < answerPlaces then { g with answers := g.answers ++ [a] } else { g with heldAnswer := some a }

/-- R106: an SOR. -/
def isSor (c : FifoChar) : Bool := c.value == 0x1C && !c.parity && !c.framing && !c.brk

/-- R107, R108: a tag that damages the record. -/
def tagged (c : FifoChar) : Bool := c.parity || c.framing || c.overrun

/-- R107: a value outside 0x20 to 0x7E. -/
def unprintable (b : Byte) : Bool := decide (b.toNat < 0x20) || decide (0x7E < b.toNat)

/-- R108: the sum of the body and the check character is a multiple of 256. -/
def sumGood (body : List Byte) (check : Byte) : Bool := ((body.map BitVec.toNat).sum + check.toNat) % 256 == 0

/-- R108: a damaged record. -/
def judgeDamaged (g : Gli) : Gli :=
  answerReader { g with assembler := .hunt, counts := { g.counts with recordsDamaged := satInc g.counts.recordsDamaged } } .nak

/-- R109: a good record offered to the store. -/
def offerStore (s : State) (g : Gli) (body : List Byte) : Gli :=
  if storeCapacity ≤ s.csd.store.length then
    answerReader { g with assembler := .hunt, counts := { g.counts with recordsFull := satInc g.counts.recordsFull } } .nak
  else if (findEntry s s.csd.nextSeq).isSome then
    answerReader { g with assembler := .hunt, counts := { g.counts with sequenceHeld := satInc g.counts.sequenceHeld } } .nak
  else { g with assembler := .write body }

/-- R108: the check character. -/
def judgeRecord (s : State) (g : Gli) (body : List Byte) (damaged : Bool) (c : FifoChar) : Gli :=
  if damaged || tagged c || !sumGood body c.value then judgeDamaged g else offerStore s g body

/-- R107: a body character. -/
def bodyCharacter (g : Gli) (body : List Byte) (damaged : Bool) (c : FifoChar) : Gli :=
  { g with assembler := .assemble (body ++ [c.value]) (damaged || tagged c || unprintable c.value) }

/-- R106 to R108: a character taken in ASSEMBLE. -/
def assembleCharacter (s : State) (g : Gli) (body : List Byte) (damaged : Bool) (c : FifoChar) : Gli :=
  if isSor c then
    { g with
      assembler := .assemble [] false
      counts := { g.counts with recordsTruncated := satInc g.counts.recordsTruncated } }
  else if c.brk then
    { g with assembler := .hunt, counts := { g.counts with recordsBroken := satInc g.counts.recordsBroken } }
  else if body.length < 20 then bodyCharacter g body damaged c
  else judgeRecord s g body damaged c

/-- R105 to R108: the assembler takes a character; `g` is the GLI with it removed from the FIFO. -/
def assemblerTakes (s : State) (g : Gli) (c : FifoChar) : Gli :=
  match g.assembler with
  | .hunt => if isSor c then { g with assembler := .assemble [] false } else g
  | .assemble body damaged => assembleCharacter s g body damaged c
  | .write _ => g

/-- R105: the assembler takes characters: not in WRITE, not stalled. -/
def assemblerReady (g : Gli) : Bool :=
  g.heldAnswer.isNone && (match g.assembler with | .write _ => false | _ => true)

/-- ASSEMBLER_TAKE_CHARACTER (R105 to R109). -/
def execAssemblerTakeCharacter (s : State) : Host.Outcome State Fault Refusal :=
  if s.gantryWorks && assemblerReady s.gli then
    match s.gli.fifo with
    | c :: rest => .next { s with gli := assemblerTakes s { s.gli with fifo := rest } c }
    | [] => .next s
  else .next s

/-! ## The store write (R109, R114) -/

/-- R114: the entry and the sequence, as one unit of retention memory (R17). -/
def storeRecord (c : Csd) (body : List Byte) : Csd :=
  { c with store := c.store ++ [{ sequence := c.nextSeq, body := body }], nextSeq := c.nextSeq + 1 }

/-- R114: a store write completes: the entry, the flow state, the pass; then the ACK. -/
def writeCompleted (s : State) (body : List Byte) : State :=
  let t : State := { s with csd := storeRecord s.csd body }
  let t := t.countCsd (fun n => { n with recordsStored := satInc n.recordsStored })
  let t := dispatchPass (evalFlow t)
  { t with gli := answerReader { t.gli with assembler := .hunt } .ack }

/-- STORE_WRITE_COMPLETE (R109, R114). -/
def execStoreWriteComplete (s : State) : Host.Outcome State Fault Refusal :=
  if s.gantryWorks then
    match s.gli.assembler with
    | .write body => done s (writeCompleted s body)
    | _ => .next s
  else .next s

/-! ## The transmitter (R110) -/

def answerCode : Answer → Byte
  | .ack => 0x06
  | .nak => 0x15

def flowCode : FlowChar → Byte
  | .xon => 0x11
  | .xoff => 0x13

/-- R110: the count of an answer sent. -/
def countAnswer (n : GliCounts) : Answer → GliCounts
  | .ack => { n with acksSent := satInc n.acksSent }
  | .nak => { n with naksSent := satInc n.naksSent }

/-- R110: the count of a flow character sent. -/
def countFlow (n : GliCounts) : FlowChar → GliCounts
  | .xon => { n with xonsSent := satInc n.xonsSent }
  | .xoff => { n with xoffsSent := satInc n.xoffsSent }

/-- R105, R110: a held answer takes the place that has freed. -/
def placeHeld (g : Gli) : Gli :=
  match g.heldAnswer with
  | some a => answerReader { g with heldAnswer := none } a
  | none => g

/-- R110: the transmitter takes the flow place, else the oldest answer; the wire rests at mark with neither. -/
def sendControl (g : Gli) : Gli :=
  match g.flowPlace, g.answers with
  | some f, _ => { g with flowPlace := none, txChar := some (flowCode f), counts := countFlow g.counts f }
  | none, a :: rest => placeHeld { g with answers := rest, txChar := some (answerCode a), counts := countAnswer g.counts a }
  | none, [] => { g with txChar := none }

/-- TRANSMIT_CONTROL_CHARACTER (R110). -/
def execTransmitControlCharacter (s : State) : Host.Outcome State Fault Refusal :=
  if s.gantryWorks then .next { s with gli := sendControl s.gli } else .next s

/-! ## Custody timers and acknowledgements (R118, R120, R123) -/

/-- DISPATCH_TIMER_EXPIRY (R118). -/
def execDispatchTimerExpiry (s : State) : Host.Outcome State Fault Refusal :=
  if s.gantryWorks && s.csd.dispatchTimer.isSome then
    done s (dispatchPass { s with csd := { s.csd with dispatchTimer := none } })
  else .next s

/-- R120: a retry expiry. -/
def retryExpired (s : State) (sequence : Half) : State :=
  dispatchPass ((s.changeEntry sequence queueEntry).countCsd (fun n => { n with retryExpiries := satInc n.retryExpiries }))

/-- CUSTODY_RETRY_EXPIRY (R120). -/
def execCustodyRetryExpiry (sequence : Half) (s : State) : Host.Outcome State Fault Refusal :=
  if s.gantryWorks then
    match findEntry s sequence with
    | some e => if e.state = .sent ∧ e.retry.isSome then done s (retryExpired s sequence) else .next s
    | none => .next s
  else .next s

/-- R9, R123: a TOLL-ACK in hand consumed here. -/
def consumeAck (c : Cell) (s : State) : State := if gantryFitted s.straps then takeAck s c.reference else countNoConsumer s

/-- TOLL_ACK (R8, R123). -/
def execTollAck (p : Port) (c : CellData) (s : State) : Host.Outcome State Fault Refusal :=
  let x := cellOf .tollAck c
  done s (transitArrival s p x (fun t => carry t (t.sideOf p) x (consumeAck x)))

end Sys2Proof.Machine
end

