-- ==== Sys2Proof/Machine/Power.lean ====
section
/-! DEFINITION. The meanings of the power and reset commands: the two resets, retention memory, start-up and the dark
period (R15 to R17). -/

namespace Sys2Proof.Machine

/-! ## Into reset (R15, R17) -/

/-- R17: a store write that the reset interrupts is either made or not made; a free value decides (log 11). -/
def interruptWrite (s : State) : State :=
  match s.gli.assembler with
  | .write body =>
      { s with
        freeUses := s.freeUses + 1
        gli := { s.gli with assembler := .hunt }
        csd := if Config.freeBool s.freeUses then storeRecord s.csd body else s.csd }
  | _ => s

/-- R15: the transmitters go off. -/
def transmittersOff (s : State) : State :=
  { s with ports := { sp1 := { s.ports.sp1 with wire := .off }, sp2 := { s.ports.sp2 with wire := .off } } }

/-- R15: what a reset that begins leaves, where the part was out of reset. -/
def intoReset (s : State) : State := if s.running then transmittersOff (interruptWrite s) else s

/-- RESET_ASSERT (R15). -/
def execResetAssert (s : State) : Host.Outcome State Fault Refusal :=
  .next { intoReset s with power := { s.power with resetLow := true } }

/-- MAIN_SUPPLY_FALL (R15). -/
def execMainSupplyFall (s : State) : Host.Outcome State Fault Refusal :=
  .next { intoReset s with power := { s.power with supplyUp := false, powerOnDue := true } }

/-- VRET_LOSS (R15): retention memory is fed from VRET alone only in reset or with the supply down (log 19). -/
def execVretLoss (s : State) : Host.Outcome State Fault Refusal :=
  if s.running then .next s else .next { s with power := { s.power with retentionLost := true } }

/-! ## Out of reset (R15 to R17, R125) -/

/-- R15: the reset that ends is a POWER-ON. -/
def isPowerOn (p : Power) : Bool := p.powerOnDue || p.retentionLost

/-- R17: the power-on count after a reset. -/
def countAfterReset (p : Power) (n : Half) : Half :=
  if isPowerOn p then (if p.retentionLost then 1 else satInc n) else n

/-- R17, R125: the custody store after a reset. -/
def storeAfterReset (p : Power) (c : Csd) : Csd :=
  if isPowerOn p then {} else { store := c.store.map queueEntry, nextSeq := c.nextSeq }

/-- R17, R151: the sign store after a reset. -/
def signAfterReset (p : Power) (x : Sps) : Sps := if isPowerOn p then {} else { pages := x.pages }

/-- The line after a reset: the levels at its pins stand. -/
def lineAfterReset (x : PhoneLine) : PhoneLine := { offHook := x.offHook, keyClosed := x.keyClosed }

/-- R15, R16: every block at the values its chapter gives, the straps latched, the dark period running. -/
def resetValues (s : State) (k : Straps) : State :=
  { pending := s.pending
    power := {}
    straps := k
    powerOnCount := countAfterReset s.power s.powerOnCount
    dark := some darkPeriodMs
    ports := { sp1 := { light := s.ports.sp1.light }, sp2 := { light := s.ports.sp2.light } }
    inHand := 0
    node := {}
    tiu := { up := {}, down := {} }
    reach := { up := {}, down := {} }
    srt := { up := [], down := [] }
    lines := { line0 := lineAfterReset s.lines.line0, line1 := lineAfterReset s.lines.line1 }
    ccu := {}
    gli := {}
    csd := storeAfterReset s.power s.csd
    sps := signAfterReset s.power s.sps
    wsu := {}
    gw := { ordy := s.gw.ordy }
    maint := {}
    freeUses := s.freeUses }

/-- R75, R78: a phone line at step 4: a handset off the hook is seen from IDLE, a closed key is watched. -/
def startLine (x : PhoneLine) : PhoneLine :=
  let y := if x.keyClosed then { x with keyTimer := some keyStuckMs } else x
  if y.offHook then { y with state := .offhookCheck, hookDebounce := some hookDebounceMs } else y

/-- R16, R75: the phone lines start. -/
def startPhones (s : State) : State :=
  if phonesFitted s.straps then
    { s with lines := { line0 := startLine s.lines.line0, line1 := startLine s.lines.line1 } }
  else s

/-- R112, R116: the gantry line starts with its flow character and a dispatch pass. -/
def startGantry (s : State) : State := if gantryFitted s.straps then dispatchPass (startFlow s) else s

/-- R148: the slew period starts. -/
def startSign (s : State) : State :=
  if signFitted s.straps then { s with sps := { s.sps with slewPeriod := some slewMs } } else s

/-- R152, R159: the periods of the WSU start, and the wind counter takes its preload (log 21), where the job is fitted
(log 46). -/
def startWeather (s : State) : State :=
  if weatherFitted s.straps then
    { s with wsu := { s.wsu with
      sweepPeriod := some 0, windowPeriod := some windowMs, racePeriod := some 0, reportPeriod := some reportMs
      windCounter := BitVec.ofNat 8 (strapPreload s.straps) } }
  else s

/-- R16, step 4: start-up where the strap status is OK. -/
def startUp (s : State) : State :=
  if strapFault s.straps then s else startWeather (startSign (startPhones (startGantry s)))

/-- RESET_END (R10 to R17). -/
def execResetEnd (straps : Straps) (s : State) : Host.Outcome State Fault Refusal :=
  if s.running then .next s else .next (startUp (resetValues s straps))

/-! ## The dark period (R16) -/

/-- R16: a port in use leaves the hold. -/
def leaveDark (s : State) (p : Port) : State :=
  if s.portLive p && (s.port p).light && (s.port p).state == .dark then s.setPort p (enterSeekDark (s.port p)) else s

/-- DARK_PERIOD_END (R16). -/
def execDarkPeriodEnd (s : State) : Host.Outcome State Fault Refusal :=
  if s.running && s.dark.isSome then .next (leaveDark (leaveDark { s with dark := none } .sp1) .sp2) else .next s

end Sys2Proof.Machine
end

