-- ==== Sys2Proof/Machine/Dispatch.lean ====
section
/-! DEFINITION. One arm per command: each calls its meaning. -/

namespace Sys2Proof.Machine

def exec (i : Instr) (s : State) : Host.Outcome State Fault Refusal :=
  match i with
  | .resetAssert => Sys2Proof.Machine.execResetAssert s
  | .mainSupplyFall => Sys2Proof.Machine.execMainSupplyFall s
  | .vretLoss => Sys2Proof.Machine.execVretLoss s
  | .resetEnd straps => Sys2Proof.Machine.execResetEnd straps s
  | .darkPeriodEnd => Sys2Proof.Machine.execDarkPeriodEnd s
  | .lightFound p => Sys2Proof.Machine.execLightFound p s
  | .lightDisappears p => Sys2Proof.Machine.execLightDisappears p s
  | .lightReturns p => Sys2Proof.Machine.execLightReturns p s
  | .lossDebounceExpiry p => Sys2Proof.Machine.execLossDebounceExpiry p s
  | .lockGained p => Sys2Proof.Machine.execLockGained p s
  | .markerWatchExpiry p => Sys2Proof.Machine.execMarkerWatchExpiry p s
  | .badCheckCell p => Sys2Proof.Machine.execBadCheckCell p s
  | .malformedCell p => Sys2Proof.Machine.execMalformedCell p s
  | .hello p c => Sys2Proof.Machine.execHello p c s
  | .helloPeriod p => Sys2Proof.Machine.execHelloPeriod p s
  | .helloWatchExpiry p => Sys2Proof.Machine.execHelloWatchExpiry p s
  | .idleTimerExpiry p => Sys2Proof.Machine.execIdleTimerExpiry p s
  | .dozeRetryExpiry p => Sys2Proof.Machine.execDozeRetryExpiry p s
  | .dozeReq p c => Sys2Proof.Machine.execDozeReq p c s
  | .dozeAck p c => Sys2Proof.Machine.execDozeAck p c s
  | .answerWindowExpiry p => Sys2Proof.Machine.execAnswerWindowExpiry p s
  | .wakeTimerExpiry p => Sys2Proof.Machine.execWakeTimerExpiry p s
  | .wakeBurst p => Sys2Proof.Machine.execWakeBurst p s
  | .wakeAck p c => Sys2Proof.Machine.execWakeAck p c s
  | .hold p c => Sys2Proof.Machine.execHold p c s
  | .resume p c => Sys2Proof.Machine.execResume p c s
  | .holdExpiry d => Sys2Proof.Machine.execHoldExpiry d s
  | .holdRepeatExpiry d => Sys2Proof.Machine.execHoldRepeatExpiry d s
  | .beacon p c => Sys2Proof.Machine.execBeacon p c s
  | .reachLapse d => Sys2Proof.Machine.execReachLapse d s
  | .transmitSlot p => Sys2Proof.Machine.execTransmitSlot p s
  | .transmissionComplete p => Sys2Proof.Machine.execTransmissionComplete p s
  | .callSetup p c => Sys2Proof.Machine.execCallSetup p c s
  | .callAccept p c => Sys2Proof.Machine.execCallAccept p c s
  | .callRefuse p c => Sys2Proof.Machine.execCallRefuse p c s
  | .callRelease p c => Sys2Proof.Machine.execCallRelease p c s
  | .callBroken p c => Sys2Proof.Machine.execCallBroken p c s
  | .callUpgrade p c => Sys2Proof.Machine.execCallUpgrade p c s
  | .voice p c => Sys2Proof.Machine.execVoice p c s
  | .tollRecord p c => Sys2Proof.Machine.execTollRecord p c s
  | .tollAck p c => Sys2Proof.Machine.execTollAck p c s
  | .signCommandConsumed p k c => Sys2Proof.Machine.execSignCommandConsumed p k c s
  | .signReply p c => Sys2Proof.Machine.execSignReply p c s
  | .weatherReport p c => Sys2Proof.Machine.execWeatherReport p c s
  | .nodeStatus p c => Sys2Proof.Machine.execNodeStatus p c s
  | .weatherPoll p c => Sys2Proof.Machine.execWeatherPoll p c s
  | .nodeQuery p c => Sys2Proof.Machine.execNodeQuery p c s
  | .hookOffHook l => Sys2Proof.Machine.execHookOffHook l s
  | .hookOnHook l => Sys2Proof.Machine.execHookOnHook l s
  | .offhookDebounceExpiry l => Sys2Proof.Machine.execOffhookDebounceExpiry l s
  | .onhookDebounceExpiry l => Sys2Proof.Machine.execOnhookDebounceExpiry l s
  | .keyClose l => Sys2Proof.Machine.execKeyClose l s
  | .keyOpen l closedUs => Sys2Proof.Machine.execKeyOpen l closedUs s
  | .keyStuck l => Sys2Proof.Machine.execKeyStuck l s
  | .voicePackPeriod l samples => Sys2Proof.Machine.execVoicePackPeriod l samples s
  | .playoutPeriod l => Sys2Proof.Machine.execPlayoutPeriod l s
  | .setupTimerExpiry l => Sys2Proof.Machine.execSetupTimerExpiry l s
  | .callRetryTimerExpiry l => Sys2Proof.Machine.execCallRetryTimerExpiry l s
  | .originVoiceWatchExpiry l => Sys2Proof.Machine.execOriginVoiceWatchExpiry l s
  | .pathEntryTimerExpiry id => Sys2Proof.Machine.execPathEntryTimerExpiry id s
  | .staleAnswerHoldExpiry l => Sys2Proof.Machine.execStaleAnswerHoldExpiry l s
  | .gatewayVoiceWatchExpiry id => Sys2Proof.Machine.execGatewayVoiceWatchExpiry id s
  | .localVoiceWatchExpiry l => Sys2Proof.Machine.execLocalVoiceWatchExpiry l s
  | .characterReceived value parityBit stopBit => Sys2Proof.Machine.execCharacterReceived value parityBit stopBit s
  | .breakDetected => Sys2Proof.Machine.execBreakDetected s
  | .breakEnd => Sys2Proof.Machine.execBreakEnd s
  | .assemblerTakeCharacter => Sys2Proof.Machine.execAssemblerTakeCharacter s
  | .storeWriteComplete => Sys2Proof.Machine.execStoreWriteComplete s
  | .transmitControlCharacter => Sys2Proof.Machine.execTransmitControlCharacter s
  | .dispatchTimerExpiry => Sys2Proof.Machine.execDispatchTimerExpiry s
  | .custodyRetryExpiry sequence => Sys2Proof.Machine.execCustodyRetryExpiry sequence s
  | .signWindow => Sys2Proof.Machine.execSignWindow s
  | .signPixels => Sys2Proof.Machine.execSignPixels s
  | .pixelWrite => Sys2Proof.Machine.execPixelWrite s
  | .signShow => Sys2Proof.Machine.execSignShow s
  | .signClear => Sys2Proof.Machine.execSignClear s
  | .signDim => Sys2Proof.Machine.execSignDim s
  | .hazardHoldExpiry => Sys2Proof.Machine.execHazardHoldExpiry s
  | .refreshBoundary => Sys2Proof.Machine.execRefreshBoundary s
  | .rowPeriod => Sys2Proof.Machine.execRowPeriod s
  | .brightnessSlew => Sys2Proof.Machine.execBrightnessSlew s
  | .sweepStart => Sys2Proof.Machine.execSweepStart s
  | .settleExpiry => Sys2Proof.Machine.execSettleExpiry s
  | .endOfConversion result => Sys2Proof.Machine.execEndOfConversion result s
  | .windPulse => Sys2Proof.Machine.execWindPulse s
  | .windWindowStart => Sys2Proof.Machine.execWindWindowStart s
  | .rainTip => Sys2Proof.Machine.execRainTip s
  | .intervalTimerStop => Sys2Proof.Machine.execIntervalTimerStop s
  | .surfaceRaceStart => Sys2Proof.Machine.execSurfaceRaceStart s
  | .referenceOverflow surface => Sys2Proof.Machine.execReferenceOverflow surface s
  | .surfaceOverflow => Sys2Proof.Machine.execSurfaceOverflow s
  | .reportPeriodEnd => Sys2Proof.Machine.execReportPeriodEnd s
  | .beaconPeriod => Sys2Proof.Machine.execBeaconPeriod s
  | .toOfficeTransferStart ordy => Sys2Proof.Machine.execToOfficeTransferStart ordy s
  | .toOfficeTransferComplete => Sys2Proof.Machine.execToOfficeTransferComplete s
  | .fromOfficeTransferStart => Sys2Proof.Machine.execFromOfficeTransferStart s
  | .fromOfficeTransferComplete c check => Sys2Proof.Machine.execFromOfficeTransferComplete c check s
  | .officeSignOrReportCell => Sys2Proof.Machine.execOfficeSignOrReportCell s
  | .officeVoice => Sys2Proof.Machine.execOfficeVoice s
  | .officeCallRelease => Sys2Proof.Machine.execOfficeCallRelease s
  | .officeCellRejected => Sys2Proof.Machine.execOfficeCellRejected s
  | .officeOfferRetry => Sys2Proof.Machine.execOfficeOfferRetry s
  | .pointerWrite value => Sys2Proof.Machine.execPointerWrite value s
  | .counterClear => Sys2Proof.Machine.execCounterClear s
  | .ignoredWriteByte value => Sys2Proof.Machine.execIgnoredWriteByte value s
  | .statusByteRead => Sys2Proof.Machine.execStatusByteRead s

end Sys2Proof.Machine
end

