-- ==== Sys2Proof/Machine/Tick.lean ====
section
/-! DEFINITION. What a millisecond of time does when no command waits (log 2): remaining times fall, ages and counters of
time rise. No timer fires by itself: an expiry is a command of the table, and a running timer stops falling at 1. -/

namespace Sys2Proof.Machine

/-- A timer one millisecond later. -/
def tickTimer : Timer → Timer
  | some (n + 2) => some (n + 1)
  | t => t

def tickPort (u : PortUnit) : PortUnit :=
  { u with
    lossDebounce := tickTimer u.lossDebounce, helloPeriod := tickTimer u.helloPeriod, helloWatch := tickTimer u.helloWatch
    idle := tickTimer u.idle, dozeRetry := tickTimer u.dozeRetry, wakeTimer := tickTimer u.wakeTimer
    answerWindow := tickTimer u.answerWindow }

def tickTiu (t : Tiu) : Tiu := { t with holdExpiry := tickTimer t.holdExpiry, holdRepeat := tickTimer t.holdRepeat }

/-- R64: the age of a HELD entry; that of a VALID one waits at 600 ms for its lapse or for a beacon (log 2). -/
def tickEntry (e : ReachEntry) : ReachEntry :=
  if !e.held then e
  else if e.valid && decide (reachLapseMs ≤ e.age.toNat) then e
  else { e with age := satInc e.age }

def tickSrt (e : SrtEntry) : SrtEntry := { e with timer := tickTimer e.timer }

def tickLine (x : PhoneLine) : PhoneLine :=
  { x with
    hookDebounce := tickTimer x.hookDebounce, keyTimer := tickTimer x.keyTimer, staleHold := tickTimer x.staleHold
    packPeriod := tickTimer x.packPeriod, playPeriod := tickTimer x.playPeriod
    record := x.record.map (fun r => { r with timer := tickTimer r.timer }) }

/-- R113: the age of a custody entry in whole seconds; `aging` where the store may change (log 24). -/
def tickCustody (aging : Bool) (e : CustodyEntry) : CustodyEntry :=
  let e := { e with retry := tickTimer e.retry }
  if !aging then e
  else if 999 ≤ e.ageMs then { e with ageMs := 0, age := satInc e.age }
  else { e with ageMs := e.ageMs + 1 }

/-- R164: the interval timer counts a tick every 10 ms; the last tick is INTERVAL_TIMER_STOP's. -/
def tickInterval : Interval → Interval
  | .running t sub =>
      if sub + 1 < intervalTickMs then .running t (sub + 1)
      else if t + 1 < intervalMax then .running (t + 1) 0
      else .running t sub
  | i => i

def tickWsu (w : Wsu) : Wsu :=
  { w with
    settle := tickTimer w.settle, sweepPeriod := tickTimer w.sweepPeriod, windowPeriod := tickTimer w.windowPeriod
    racePeriod := tickTimer w.racePeriod, reportPeriod := tickTimer w.reportPeriod, interval := tickInterval w.interval
    refCounter := if w.racing then satAdd w.refCounter 1000 else w.refCounter }

def tickChannel : OfficeChannel → OfficeChannel
  | .localCall id g t => .localCall id g (tickTimer t)
  | c => c

/-- One millisecond; in reset and without the main supply nothing runs. -/
def tick (s : State) : State :=
  if s.running then
    { s with
      dark := tickTimer s.dark
      ports := { sp1 := tickPort s.ports.sp1, sp2 := tickPort s.ports.sp2 }
      tiu := { up := tickTiu s.tiu.up, down := tickTiu s.tiu.down }
      reach := { up := tickEntry s.reach.up, down := tickEntry s.reach.down }
      srt := { up := s.srt.up.map tickSrt, down := s.srt.down.map tickSrt }
      lines := { line0 := tickLine s.lines.line0, line1 := tickLine s.lines.line1 }
      csd := { s.csd with
        dispatchTimer := tickTimer s.csd.dispatchTimer
        store := s.csd.store.map (tickCustody (s.live && gantryFitted s.straps)) }
      sps := { s.sps with hazardHold := tickTimer s.sps.hazardHold, slewPeriod := tickTimer s.sps.slewPeriod }
      wsu := tickWsu s.wsu
      gw := { s.gw with beaconPeriod := tickTimer s.gw.beaconPeriod, channels := s.gw.channels.map tickChannel } }
  else s

end Sys2Proof.Machine
end

