-- ==== Sys2Proof/Safety.lean ====
section
/-! DEFINITION. What the statements are made of: the parts of State and frames over them, and the invariants that every
step keeps. -/

namespace Sys2Proof.Machine

/-! ## Frames -/

/-- The parts of State. -/
inductive Part where
  | pending
  | power
  | straps
  | powerOnCount
  | dark
  | ports
  | inHand
  | node
  | tiu
  | reach
  | srt
  | lines
  | ccu
  | gli
  | csd
  | sps
  | wsu
  | gw
  | maint
  | freeUses
deriving DecidableEq, Repr

/-- Two states agree on a part. -/
def Same (s t : State) : Part → Prop
  | .pending => t.pending = s.pending
  | .power => t.power = s.power
  | .straps => t.straps = s.straps
  | .powerOnCount => t.powerOnCount = s.powerOnCount
  | .dark => t.dark = s.dark
  | .ports => t.ports = s.ports
  | .inHand => t.inHand = s.inHand
  | .node => t.node = s.node
  | .tiu => t.tiu = s.tiu
  | .reach => t.reach = s.reach
  | .srt => t.srt = s.srt
  | .lines => t.lines = s.lines
  | .ccu => t.ccu = s.ccu
  | .gli => t.gli = s.gli
  | .csd => t.csd = s.csd
  | .sps => t.sps = s.sps
  | .wsu => t.wsu = s.wsu
  | .gw => t.gw = s.gw
  | .maint => t.maint = s.maint
  | .freeUses => t.freeUses = s.freeUses

/-- From `s` to `t` no part changes but those listed. -/
def Within (parts : List Part) (s t : State) : Prop := ∀ q, q ∉ parts → Same s t q

/-- Every port but `p` is as before. -/
def onlyPort (s t : State) (p : Port) : Prop := ∀ q, q ≠ p → t.port q = s.port q

/-- The parts that a command may change (the buffer in hand, 0 between commands, apart). -/
def touches : Instr → List Part
  | .resetAssert | .mainSupplyFall => [.power, .ports, .gli, .csd, .freeUses]
  | .vretLoss => [.power]
  | .resetEnd _ =>
      [.power, .straps, .powerOnCount, .dark, .ports, .inHand, .node, .tiu, .reach, .srt, .lines, .ccu, .gli, .csd, .sps, .wsu,
       .gw, .maint]
  | .darkPeriodEnd => [.dark, .ports]
  | .lightFound _ | .lightDisappears _ | .lightReturns _ | .lockGained _ | .malformedCell _ | .helloPeriod _
  | .dozeRetryExpiry _ | .answerWindowExpiry _ => [.ports]
  | .idleTimerExpiry _ | .dozeReq _ _ | .dozeAck _ _ => [.inHand, .ports]
  | .lossDebounceExpiry _ | .markerWatchExpiry _ | .badCheckCell _ | .hello _ _ | .helloWatchExpiry _ | .wakeTimerExpiry _ =>
      [.inHand, .ports, .node, .tiu, .reach, .srt, .lines, .ccu, .csd, .gw]
  | .wakeBurst _ | .wakeAck _ _ => [.inHand, .ports, .node, .tiu, .csd, .gw]
  | .hold _ _ | .resume _ _ | .transmitSlot _ => [.inHand, .ports, .tiu]
  | .holdExpiry _ | .holdRepeatExpiry _ => [.tiu]
  | .beacon _ _ | .reachLapse _ => [.inHand, .ports, .node, .tiu, .reach, .csd]
  | .transmissionComplete _ => [.inHand, .ports, .tiu, .csd]
  | .callSetup _ _ | .callAccept _ _ | .callRefuse _ _ | .callRelease _ _ | .callBroken _ _ | .callUpgrade _ _ | .voice _ _ =>
      [.inHand, .freeUses, .ports, .node, .tiu, .srt, .lines, .ccu, .gw]
  | .pathEntryTimerExpiry _ | .onhookDebounceExpiry _ | .keyOpen _ _ | .voicePackPeriod _ _ | .setupTimerExpiry _
  | .callRetryTimerExpiry _ | .originVoiceWatchExpiry _ | .gatewayVoiceWatchExpiry _ | .localVoiceWatchExpiry _ =>
      [.inHand, .ports, .node, .tiu, .srt, .lines, .ccu, .gw]
  | .offhookDebounceExpiry _ => [.inHand, .ports, .node, .tiu, .srt, .lines, .ccu, .gw, .sps]
  | .hookOffHook _ | .hookOnHook _ | .keyClose _ | .keyStuck _ | .playoutPeriod _ | .staleAnswerHoldExpiry _ => [.lines]
  | .tollRecord _ _ | .signReply _ _ | .weatherReport _ _ | .nodeStatus _ _ => [.inHand, .ports, .node, .tiu, .gw]
  | .tollAck _ _ => [.inHand, .ports, .node, .tiu, .gli, .csd]
  | .signCommandConsumed _ _ _ => [.inHand, .ports, .node, .tiu, .sps]
  | .weatherPoll _ _ => [.inHand, .ports, .node, .tiu, .wsu, .gw]
  | .nodeQuery _ _ => [.inHand, .ports, .node, .tiu, .gw, .maint, .freeUses]
  | .characterReceived _ _ _ | .breakDetected | .breakEnd | .assemblerTakeCharacter | .transmitControlCharacter => [.gli]
  | .storeWriteComplete => [.inHand, .ports, .node, .tiu, .csd, .gli]
  | .dispatchTimerExpiry | .custodyRetryExpiry _ => [.inHand, .ports, .node, .tiu, .csd]
  | .signWindow | .signPixels | .pixelWrite | .signShow | .signClear | .signDim => [.inHand, .ports, .node, .tiu, .sps, .gw]
  | .hazardHoldExpiry | .refreshBoundary | .rowPeriod | .brightnessSlew => [.sps]
  | .sweepStart | .settleExpiry | .rainTip | .intervalTimerStop | .surfaceRaceStart => [.wsu]
  | .endOfConversion _ | .windPulse | .windWindowStart | .referenceOverflow _ | .surfaceOverflow => [.sps, .wsu]
  | .reportPeriodEnd => [.inHand, .ports, .node, .tiu, .wsu, .gw]
  | .beaconPeriod => [.ports, .node, .tiu, .gw]
  | .toOfficeTransferStart _ | .toOfficeTransferComplete | .fromOfficeTransferStart | .fromOfficeTransferComplete _ _
  | .officeCellRejected => [.gw]
  | .officeSignOrReportCell => [.inHand, .ports, .node, .tiu, .sps, .wsu, .gw, .maint, .freeUses]
  | .officeVoice => [.inHand, .ports, .node, .tiu, .lines, .gw]
  | .officeCallRelease => [.inHand, .ports, .node, .tiu, .srt, .lines, .gw]
  | .officeOfferRetry => [.inHand, .ports, .node, .tiu, .srt, .lines, .sps, .wsu, .gw, .maint, .freeUses]
  | .pointerWrite _ => [.maint]
  | .counterClear | .ignoredWriteByte _ => [.ports, .node, .tiu, .reach, .lines, .ccu, .gli, .csd, .sps, .wsu, .gw, .maint]
  | .statusByteRead => [.maint, .freeUses]

/-! ## Arrivals -/

/-- R6, R21: the port takes the cell: lock is held, the header test passes, the port is in service. -/
def cellTaken (s : State) (p : Port) (c : Cell) : Bool :=
  receives s p && headerOk c && inServiceState (s.port p).state

/-- R37, R40: a taken cell is within the hop limit and finds a buffer. -/
def cellGranted (s : State) (p : Port) (c : Cell) : Bool :=
  cellTaken s p c && c.hops != 63 && decide (0 < s.poolFree)

/-- The state with `n` buffers in hand in place of those it has: what an arriving cell's own buffer makes of it. -/
def State.holding (s : State) (n : Nat) : State := { s with inHand := n }

/-- R37: one more buffer is in hand at a grant. -/
def grantedState (s : State) : State := s.holding 1

/-- R45: an offer of a local cell other than VOICE is taken by a side: in service, room in the queue of its class, its
floor met. -/
def takesLocal (s : State) (d : Side) (k : Class) : Bool :=
  s.inService d && decide ((insQueue (s.side d) k).length < insCapacity k) && decide (classFloor k ≤ s.poolFree)

/-- R41: a CALL cell handed to a side is placed: in service, room in TQ-CALL. -/
def takesCall (s : State) (d : Side) : Bool := s.inService d && decide ((s.side d).tqCall.length < 32)

/-- R42, R90: a CALL cell of another station's call that passes this node. -/
def passesHere (s : State) (c : CellData) : Bool :=
  !s.isGateway && (callOf c).station != s.station && c.target != s.station

/-- R42, R90: a CALL cell of a call of this station, targeted to it. -/
def endsHere (s : State) (c : CellData) : Bool :=
  !s.isGateway && (callOf c).station == s.station && c.target == s.station

/-- R8, R180: a CALL cell that a gateway consumes. -/
def gatewayEnds (s : State) (c : CellData) : Bool :=
  s.isGateway && (c.target == s.station || c.target == anyGateway)

/-- R8, R90: a CALL cell for another station that a gateway does not consume, of a call of another station: the gateway is a path
node for it. -/
def straysHere (s : State) (c : CellData) : Bool :=
  s.isGateway && (callOf c).station != s.station && c.target != s.station && c.target != anyGateway
    && c.target != allStations

/-- The commands that bring a TOLL, SIGN or REPORT cell, each with the kind of its cell. -/
def dataCommands (p : Port) (c : CellData) : List (Instr × Kind) :=
  [(.tollRecord p c, .tollRecord), (.tollAck p c, .tollAck), (.signCommandConsumed p .window c, .signWindow),
   (.signCommandConsumed p .pixels c, .signPixels), (.signCommandConsumed p .showPage c, .signShow),
   (.signCommandConsumed p .clear c, .signClear), (.signCommandConsumed p .dim c, .signDim), (.signReply p c, .signReply),
   (.weatherReport p c, .weatherReport), (.nodeStatus p c, .nodeStatus), (.weatherPoll p c, .weatherPoll),
   (.nodeQuery p c, .nodeQuery)]

/-- The commands that bring a LINK cell other than HELLO, each with the kind of its cell. -/
def linkCommands (p : Port) (c : CellData) : List (Instr × Kind) :=
  [(.hold p c, .hold), (.resume p c, .resume), (.beacon p c, .beacon), (.dozeReq p c, .dozeReq), (.dozeAck p c, .dozeAck),
   (.wakeAck p c, .wakeAck)]

/-- The commands that bring a CALL cell, each with the kind of its cell. -/
def callCommands (p : Port) (c : CellData) : List (Instr × Kind) :=
  [(.callSetup p c, .callSetup), (.callAccept p c, .callAccept), (.callRefuse p c, .callRefuse),
   (.callRelease p c, .callRelease), (.callBroken p c, .callBroken), (.callUpgrade p c, .callUpgrade), (.voice p c, .voice)]

/-- Every command that brings a cell other than HELLO. -/
def arrivalCommands (p : Port) (c : CellData) : List (Instr × Kind) := linkCommands p c ++ callCommands p c ++ dataCommands p c

/-- R8: a TOLL, SIGN or REPORT cell with this target is consumed at this node and goes no further. -/
def consumedHere (s : State) (target : Byte) : Bool :=
  target == s.station || (s.isGateway && (target == anyGateway || target == allStations))

/-- R8, R9, R130, R171, R197: the local copy of a cell targeted ALL, from side `a`, reaches the block that owns its kind.
`held` is the buffers that the arrival and its copy hold when that block offers an answer. -/
def deliveredHere (s t : State) (a : Side) (held : Nat) (k : Kind) (c : CellData) : Prop :=
  (kindClass k = .sign → signFitted s.straps = true →
      t.sps = { s.sps with waiting := s.sps.waiting ++ [{ cell := cellOf k c, side := some a }] })
  ∧ (kindClass k = .sign → signFitted s.straps = false → t.node.noConsumer = satInc s.node.noConsumer)
  ∧ (k = .weatherPoll → weatherFitted s.straps = false → t.node.noConsumer = satInc s.node.noConsumer)
  ∧ (takesLocal (s.holding held) a .report = true →
      (k = .weatherPoll → weatherFitted s.straps = true →
        (t.side a).insReport
          = (s.side a).insReport
            ++ [makeCell s.station .weatherReport c.origin c.reference 0 1 0 (reportPayload s.wsu)]
        ∧ t.wsu = { s.wsu with counts := { s.wsu.counts with pollsAnswered := satInc s.wsu.counts.pollsAnswered } })
      ∧ (k = .nodeQuery →
          (∃ payload, payload.length = 52 ∧ (t.side a).insReport
            = (s.side a).insReport ++ [makeCell s.station .nodeStatus c.origin c.reference 0 0 0 payload])
          ∧ t.maint = { s.maint with queriesAnswered := satInc s.maint.queriesAnswered }))

/-- R8, R9, R130, R172, R187, R197: an office cell handed to the gateway's own block waits there with no arrival side, is
answered to the office, or counts NO-CONSUMER. -/
def deliveredAtGateway (s t : State) (c : Cell) : Prop :=
  (cellClass c = .sign → signFitted s.straps = true →
      t.sps = { s.sps with waiting := s.sps.waiting ++ [{ cell := c, side := none }] })
  ∧ (cellClass c = .sign → signFitted s.straps = false → t.node.noConsumer = satInc s.node.noConsumer)
  ∧ (c.kind = .weatherPoll → weatherFitted s.straps = false → t.node.noConsumer = satInc s.node.noConsumer)
  ∧ (64 ≤ (s.holding 1).poolFree → s.gw.toOffice.length < 32 →
      (c.kind = .weatherPoll → weatherFitted s.straps = true →
        t.gw.toOffice
          = s.gw.toOffice ++ [makeCell s.station .weatherReport c.origin c.reference 0 1 0 (reportPayload s.wsu)]
        ∧ t.wsu = { s.wsu with counts := { s.wsu.counts with pollsAnswered := satInc s.wsu.counts.pollsAnswered } })
      ∧ (c.kind = .nodeQuery →
          (∃ payload, payload.length = 52
            ∧ t.gw.toOffice = s.gw.toOffice ++ [makeCell s.station .nodeStatus c.origin c.reference 0 0 0 payload])
          ∧ t.maint = { s.maint with queriesAnswered := satInc s.maint.queriesAnswered }))

/-! ## Payloads -/

/-- R157, R170: the bytes of one channel in a report. -/
def channelLayout (c : Channel) (h : Half) : Prop :=
  h.getLsbD 15 = c.fault ∧ h.getLsbD 13 = false ∧ h.getLsbD 12 = false
    ∧ (c.fault = true ∨ c.ring = [] → h.getLsbD 14 = true ∧ h.extractLsb' 0 12 = 0)
    ∧ (c.fault = false → c.ring ≠ [] →
        h.getLsbD 14 = false ∧ (h.extractLsb' 0 12).toNat = (c.ring.map BitVec.toNat).sum / c.ring.length)

/-- R170: the 41 bytes of a WEATHER-REPORT made from the WSU as it stands. -/
def reportLayout (w : Wsu) (b : List Byte) : Prop :=
  b.length = 41 ∧ b.take 2 = halfBytes w.reportNumber
    ∧ (∀ n, 1 ≤ n → n ≤ 12 → ∃ h, (b.drop (2 * n)).take 2 = halfBytes h ∧ channelLayout (channelOf w n) h)
    ∧ (b.drop 26).take 2 = halfBytes w.latestWindow
    ∧ (b.drop 28).take 2 = halfBytes (match w.periodMax with | some m => m | none => 0)
    ∧ (b.drop 30).take 2 = halfBytes (match w.gustDir with | some a => BitVec.ofNat 16 a | none => 0xFFFF)
    ∧ (b.drop 32).take 2 = halfBytes w.tips
    ∧ (b.drop 34).take 2 = halfBytes (match w.lastInterval with | some n => n | none => 0)
    ∧ (b.drop 36).take 2 = halfBytes (match w.race with | some (.count c) => c | _ => 0)
    ∧ (b.getD 38 0).toNat
      = (match w.road with | .dry => 0 | .wet => 1 | .ice => 2 | .unknown => 3) + (if w.race = some .fast then 4 else 0)
        + (if w.race = some .stopped then 8 else 0) + (if w.interval = .stopped then 16 else 0)
    ∧ (b.getD 39 0).toNat = (if windActive w then 1 else 0) + (if iceActive w then 2 else 0)
    ∧ b.getD 40 0 = w.periodGusts

/-- R197: the 52 bytes of a NODE-STATUS captured from state `m`. -/
def statusLayout (m : State) (b : List Byte) : Prop :=
  b.take 17 = (List.range 17).map (statusByte m)
    ∧ (b.drop 17).take 10
      = [0x18, 0x1B, 0x20, 0x23, 0x28, 0x29, 0x2A, 0x2F, 0x30, 0x31].map (statusByte m)
    ∧ (b.drop 27).take 9 = [0x36, 0x38, 0x39, 0x50, 0x58, 0x52, 0x5A, 0x60, 0x61].map (statusByte m)
    ∧ (b.drop 36).take 6 = [0x64, 0x65, 0x68, 0x6B, 0x6C, 0x6F].map (statusByte m)
    ∧ (b.drop 42).take 6 = [0x7B, 0x7D, 0x7E, 0x7F, 0xAB, 0xAA].map (statusByte m)
    ∧ b.drop 48
      = [BitVec.ofNat 8 (m.wsu.channels.filter (fun c => c.fault)).length, statusByte m 0x14, statusByte m 0xF4,
         statusByte m 0xF5 + statusByte m 0xF6]

/-! ## Calls, custody and claims -/

/-- R82: the ORIGIN entry of an attempt. -/
def originEntry (id : Identity) (g : Grade) : SrtEntry :=
  { identity := id, grade := g, held := false, place := .origin, faces := .gateway, timer := none }

/-- R91: the PATH entry of a setup. -/
def pathEntry (id : Identity) (g : Grade) (f : Faces) : SrtEntry :=
  { identity := id, grade := g, held := false, place := .path, faces := f, timer := some 3000 }

/-- R84: a record that waits for its retry timer. -/
def waitingRecord (g : Grade) : CallRecord :=
  { identity := none, grade := g, state := .waiting, direction := none, triedUp := false, triedDown := false,
    timer := some 3000 }

/-- R82, R85: a record that seeks the other way, having tried side `d`. -/
def soughtOther (id : Identity) (g : Grade) (d : Side) : CallRecord :=
  { identity := some id, grade := g, state := .seeking, direction := some (otherSide d), triedUp := d == .up,
    triedDown := d == .down, timer := some 2000 }

/-- R81: the side is in the tried set of the record. -/
def hasTried (r : CallRecord) (d : Side) : Bool :=
  match d with
  | .up => r.triedUp
  | .down => r.triedDown

/-- R178: the entry `e` with flags `f`, moved on past the set flags at the bottom. -/
def advancedTo (e : Acceptance) (f : BitVec 32) (x : Acceptance) : Prop :=
  ∃ j, j ≤ 32 ∧ (∀ i, i < j → f.getLsbD i = true) ∧ (j < 32 → f.getLsbD j = false)
    ∧ x = { e with base := e.base + BitVec.ofNat 16 j, flags := f >>> j }

/-- R131: the reply to a command is taken by its arrival side, or by the Gateway Unit where there is none. -/
def replyTaken (s : State) (side : Option Side) : Bool :=
  match side with
  | some d => takesLocal s d .sign
  | none => decide (64 ≤ s.poolFree) && decide (s.gw.toOffice.length < 32)

/-- R131, R150: the counts of a command taken and answered, `n` being those of its reason. -/
def answeredCounts (s : State) (x : SignTask) (n : SpsCounts) : SpsCounts :=
  { n with
    signCommands := satInc s.sps.counts.signCommands
    repliesLost := if replyTaken s x.side then s.sps.counts.repliesLost else satInc s.sps.counts.repliesLost }

/-- R138, R168: the reasons that begin or end from `s` to `t` are handed to the sign, and nothing is handed otherwise. -/
def reasonsHanded (s t : State) : Prop :=
  (reasonsActive s.wsu = false → reasonsActive t.wsu = true →
      t.wsu.counts.hazardOnsets = satInc s.wsu.counts.hazardOnsets
      ∧ (signFitted s.straps = true → hazardEnabled s.straps = false → t.sps = { s.sps with reasonsActive := true })
      ∧ (signFitted s.straps = true → hazardEnabled s.straps = true →
          (s.sps.hazard = false →
            t.sps = { s.sps with
              reasonsActive := true, hazard := true
              counts := { s.sps.counts with hazardRaises := satInc s.sps.counts.hazardRaises } })
          ∧ (s.sps.hazard = true → t.sps = { s.sps with reasonsActive := true, hazardHold := none }))
      ∧ (signFitted s.straps = false → t.sps = s.sps))
  ∧ (reasonsActive s.wsu = true → reasonsActive t.wsu = false →
      t.wsu.counts.hazardOnsets = s.wsu.counts.hazardOnsets
      ∧ (signFitted s.straps = true →
          t.sps = { s.sps with
            reasonsActive := false
            hazardHold :=
              if hazardEnabled s.straps = true ∧ s.sps.hazard = true then some 600000 else s.sps.hazardHold })
      ∧ (signFitted s.straps = false → t.sps = s.sps))
  ∧ (reasonsActive s.wsu = reasonsActive t.wsu →
      t.wsu.counts.hazardOnsets = s.wsu.counts.hazardOnsets ∧ t.sps = s.sps)

/-- R56: a TIU with every queue and its back-pressure state empty. -/
def tiuEmpty (t : Tiu) : Prop :=
  t.tqCall = [] ∧ t.tqData = [] ∧ t.insLink = [] ∧ t.insCall = [] ∧ t.insToll = [] ∧ t.insSign = [] ∧ t.insReport = []
    ∧ t.beaconSlot = none ∧ t.holdExpiry = none ∧ t.holdRepeat = none ∧ t.fairness = 0

/-- R56: the cells that the flush of a TIU counts, with the cell its port was sending. -/
def flushedCells (x : Tiu) (sending : Option Sending) : Nat :=
  x.tqCall.length + x.tqData.length + x.insLink.length + x.insCall.length + x.insToll.length + x.insSign.length
    + x.insReport.length + (if x.beaconSlot.isSome then 1 else 0) + (if sending.isSome then 1 else 0)

/-- R46, R53: the flush of the other side releases the hold sent out of this one: a RESUME takes the place of a HOLD that
waits, or the last place, and a side without a hold sent stays as it was. -/
def holdReleased (s : State) (x y : Tiu) : Prop :=
  let resume := makeCell s.station .resume 255 0 0 0 0 []
  if x.holdRepeat.isSome then
    y.holdRepeat = none ∧ y.counts.resumesSent = satInc x.counts.resumesSent
      ∧ (x.insLink.any isBackPressure = true →
          y.insLink = x.insLink.map (fun c => if isBackPressure c then resume else c))
      ∧ (x.insLink.any isBackPressure = false → x.insLink.length < 8 → y.insLink = x.insLink ++ [resume])
  else y.holdRepeat = none ∧ y.counts.resumesSent = x.counts.resumesSent ∧ y.insLink = x.insLink

/-- R98: the calls of a table, each by its first entry, in the table's order. -/
def callsOf (table : List SrtEntry) : List SrtEntry :=
  table.foldl (fun calls e => if namesCall calls e.identity then calls else calls ++ [e]) []

/-- R98, R99: the CALL-BROKEN(SPAN-LOST) of a PATH entry of the lost side. -/
def spanLostCell (s : State) (e : SrtEntry) : Cell :=
  makeCell s.station .callBroken (match e.faces with | .gateway => e.identity.station | .origin => 254)
    (referenceOf e.identity) (gradeCode e.grade) 5 0 []

/-- R183: the CALL-BROKEN(SPAN-LOST) notice of the CHAIN call on channel `n`. -/
def spanLostNotice (s : State) (n : Nat) (e : SrtEntry) : Cell :=
  { makeCell s.station .callBroken 254 (referenceOf e.identity) (gradeCode e.grade) 5 0 [] with hops := BitVec.ofNat 8 n }

/-- R82: an ORIGIN entry of a record that seeks or is connected out of side `d` under the entry's identity. -/
def ownCall (s : State) (d : Side) (e : SrtEntry) (r : CallRecord) : Prop :=
  e.place = .origin ∧ (s.line e.identity.phone).record = some r ∧ (r.state = .seeking ∨ r.state = .connected)
    ∧ r.direction = some d ∧ r.identity = some e.identity

/-- R98: at a node without another way every PATH call of the lost side `d` is broken out of the other side, its entries
gone, and each own call waits. -/
def pathCallsBroken (s t : State) (d : Side) : Prop :=
  let b := otherSide d
  let lost := (callsOf (s.table d)).filter (fun e => e.place == .path)
  (∀ e ∈ s.table d, e.place = .path ∨ ((s.entry b).valid = false ∧ ∃ r, ownCall s d e r)) →
  t.ccu.brokenSpanLost = satAdd s.ccu.brokenSpanLost lost.length
    ∧ t.table b = (s.table b).filter (fun e => !namesCall lost e.identity)
    ∧ (s.inService b = true → (s.side b).insCall.length + lost.length ≤ 16 → lost.length + 15 ≤ s.poolFree →
        (t.side b).insCall = (s.side b).insCall ++ lost.map (spanLostCell s))
    ∧ (s.inService b = false → t.ccu.controlRefused = satAdd s.ccu.controlRefused lost.length)
    ∧ ∀ e ∈ callsOf (s.table d), ∀ r, ownCall s d e r →
        (t.line e.identity.phone).record = some (waitingRecord r.grade)
          ∧ (t.line e.identity.phone).state = .calling ∧ (t.line e.identity.phone).playing = .holdTone

/-- R85, R86, R98: at a node the one call of the lost side `d` is its own, and seeks the other way. -/
def ownCallGoesTheOtherWay (s t : State) (d : Side) : Prop :=
  let b := otherSide d
  ∀ e r, s.table d = [e] → ownCall s d e r → (s.entry b).valid = true → (s.table b).length < 8 →
    takesLocal s b .call = true →
    let l := e.identity.phone
    let id : Identity := { station := s.station, phone := l, serial := (s.line l).nextSerial }
    (t.line l).record = some (soughtOther id r.grade d) ∧ (t.line l).state = .calling ∧ (t.line l).playing = .holdTone
      ∧ t.table b = s.table b ++ [originEntry id r.grade]
      ∧ (t.side b).insCall
        = (s.side b).insCall ++ [makeCell s.station .callSetup 254 (referenceOf id) (gradeCode r.grade) 0 0 []]

/-- R98, R183: at a gateway every CHAIN call of the lost side `d` ends: its channel becomes FREE and its notice goes to the
office, or is lost where the queue is full. -/
def chainCallsEnded (s t : State) (d : Side) : Prop :=
  let ended := (callsOf (s.table d)).filterMap (fun e => (findChannel s e.identity).map (fun n => (n, e)))
  (∀ e ∈ s.table d, e.place = .gateway) →
  t.gw.channels = s.gw.channels.mapIdx (fun n c => if ended.any (fun x => x.1 == n) then .free else c)
    ∧ (s.gw.toOffice.length + ended.length ≤ 32 → ended.length + 15 ≤ s.poolFree →
        t.gw.toOffice = s.gw.toOffice ++ ended.map (fun x => spanLostNotice s x.1 x.2))
    ∧ (32 ≤ s.gw.toOffice.length →
        t.gw.toOffice = s.gw.toOffice ∧ t.gw.counts.noticesLost = satAdd s.gw.counts.noticesLost ended.length)

/-- R98, R183: what becomes of the calls of a lost side. -/
def callsTornDown (s t : State) (d : Side) : Prop :=
  (s.isGateway = false → pathCallsBroken s t d ∧ ownCallGoesTheOtherWay s t d)
    ∧ (s.isGateway = true → chainCallsEnded s t d)

/-- R34, R53, R56, R65, R98, R121, R175, R183: what a side that has left service leaves behind, its port in state `st`. -/
def tornDown (s t : State) (p : Port) (st : PortState) : Prop :=
  callsTornDown s t (s.sideOf p)
    ∧ (t.side (s.sideOf p)).counts.flushed
      = satAdd (s.side (s.sideOf p)).counts.flushed (flushedCells (s.side (s.sideOf p)) (s.port p).sending)
    ∧ (s.inService (otherSide (s.sideOf p)) = true →
        holdReleased s (s.side (otherSide (s.sideOf p))) (t.side (otherSide (s.sideOf p))))
    ∧ (t.port p).state = st ∧ (t.port p).sending = none
    ∧ (t.port p).counts.portDowns = satInc (s.port p).counts.portDowns
    ∧ tiuEmpty (t.side (s.sideOf p)) ∧ (t.entry (s.sideOf p)).valid = false ∧ t.table (s.sideOf p) = []
    ∧ (gantryFitted s.straps = true → ∀ e ∈ t.csd.store, towardSide (s.sideOf p) e = false)
    ∧ (s.isGateway = true → t.gw.beaconPeriod = none)

/-- R24: the neighbour a HELLO names fits the side it arrived on. -/
def neighbourFits (s : State) (d : Side) (origin : Byte) (r : Role) : Prop :=
  match d with
  | .up => origin.toNat < s.station.toNat ∧ r ≠ .gatewayD
  | .down => s.station.toNat < origin.toNat ∧ r ≠ .gatewayU

/-- R89, R94: a table with the entries of a call gone. -/
def tableWithout (table : List SrtEntry) (id : Identity) : List SrtEntry := table.filter (fun e => e.identity != id)

/-- R130, R131: the command at the head has been answered with reason `r` and `written` pixels: it waits no longer, and
where its arrival side takes the reply, a SIGN-REPLY that shows the state after it stands last there. -/
def answeredWith (s t : State) (x : SignTask) (rest : List SignTask) (r : SignReason) (written : Nat) : Prop :=
  t.sps.waiting = rest ∧ t.sps.job = none
    ∧ ∀ d, x.side = some d → takesLocal s d .sign = true →
        (t.side d).insSign = (s.side d).insSign
          ++ [makeCell s.station .signReply x.cell.origin x.cell.reference 0 (signReasonCode r) 0
                (replyPayload t.sps x.cell.kind written)]

/-! ## Invariants -/

/-- R129, R132: the sign pages are in canonical form, the window lies in a page and the cursor inside the window. -/
def signStoreSound (s : State) : Prop :=
  Memory.wf s.sps.pages = true ∧ s.sps.winPage ≤ 3
    ∧ s.sps.c0 ≤ s.sps.curCol ∧ s.sps.curCol ≤ s.sps.c1 ∧ s.sps.c1 ≤ 127
    ∧ s.sps.r0 ≤ s.sps.curRow ∧ s.sps.curRow ≤ s.sps.r1 ∧ s.sps.r1 ≤ 31

/-- R89: no Span Reservation Table holds more than 8 entries. -/
def tablesBounded (s : State) : Prop := s.srt.up.length ≤ 8 ∧ s.srt.down.length ≤ 8

/-- R36: no more buffers are held than there are. -/
def poolBounded (s : State) : Prop := s.poolHeld ≤ 512

/-- R65: an entry is VALID only while its side is in service. -/
def reachInService (s : State) : Prop := ∀ d, (s.entry d).valid = true → s.inService d = true

/-- R113: the custody store holds at most 256 entries, and fewer while a record is being written into it. -/
def storeBounded (s : State) : Prop :=
  s.csd.store.length ≤ 256 ∧ ∀ body, s.gli.assembler = .write body → s.csd.store.length < 256

end Sys2Proof.Machine
end

