-- ==== Sys2Proof/Certificates/Slice0/Obligations.lean ====
section
/-! DEFINITION. The statements for the provers, in the order of OBLIGATIONS.json. -/

section
open Sys2Proof Sys2Proof.Machine

/-! ## The machine as a whole -/

/-- A step takes the command at the front of the queue and runs it on the state with the rest of the queue. -/
def Obligations.StepRunsTheFrontCommand : Prop :=
  ∀ (c : Instr) (rest : List Instr) (s : State),
    step { s with pending := c :: rest } = exec c { s with pending := rest }

/-- With no command waiting a step is a millisecond (the model's choice, log 2): timers fall and none fires, the age of a
held Reach Table entry rises (R64), that of a VALID one to the 600 ms at which its lapse is due; in reset nothing moves. -/
def Obligations.IdleStepPassesAMillisecond : Prop :=
  (∀ n, tickTimer none = none ∧ tickTimer (some 0) = some 0 ∧ tickTimer (some 1) = some 1
      ∧ tickTimer (some (n + 2)) = some (n + 1))
  ∧ ∀ s : State, s.pending = [] →
      (s.running = false → step s = .next s)
      ∧ (s.running = true →
          ∃ t, step s = .next t
            ∧ Within [.dark, .ports, .tiu, .reach, .srt, .lines, .csd, .sps, .wsu, .gw] s t
            ∧ t.dark = tickTimer s.dark
            ∧ (∀ p, (t.port p).state = (s.port p).state ∧ (t.port p).counts = (s.port p).counts
                ∧ (t.port p).lossDebounce = tickTimer (s.port p).lossDebounce
                ∧ (t.port p).helloWatch = tickTimer (s.port p).helloWatch)
            ∧ (∀ d, t.side d
                = { s.side d with
                    holdExpiry := tickTimer (s.side d).holdExpiry, holdRepeat := tickTimer (s.side d).holdRepeat })
            ∧ (∀ d, (s.entry d).held = true → ((s.entry d).valid = true → (s.entry d).age.toNat < 600) →
                t.entry d = { s.entry d with age := satInc (s.entry d).age })
            ∧ (∀ d, ((s.entry d).held = false ∨ (s.entry d).valid = true ∧ 600 ≤ (s.entry d).age.toNat) →
                t.entry d = s.entry d)
            ∧ (∀ d, t.table d = (s.table d).map (fun e => { e with timer := tickTimer e.timer })))

/-- Every command answers a next state, and changes only the parts of State that are listed for it. That it does so in
every state, also where its event cannot arise, is the model's choice (log 1), as is that nothing stops it (log 33). -/
def Obligations.EveryCommandAnswersWithinItsParts : Prop :=
  ∀ (c : Instr) (s : State), ∃ t, exec c s = .next t ∧ Within (touches c) s t

/-! ## Invariants of every step -/

/-- R129, R132: the sign pages keep their canonical form, the window and cursor their ranges. -/
def Obligations.StepsKeepTheSignStoreSound : Prop :=
  ∀ s t : State, signStoreSound s → step s = .next t → signStoreSound t

/-- R89, R109, R113: no Span Reservation Table grows past 8 entries; the custody store holds at most 256, and has room for the
record being written. -/
def Obligations.StepsKeepTheTablesAndTheStoreBounded : Prop :=
  (∀ s t : State, tablesBounded s → step s = .next t → tablesBounded t)
  ∧ (∀ s t : State, storeBounded s → step s = .next t → storeBounded t)

/-- R36, R38: no more than 512 buffers are held. -/
def Obligations.StepsKeepThePoolBounded : Prop :=
  ∀ s t : State, poolBounded s → step s = .next t → poolBounded t

/-- R65: a Reach Table entry is VALID only while its side is in service. -/
def Obligations.StepsKeepReachInService : Prop :=
  ∀ s t : State, reachInService s → step s = .next t → reachInService t

/-- The machine right after reset meets the five invariants. -/
def Obligations.ResetMeetsTheInvariants : Prop :=
  signStoreSound State.reset ∧ tablesBounded State.reset ∧ poolBounded State.reset ∧ reachInService State.reset
    ∧ storeBounded State.reset

/-! ## Power and reset -/

/-- R15, R17: the RESET pin and the two supplies. A store write that a reset interrupts is made whole or not at all; which
of the two is open (log 11), so the statement gives both. -/
def Obligations.ResetAndSupplyCommands : Prop :=
  ∀ s : State,
    ((∀ body, s.gli.assembler ≠ .write body) →
      (∃ t, exec .resetAssert s = .next t ∧ Within [.power, .ports] s t
        ∧ t.power = { s.power with resetLow := true } ∧ t.running = false
        ∧ ∀ p, t.port p = if s.running then { s.port p with wire := .off } else s.port p)
      ∧ (∃ t, exec .mainSupplyFall s = .next t ∧ Within [.power, .ports] s t
        ∧ t.power = { s.power with supplyUp := false, powerOnDue := true } ∧ t.running = false
        ∧ ∀ p, t.port p = if s.running then { s.port p with wire := .off } else s.port p))
    ∧ (∀ body c, s.running = true → s.gli.assembler = .write body → (c = .resetAssert ∨ c = .mainSupplyFall) →
        ∃ t, exec c s = .next t ∧ t.running = false ∧ t.gli = { s.gli with assembler := .hunt }
          ∧ (t.csd = s.csd
              ∨ t.csd
                = { s.csd with
                    store := s.csd.store ++ [{ sequence := s.csd.nextSeq, body := body }]
                    nextSeq := s.csd.nextSeq + 1 }))
    ∧ (s.running = false → exec .vretLoss s = .next { s with power := { s.power with retentionLost := true } })

/-- R16, R17, R125: the end of a reset latches the straps and begins the dark period; a WARM RESET keeps retention
memory, its entries made QUEUED, and a POWER-ON clears it and counts. The record of the supplies starts anew (the
model's own field). -/
def Obligations.ResetEndKeepsOrClearsRetention : Prop :=
  ∀ (k : Straps) (s : State), s.running = false →
    ∃ t, exec (.resetEnd k) s = .next t ∧ t.straps = k ∧ t.power = {} ∧ t.dark = some 50 ∧ t.running = true
      ∧ (s.power.powerOnDue = false → s.power.retentionLost = false →
          t.powerOnCount = s.powerOnCount ∧ t.sps.pages = s.sps.pages ∧ t.csd.nextSeq = s.csd.nextSeq
            ∧ t.csd.store = s.csd.store.map (fun e => { e with state := .queued, retry := none }))
      ∧ (s.power.powerOnDue = true ∨ s.power.retentionLost = true →
          (∀ i, Memory.read t.sps.pages i = 0) ∧ t.csd.store = [] ∧ t.csd.nextSeq = 0
            ∧ t.powerOnCount
              = if s.power.retentionLost then 1
                else if s.powerOnCount.toNat = 65535 then s.powerOnCount else s.powerOnCount + 1)

/-- R13, R16, R35, R59, R73, R101, R112, R126, R151, R174: what else the end of a reset leaves, and what starts with an OK
strap status. The levels at the input pins stand (log 4), the wind counter starts with its preload (log 21), and what
the spec lists no reset value for is 0, empty or stopped (log 35). -/
def Obligations.ResetEndStartsTheFittedBlocks : Prop :=
  ∀ (k : Straps) (s : State), s.running = false →
    ∃ t, exec (.resetEnd k) s = .next t
      ∧ (∀ p, t.port p = { light := (s.port p).light }) ∧ t.node = {}
      ∧ (∀ d, t.side d = {} ∧ t.entry d = {} ∧ t.table d = []) ∧ t.ccu = {} ∧ t.gw = { ordy := s.gw.ordy } ∧ t.maint = {}
      ∧ t.sps = { pages := t.sps.pages, slewPeriod := if !strapFault k && signFitted k then some 125 else none }
      ∧ (strapFault k = true ∨ gantryFitted k = false → t.gli = {})
      ∧ (strapFault k = false → gantryFitted k = true →
          t.gli
            = { flowStopped := decide (256 - t.csd.store.length < 48)
                flowPlace := some (if 256 - t.csd.store.length < 48 then .xoff else .xon) })
      ∧ (strapFault k = true ∨ weatherFitted k = false → t.wsu = {})
      ∧ (strapFault k = false → weatherFitted k = true →
          t.wsu
            = { sweepPeriod := some 0, windowPeriod := some 3000, racePeriod := some 0, reportPeriod := some 10000
                windCounter := BitVec.ofNat 8 (256 - strapGustLimit k) })
      ∧ (strapFault k = true ∨ phonesFitted k = false →
          ∀ l, t.line l = { offHook := (s.line l).offHook, keyClosed := (s.line l).keyClosed })
      ∧ (strapFault k = false → phonesFitted k = true →
          ∀ l, (t.line l).state = (if (s.line l).offHook then .offhookCheck else .idle) ∧ (t.line l).record = none
            ∧ (t.line l).nextSerial = 0)

/-! ## Span ports -/

/-- R16, R19, R20, R23: light, lock and the dark period move a port between DARK and SEEK; a port in SEEK that gains lock,
and a port whose HELLO period ends, place a HELLO. -/
def Obligations.LightLockAndHelloPeriod : Prop :=
  (∀ (p : Port) (s : State), s.portFree p = true →
    ((s.port p).state = .dark →
      ∃ t, exec (.lightFound p) s = .next t ∧ (t.port p).state = .seek ∧ (t.port p).light = true ∧ (t.port p).lock = false
        ∧ (t.port p).neighbour = none ∧ (t.port p).counts = (s.port p).counts ∧ onlyPort s t p ∧ Within [.ports] s t)
    ∧ ((s.port p).state ≠ .dark →
        exec (.lightDisappears p) s = .next (s.setPort p { s.port p with light := false, lossDebounce := some 10 })
        ∧ exec (.lightReturns p) s = .next (s.setPort p { s.port p with light := true, lossDebounce := none }))
    ∧ ((s.port p).state = .seek → (s.port p).lock = false →
        exec (.lockGained p) s
          = .next (s.setPort p
              { s.port p with
                lock := true, badRun := 0, markerRun := 0, helloPeriod := some 100
                slotHello := some (makeCell s.station .hello 255 0 0 0 0
                  [roleCode s.role, match (s.port p).neighbour with | some n => n.station | none => 0]) }))
    ∧ ((s.port p).helloPeriod.isSome = true → (s.port p).state ≠ .dark → ((s.port p).state = .seek → (s.port p).lock = true) →
        exec (.helloPeriod p) s
          = .next (s.setPort p
              { s.port p with
                helloPeriod := some (if (s.port p).state = .seek then 100 else 1000)
                slotHello := some (makeCell s.station .hello 255 0 0 0 0
                  [roleCode s.role, match (s.port p).neighbour with | some n => n.station | none => 0]) })))
  ∧ ∀ s : State, s.running = true → s.dark.isSome = true →
      ∃ t, exec .darkPeriodEnd s = .next t ∧ t.dark = none ∧ Within [.dark, .ports] s t
        ∧ ∀ p,
            if s.portLive p = true ∧ (s.port p).light = true ∧ (s.port p).state = .dark then
              (t.port p).state = .seek ∧ (t.port p).lock = false ∧ (t.port p).neighbour = none
            else t.port p = s.port p

/-- R5, R6, R20, R21, R40: what a malformed cell, a failed check and a good cell in SEEK or FAULT count, for every
command that brings a cell, and the loss of lock in SEEK after 8 failed cells in a row or after the marker watch. The
header test is the model's own, on the cell the command carries (log 5); each outcome leaves the receive register free
(log 45). -/
def Obligations.CellChecksAtThePort : Prop :=
  ∀ (p : Port) (s : State), receives s p = true →
    exec (.malformedCell p) s
      = .next (s.setPort p
          { s.port p with
            receive := none, counts := { (s.port p).counts with malformed := satInc (s.port p).counts.malformed } })
    ∧ ((s.port p).badRun < 7 →
        exec (.badCheckCell p) s
          = .next { s.setPort p
              { s.port p with
                receive := none, badRun := (s.port p).badRun + 1
                counts := { (s.port p).counts with checkErrors := satInc (s.port p).counts.checkErrors } } with inHand := 0 })
    ∧ ((s.port p).state = .seek →
        (∃ t, exec (.markerWatchExpiry p) s = .next t ∧ (t.port p).state = .seek ∧ (t.port p).lock = false
          ∧ (t.port p).counts.lockLosses = satInc (s.port p).counts.lockLosses ∧ onlyPort s t p)
        ∧ (7 ≤ (s.port p).badRun →
            ∃ t, exec (.badCheckCell p) s = .next t ∧ (t.port p).state = .seek ∧ (t.port p).lock = false
              ∧ (t.port p).counts.lockLosses = satInc (s.port p).counts.lockLosses ∧ onlyPort s t p))
    ∧ (∀ c, (headerOk (cellOf .hello c) = false →
          exec (.hello p c) s
            = .next (s.setPort p
                { s.port p with
                  receive := none, counts := { (s.port p).counts with malformed := satInc (s.port p).counts.malformed } }))
        ∧ (headerOk (cellOf .hello c) = true → (s.port p).state = .fault →
            exec (.hello p c) s = .next (s.setPort p { s.port p with receive := none, badRun := 0 })))
    ∧ ∀ c i k, (i, k) ∈ arrivalCommands p c →
        (headerOk (cellOf k c) = false →
          exec i s
            = .next { s.setPort p
                { s.port p with
                  receive := none, counts := { (s.port p).counts with malformed := satInc (s.port p).counts.malformed } }
              with inHand := 0 })
        ∧ (headerOk (cellOf k c) = true → ((s.port p).state = .seek ∨ (s.port p).state = .fault) →
            exec i s
              = .next { s.setPort p
                  { s.port p with
                    receive := none, badRun := 0
                    counts := { (s.port p).counts with notInService := satInc (s.port p).counts.notInService } }
                with inHand := 0 })

/-- R19, R20, R26, R31, R34, R53, R56, R65, R98, R121, R175, R183: the five ways out of service by loss raise PORT-DOWN, and
every block lets go of the side: the TIU flushes it, counts the cells, and releases the hold sent out of the other side;
the Reach Table makes its entry INVALID; the CCU breaks its PATH calls out of the other side and gives an own call its event,
so that it waits or seeks the other way; the CSD makes its entries QUEUED; and a gateway ends its CHAIN channels, each
with its notice, and stops its beacons. The consumers act in this order (log 34). -/
def Obligations.LossOfServiceTearsDownTheSide : Prop :=
  ∀ (p : Port) (s : State), s.portFree p = true → inServiceState (s.port p).state = true →
    ((s.port p).lossDebounce.isSome = true →
      ∃ t, exec (.lossDebounceExpiry p) s = .next t ∧ tornDown s t p .dark ∧ (t.port p).neighbour = none
        ∧ (t.port p).counts.lightLosses = satInc (s.port p).counts.lightLosses)
    ∧ ((s.port p).lock = true →
        ∃ t, exec (.markerWatchExpiry p) s = .next t ∧ tornDown s t p .seek ∧ (t.port p).lock = false
          ∧ (t.port p).counts.lockLosses = satInc (s.port p).counts.lockLosses)
    ∧ ((s.port p).lock = true → 7 ≤ (s.port p).badRun →
        ∃ t, exec (.badCheckCell p) s = .next t ∧ tornDown s t p .seek ∧ (t.port p).lock = false
          ∧ (t.port p).counts.checkErrors = satInc (s.port p).counts.checkErrors)
    ∧ ((s.port p).helloWatch.isSome = true →
        ∃ t, exec (.helloWatchExpiry p) s = .next t ∧ tornDown s t p .seek ∧ (t.port p).neighbour = none
          ∧ (t.port p).lock = (s.port p).lock
          ∧ (t.port p).counts.helloTimeouts = satInc (s.port p).counts.helloTimeouts)
    ∧ ((s.port p).state = .waking → (s.port p).wakeTimer.isSome = true →
        ∃ t, exec (.wakeTimerExpiry p) s = .next t ∧ tornDown s t p .seek ∧ (t.port p).lock = (s.port p).lock
          ∧ (t.port p).counts.wakeFailures = satInc (s.port p).counts.wakeFailures)

/-- R24, R25, R33: a HELLO in SEEK. One that fits the side and names this station brings the port UP with PORT-UP; one that
fits but does not name it is answered; one that does not fit takes the port to FAULT. -/
def Obligations.HelloInSeekBringsThePortUp : Prop :=
  ∀ (p : Port) (c : CellData) (r : Role) (s : State), receives s p = true → headerOk (cellOf .hello c) = true →
    (s.port p).state = .seek → roleOfCode? (payloadByte c 0) = some r →
    (c.origin ≠ s.station → neighbourFits s (s.sideOf p) c.origin r →
      (payloadByte c 1 = s.station →
        ∃ t, exec (.hello p c) s = .next t ∧ (t.port p).state = .up ∧ (t.port p).neighbour = some ⟨c.origin, r⟩
          ∧ (t.port p).counts.portUps = satInc (s.port p).counts.portUps ∧ (t.port p).helloWatch = some 3000
          ∧ (t.port p).helloPeriod = some 1000 ∧ (t.port p).idle = some 5000
          ∧ (t.port p).slotHello = some (makeCell s.station .hello 255 0 0 0 0 [roleCode s.role, c.origin]))
      ∧ (payloadByte c 1 ≠ s.station →
        ∃ t, exec (.hello p c) s = .next t ∧ (t.port p).state = .seek ∧ (t.port p).neighbour = some ⟨c.origin, r⟩
          ∧ (t.port p).slotHello = some (makeCell s.station .hello 255 0 0 0 0 [roleCode s.role, c.origin])
          ∧ onlyPort s t p))
    ∧ (c.origin = s.station →
        ∃ t, exec (.hello p c) s = .next t ∧ (t.port p).state = .fault ∧ (t.port p).faultReason = some .duplicate
          ∧ (t.port p).neighbour = some ⟨c.origin, r⟩
          ∧ (t.port p).counts.faultEntries = satInc (s.port p).counts.faultEntries)
    ∧ (c.origin ≠ s.station → ¬ neighbourFits s (s.sideOf p) c.origin r →
        ∃ t, exec (.hello p c) s = .next t ∧ (t.port p).state = .fault ∧ (t.port p).faultReason = some .misordered
          ∧ (t.port p).neighbour = some ⟨c.origin, r⟩)

/-- R24, R26, R34: a HELLO in service. The neighbour of record that hears this station restarts the watch; another, or one
that does not hear it, counts NEIGHBOUR-CHANGES and takes the side down; one that does not fit the side takes it to
FAULT. That the count rises once, also for a HELLO that differs in both ways, is the model's choice (log 13). -/
def Obligations.HelloInServiceKeepsOrDropsTheSide : Prop :=
  ∀ (p : Port) (c : CellData) (r : Role) (s : State), cellTaken s p (cellOf .hello c) = true →
    roleOfCode? (payloadByte c 0) = some r →
    (c.origin ≠ s.station → neighbourFits s (s.sideOf p) c.origin r →
      ((s.port p).neighbour = some ⟨c.origin, r⟩ → payloadByte c 1 = s.station →
        exec (.hello p c) s
          = .next { s.setPort p
              { s.port p with
                receive := none, badRun := 0, helloWatch := some 3000
                counts := { (s.port p).counts with cellsIn := satInc (s.port p).counts.cellsIn } } with inHand := 0 })
      ∧ ((s.port p).neighbour ≠ some ⟨c.origin, r⟩ ∨ payloadByte c 1 ≠ s.station →
          ∃ t, exec (.hello p c) s = .next t
            ∧ (t.port p).state = (if payloadByte c 1 = s.station then .up else .seek)
            ∧ (t.port p).neighbour = some ⟨c.origin, r⟩
            ∧ (t.port p).counts.portDowns = satInc (s.port p).counts.portDowns
            ∧ (t.port p).counts.neighbourChanges = satInc (s.port p).counts.neighbourChanges
            ∧ t.table (s.sideOf p) = [] ∧ (t.entry (s.sideOf p)).valid = false))
    ∧ (c.origin = s.station ∨ ¬ neighbourFits s (s.sideOf p) c.origin r →
        ∃ t, exec (.hello p c) s = .next t ∧ tornDown s t p .fault
          ∧ (t.port p).faultReason = some (if c.origin = s.station then .duplicate else .misordered))

/-- R28 to R31: the doze request, its retry, and the two cells that put a side to doze. -/
def Obligations.DozeIsAskedAndGranted : Prop :=
  ∀ (p : Port) (c : CellData) (s : State), s.portFree p = true →
    ((s.port p).state = .up → (s.port p).idle.isSome = true → (s.port p).idle ≠ some 0 →
      ∃ t, exec (.idleTimerExpiry p) s = .next t ∧ (t.port p).idle = some 0 ∧ (t.port p).state = .up ∧ onlyPort s t p
        ∧ (s.table (s.sideOf p) = [] → tiuQuiet (s.side (s.sideOf p)) = true → (s.port p).dozeRetry = none →
            (t.port p).slotDozeReq = some (linkCell s.station .dozeReq) ∧ (t.port p).dozeRetry = some 5000))
    ∧ ((s.port p).dozeRetry.isSome = true →
        exec (.dozeRetryExpiry p) s
          = .next (s.setPort p
              (if s.dozeCondition p then
                { s.port p with slotDozeReq := some (linkCell s.station .dozeReq), dozeRetry := some 5000 }
              else { s.port p with dozeRetry := none })))
    ∧ (cellTaken s p (cellOf .dozeReq c) = true → (s.dozeCondition p = true ∨ (s.port p).state = .doze) →
        ∃ t, exec (.dozeReq p c) s = .next t ∧ (t.port p).state = .doze
          ∧ (t.port p).slotDozeAck = some (linkCell s.station .dozeAck) ∧ onlyPort s t p
          ∧ (t.port p).counts.cellsIn = satInc (s.port p).counts.cellsIn)
    ∧ (cellTaken s p (cellOf .dozeAck c) = true → (s.port p).state = .up → (s.port p).dozeRetry.isSome = true →
        ∃ t, exec (.dozeAck p c) s = .next t ∧ onlyPort s t p
          ∧ (t.port p).state = (if tiuQuiet (s.side (s.sideOf p)) then .doze else .waking)
          ∧ (t.port p).counts.dozeEntries = satInc (s.port p).counts.dozeEntries)

/-- R31 to R33: the wake bursts and the answers to them. -/
def Obligations.WakeBringsTheSideUp : Prop :=
  ∀ (p : Port) (c : CellData) (s : State), s.portFree p = true →
    ((s.port p).state = .waking → (s.port p).answerWindow.isSome = true → (s.port p).wakeTimer.isSome = true →
      exec (.answerWindowExpiry p) s
        = .next (s.setPort p { s.port p with burstLeft := 16, answerWindow := some 2 }))
    ∧ ((s.port p).lock = true → inServiceState (s.port p).state = true →
        ∃ t, exec (.wakeBurst p) s = .next t ∧ (t.port p).state = .up
          ∧ (t.port p).slotWakeAck = some (linkCell s.station .wakeAck)
          ∧ ((s.port p).state ≠ .up → (t.port p).idle = some 5000 ∧ (t.port p).wakeTimer = none)
          ∧ ((s.port p).state = .waking → (t.port p).counts.portUps = satInc (s.port p).counts.portUps)
          ∧ ((s.port p).state ≠ .waking → (t.port p).counts.portUps = (s.port p).counts.portUps))
    ∧ (cellTaken s p (cellOf .wakeAck c) = true → (s.port p).state = .waking →
        ∃ t, exec (.wakeAck p c) s = .next t ∧ (t.port p).state = .up ∧ (t.port p).idle = some 5000
          ∧ (t.port p).wakeTimer = none ∧ (t.port p).counts.portUps = satInc (s.port p).counts.portUps
          ∧ (t.port p).counts.cellsIn = satInc (s.port p).counts.cellsIn)

/-! ## Transit, insertion and back-pressure -/

/-- R51 to R55: HOLD and RESUME taken, and the two timers of back-pressure. -/
def Obligations.BackPressureIsKeptPerSide : Prop :=
  (∀ (p : Port) (c : CellData) (s : State),
    (cellTaken s p (cellOf .hold c) = true →
      ∃ t, exec (.hold p c) s = .next t ∧ Within [.inHand, .ports, .tiu] s t
        ∧ t.side (s.sideOf p)
          = { s.side (s.sideOf p) with
              holdExpiry := some 500
              counts := { (s.side (s.sideOf p)).counts with holdsTaken := satInc (s.side (s.sideOf p)).counts.holdsTaken } }
        ∧ t.side (otherSide (s.sideOf p)) = s.side (otherSide (s.sideOf p)))
    ∧ (cellTaken s p (cellOf .resume c) = true →
      ∃ t, exec (.resume p c) s = .next t ∧ Within [.inHand, .ports, .tiu] s t
        ∧ t.side (s.sideOf p)
          = { s.side (s.sideOf p) with
              holdExpiry := none
              counts := { (s.side (s.sideOf p)).counts with resumesTaken := satInc (s.side (s.sideOf p)).counts.resumesTaken } }
        ∧ t.side (otherSide (s.sideOf p)) = s.side (otherSide (s.sideOf p))))
  ∧ ∀ (d : Side) (s : State), s.live = true →
      ((s.side d).holdExpiry.isSome = true →
        exec (.holdExpiry d) s
          = .next (s.setSide d
              { s.side d with
                holdExpiry := none
                counts := { (s.side d).counts with holdExpiries := satInc (s.side d).counts.holdExpiries } }))
      ∧ (s.inService d = true → (s.side d).holdRepeat.isSome = true → 32 < (s.side (otherSide d)).tqData.length →
          ((s.side d).insLink.any isBackPressure = false → (s.side d).insLink.length < 8 →
            exec (.holdRepeatExpiry d) s
              = .next (s.setSide d
                  { s.side d with
                    insLink := (s.side d).insLink ++ [linkCell s.station .hold], holdRepeat := some 100
                    counts := { (s.side d).counts with holdsSent := satInc (s.side d).counts.holdsSent } }))
          ∧ ((s.side d).insLink.any isBackPressure = true →
              exec (.holdRepeatExpiry d) s
                = .next (s.setSide d
                    { s.side d with
                      insLink := (s.side d).insLink.map (fun x => if isBackPressure x then linkCell s.station .hold else x)
                      holdRepeat := some 100
                      counts := { (s.side d).counts with holdsSent := satInc (s.side d).counts.holdsSent } })))

/-- R8, R37, R40, R41, R51: at a NODE or a REPEATER a TOLL, SIGN or REPORT cell for another station goes to the tail of the
other side's TQ-DATA with its hops raised; the depth that reaches 96 makes a HOLD toward where the data comes from. A cell at
the hop limit, or that finds no buffer, or whose way on is not there, is dropped and counted. A cell targeted ALL goes on as
a copy with a buffer of its own and is delivered here as well; the copy leaves first (log 7). -/
def Obligations.DataCellsArePassedOnOrCounted : Prop :=
  (∀ (p : Port) (c : CellData) (i : Instr) (k : Kind) (s : State), (i, k) ∈ dataCommands p c →
      s.isGateway = false → c.target ≠ s.station → c.target ≠ 255 → cellGranted s p (cellOf k c) = true →
      s.inService (otherSide (s.sideOf p)) = true →
      ∃ t, exec i s = .next t ∧ Within [.inHand, .ports, .tiu] s t ∧ t.inHand = 0
        ∧ t.side (otherSide (s.sideOf p))
          = { s.side (otherSide (s.sideOf p)) with
              tqData := (s.side (otherSide (s.sideOf p))).tqData ++ [{ cellOf k c with hops := c.hops + 1 }] }
        ∧ ((s.side (otherSide (s.sideOf p))).tqData.length + 1 < 96 → t.side (s.sideOf p) = s.side (s.sideOf p))
        ∧ (96 ≤ (s.side (otherSide (s.sideOf p))).tqData.length + 1 → (s.side (s.sideOf p)).holdRepeat = none →
            (t.side (s.sideOf p)).holdRepeat = some 100
              ∧ (t.side (s.sideOf p)).counts.holdsSent = satInc (s.side (s.sideOf p)).counts.holdsSent)
        ∧ (t.port p).counts.cellsIn = satInc (s.port p).counts.cellsIn
        ∧ ((s.port p).state = .doze → (t.port p).state = .waking))
  ∧ (∀ (p : Port) (c : CellData) (i : Instr) (k : Kind) (s : State), (i, k) ∈ dataCommands p c →
      (cellTaken s p (cellOf k c) = true → c.hops = 63 →
        ∃ t, exec i s = .next t ∧ Within [.inHand, .ports, .node] s t
          ∧ t.node = { s.node with hopLimit := satInc s.node.hopLimit })
      ∧ (cellTaken s p (cellOf k c) = true → c.hops ≠ 63 → s.poolFree = 0 →
          ∃ t, exec i s = .next t ∧ Within [.inHand, .ports, .node] s t
            ∧ t.node = { s.node with transitDrop := satInc s.node.transitDrop })
      ∧ (cellGranted s p (cellOf k c) = true → c.target ≠ s.station → c.target ≠ 255 →
          (s.isGateway = true ∧ c.target ≠ 254 ∨ s.isGateway = false ∧ s.inService (otherSide (s.sideOf p)) = false) →
          ∃ t, exec i s = .next t ∧ Within [.inHand, .ports, .node] s t ∧ t.inHand = 0
            ∧ t.node = { s.node with undelivered := satInc s.node.undelivered }))
  ∧ ∀ (p : Port) (c : CellData) (i : Instr) (k : Kind) (s : State), (i, k) ∈ dataCommands p c →
      s.isGateway = false → c.target = 255 → cellGranted s p (cellOf k c) = true →
      let a := s.sideOf p
      let b := otherSide a
      (0 < (grantedState s).poolFree → s.inService b = true →
        ∃ t, exec i s = .next t ∧ t.inHand = 0 ∧ deliveredHere s t a 2 k c
          ∧ (t.side b).tqData = (s.side b).tqData ++ [{ cellOf k c with hops := c.hops + 1 }]
          ∧ t.node.transitDrop = s.node.transitDrop ∧ t.node.undelivered = s.node.undelivered)
      ∧ (0 < (grantedState s).poolFree → s.inService b = false →
          ∃ t, exec i s = .next t ∧ t.inHand = 0 ∧ deliveredHere s t a 1 k c ∧ t.side b = s.side b
            ∧ t.node.undelivered = satInc s.node.undelivered)
      ∧ ((grantedState s).poolFree = 0 →
          ∃ t, exec i s = .next t ∧ t.inHand = 0 ∧ deliveredHere s t a 1 k c ∧ t.side b = s.side b
            ∧ t.node.transitDrop = satInc s.node.transitDrop)

/-- R18, R22, R28, R44, R48: what a free transmitter sends: a wake marker of a burst, else the first waiting port cell, else
the LINK queue, the beacon slot, and in UP TQ-CALL and then the CALL queue. A VOICE at the head of either whose call has no
HELD entry is removed and counts VOICE-UNRESERVED, and the slot sends what it would send without it. -/
def Obligations.TransmitterTakesTheFirstQueue : Prop :=
  ∀ (p : Port) (s : State), s.portFree p = true → (s.port p).sending = none →
    ((s.port p).state = .waking → 0 < (s.port p).burstLeft →
      ∃ t, exec (.transmitSlot p) s = .next t ∧ (t.port p).wire = .wakeMarker
        ∧ (t.port p).burstLeft = (s.port p).burstLeft - 1 ∧ (t.port p).sending = none ∧ t.tiu = s.tiu)
    ∧ ((s.port p).state = .up →
        (∀ c, (s.port p).slotWakeAck = some c → c.kind = .wakeAck →
          ∃ t, exec (.transmitSlot p) s = .next t ∧ (t.port p).sending = some ⟨c, .portSlot⟩
            ∧ (t.port p).wire = .cell c (cellCheck c) ∧ (t.port p).slotWakeAck = none ∧ t.tiu = s.tiu)
        ∧ (∀ c, (s.port p).slotWakeAck = none → (s.port p).slotDozeAck = some c → c.kind = .dozeAck →
          ∃ t, exec (.transmitSlot p) s = .next t ∧ (t.port p).sending = some ⟨c, .portSlot⟩
            ∧ (t.port p).slotDozeAck = none ∧ t.tiu = s.tiu)
        ∧ (∀ c, (s.port p).slotWakeAck = none → (s.port p).slotDozeAck = none → (s.port p).slotDozeReq = some c →
            c.kind = .dozeReq →
          ∃ t, exec (.transmitSlot p) s = .next t ∧ (t.port p).sending = some ⟨c, .portSlot⟩
            ∧ (t.port p).slotDozeReq = none ∧ t.tiu = s.tiu)
        ∧ (∀ c, (s.port p).slotWakeAck = none → (s.port p).slotDozeAck = none → (s.port p).slotDozeReq = none →
            (s.port p).slotHello = some c → c.kind = .hello →
          ∃ t, exec (.transmitSlot p) s = .next t ∧ (t.port p).sending = some ⟨c, .portSlot⟩
            ∧ (t.port p).slotHello = none ∧ t.tiu = s.tiu))
    ∧ ((s.port p).slotWakeAck = none → (s.port p).slotDozeAck = none → (s.port p).slotDozeReq = none →
        (s.port p).slotHello = none → inServiceState (s.port p).state = true →
        ((s.port p).state = .waking → (s.port p).burstLeft = 0) →
        (∀ c q, (s.side (s.sideOf p)).insLink = c :: q →
          ∃ t, exec (.transmitSlot p) s = .next t ∧ (t.port p).sending = some ⟨c, .linkIns⟩
            ∧ t.side (s.sideOf p) = { s.side (s.sideOf p) with insLink := q })
        ∧ (∀ c, (s.side (s.sideOf p)).insLink = [] → (s.side (s.sideOf p)).beaconSlot = some c →
          ∃ t, exec (.transmitSlot p) s = .next t ∧ (t.port p).sending = some ⟨c, .beaconSlot⟩
            ∧ t.side (s.sideOf p) = { s.side (s.sideOf p) with beaconSlot := none })
        ∧ (∀ c q, (s.port p).state = .up → (s.side (s.sideOf p)).insLink = [] → (s.side (s.sideOf p)).beaconSlot = none →
            (s.side (s.sideOf p)).tqCall = c :: q → (c.kind ≠ .voice ∨ heldIn (s.table (s.sideOf p)) (callOf c.toCellData) = true) →
          ∃ t, exec (.transmitSlot p) s = .next t ∧ (t.port p).sending = some ⟨c, .tqCall⟩
            ∧ (t.side (s.sideOf p)).tqCall = q ∧ (cellClass c ≠ .link → (t.port p).idle = some 5000))
        ∧ (∀ c q, (s.port p).state = .up → (s.side (s.sideOf p)).insLink = [] → (s.side (s.sideOf p)).beaconSlot = none →
            (s.side (s.sideOf p)).tqCall = [] → (s.side (s.sideOf p)).insCall = c :: q →
            (c.kind ≠ .voice ∨ heldIn (s.table (s.sideOf p)) (callOf c.toCellData) = true) →
          ∃ t, exec (.transmitSlot p) s = .next t ∧ (t.port p).sending = some ⟨c, .callIns⟩
            ∧ (t.side (s.sideOf p)).insCall = q)
        ∧ (∀ c q x, (s.port p).state = .up → (s.side (s.sideOf p)).insLink = [] → (s.side (s.sideOf p)).beaconSlot = none →
            c.kind = .voice → heldIn (s.table (s.sideOf p)) (callOf c.toCellData) = false →
            ((s.side (s.sideOf p)).tqCall = c :: q ∧ x = { s.side (s.sideOf p) with tqCall := q }
              ∨ (s.side (s.sideOf p)).tqCall = [] ∧ (s.side (s.sideOf p)).insCall = c :: q
                ∧ x = { s.side (s.sideOf p) with insCall := q }) →
            let without :=
              s.setSide (s.sideOf p) { x with counts := { x.counts with voiceUnreserved := satInc x.counts.voiceUnreserved } }
            ∃ t u, exec (.transmitSlot p) s = .next t ∧ exec (.transmitSlot p) without = .next u ∧ t.tiu = u.tiu
              ∧ (t.port p).sending = (u.port p).sending ∧ (t.port p).wire = (u.port p).wire
              ∧ (t.port p).idle = (u.port p).idle))

/-- R49, R54: the data choice of a slot that no port, LINK or CALL cell takes: nothing while held; a local cell, TOLL before
SIGN before REPORT, when TQ-DATA is empty or after four transit cells in a row; a transit cell otherwise. -/
def Obligations.DataChoiceIsFair : Prop :=
  ∀ (p : Port) (s : State), s.portFree p = true → (s.port p).sending = none → (s.port p).state = .up →
    (s.port p).slotWakeAck = none → (s.port p).slotDozeAck = none → (s.port p).slotDozeReq = none →
    (s.port p).slotHello = none → (s.side (s.sideOf p)).insLink = [] → (s.side (s.sideOf p)).beaconSlot = none →
    (s.side (s.sideOf p)).tqCall = [] → (s.side (s.sideOf p)).insCall = [] →
    ((s.side (s.sideOf p)).holdExpiry.isSome = true →
      ∃ t, exec (.transmitSlot p) s = .next t ∧ (t.port p).sending = none ∧ (t.port p).wire = .emptySlot
        ∧ t.side (s.sideOf p) = s.side (s.sideOf p))
    ∧ ((s.side (s.sideOf p)).holdExpiry = none →
        (∀ c q, (s.side (s.sideOf p)).insToll = c :: q →
            ((s.side (s.sideOf p)).tqData = [] ∨ 4 ≤ (s.side (s.sideOf p)).fairness) →
          ∃ t, exec (.transmitSlot p) s = .next t ∧ (t.port p).sending = some ⟨c, .tollIns⟩
            ∧ t.side (s.sideOf p) = { s.side (s.sideOf p) with insToll := q, fairness := 0 })
        ∧ (∀ c q, (s.side (s.sideOf p)).insToll = [] → (s.side (s.sideOf p)).insSign = c :: q →
            ((s.side (s.sideOf p)).tqData = [] ∨ 4 ≤ (s.side (s.sideOf p)).fairness) →
          ∃ t, exec (.transmitSlot p) s = .next t ∧ (t.port p).sending = some ⟨c, .signIns⟩
            ∧ t.side (s.sideOf p) = { s.side (s.sideOf p) with insSign := q, fairness := 0 })
        ∧ (∀ c q, (s.side (s.sideOf p)).insToll = [] → (s.side (s.sideOf p)).insSign = [] →
            (s.side (s.sideOf p)).insReport = c :: q →
            ((s.side (s.sideOf p)).tqData = [] ∨ 4 ≤ (s.side (s.sideOf p)).fairness) →
          ∃ t, exec (.transmitSlot p) s = .next t ∧ (t.port p).sending = some ⟨c, .reportIns⟩
            ∧ t.side (s.sideOf p) = { s.side (s.sideOf p) with insReport := q, fairness := 0 })
        ∧ (∀ c q x, (s.side (s.sideOf p)).tqData = c :: q → (s.side (s.sideOf p)).fairness < 4 →
            x ∈ (s.side (s.sideOf p)).insToll ++ (s.side (s.sideOf p)).insSign ++ (s.side (s.sideOf p)).insReport →
          ∃ t, exec (.transmitSlot p) s = .next t ∧ (t.port p).sending = some ⟨c, .tqData⟩
            ∧ t.side (s.sideOf p)
              = { s.side (s.sideOf p) with tqData := q, fairness := (s.side (s.sideOf p)).fairness + 1 })
        ∧ (∀ c q, (s.side (s.sideOf p)).tqData = c :: q → (s.side (s.sideOf p)).insToll = [] →
            (s.side (s.sideOf p)).insSign = [] → (s.side (s.sideOf p)).insReport = [] →
          ∃ t, exec (.transmitSlot p) s = .next t ∧ (t.port p).sending = some ⟨c, .tqData⟩
            ∧ t.side (s.sideOf p) = { s.side (s.sideOf p) with tqData := q }))

/-- R21, R50, R53, R119: a transmission completes: CELLS-OUT, the TOLL-RECORD of a DISPATCHING entry makes it SENT with its
retry timer, and TQ-DATA at 32 or below releases the hold sent the other way; that the depth is tested when the
transmission completes is the model's reading (log 14). -/
def Obligations.TransmissionCompletes : Prop :=
  ∀ (p : Port) (x : Sending) (s : State), s.portFree p = true → (s.port p).sending = some x →
    (∃ t, exec (.transmissionComplete p) s = .next t ∧ (t.port p).sending = none
      ∧ (t.port p).counts.cellsOut = satInc (s.port p).counts.cellsOut ∧ onlyPort s t p
      ∧ t.side (s.sideOf p) = s.side (s.sideOf p)
      ∧ (x.source = .tollIns → x.cell.kind = .tollRecord → gantryFitted s.straps = true →
          t.tiu = s.tiu
          ∧ t.csd
            = { s.csd with store := s.csd.store.map (fun e =>
                if e.sequence = x.cell.reference ∧ e.state = .dispatching (s.sideOf p) then
                  { e with
                    state := .sent, attempts := min 15 (e.attempts + 1)
                    sameDirection := if e.lastDirection = some (s.sideOf p) then min 4 (e.sameDirection + 1) else 1
                    lastDirection := some (s.sideOf p), retry := some 1000 }
                else e) })
      ∧ (x.source ≠ .tollIns → t.csd = s.csd)
      ∧ (x.source = .tqData → (s.side (s.sideOf p)).tqData.length ≤ 32 →
          (s.side (otherSide (s.sideOf p))).holdRepeat.isSome = true → s.inService (otherSide (s.sideOf p)) = true →
          (t.side (otherSide (s.sideOf p))).holdRepeat = none
            ∧ (t.side (otherSide (s.sideOf p))).counts.resumesSent
              = satInc (s.side (otherSide (s.sideOf p))).counts.resumesSent)
      ∧ (x.source ≠ .tqData → t.tiu = s.tiu))

/-! ## Gateway reach -/

/-- R61 to R65: what a beacon with a buffer does to the entry of its side, by place and freshness, and how it goes on; the
lapse of a VALID entry whose age has reached 600 ms, and that no lapse occurs at a younger age. -/
def Obligations.BeaconsKeepTheReachTable : Prop :=
  (∀ (p : Port) (c : CellData) (s : State), cellGranted s p (cellOf .beacon c) = true →
    let d := s.sideOf p
    let fits := (d = .up ∧ c.flags.getLsbD 1 = false ∧ c.origin.toNat < s.station.toNat)
      ∨ (d = .down ∧ c.flags.getLsbD 1 = true ∧ s.station.toNat < c.origin.toNat)
    let fresh := (s.entry d).valid = false ∨ c.origin ≠ (s.entry d).gateway
      ∨ (1 ≤ (c.reference - (s.entry d).sequence).toNat ∧ (c.reference - (s.entry d).sequence).toNat ≤ 32767)
    (¬ fits →
      ∃ t, exec (.beacon p c) s = .next t ∧ Within [.inHand, .ports, .reach] s t
        ∧ t.entry d
          = { s.entry d with
              counts := { (s.entry d).counts with beaconMismarked := satInc (s.entry d).counts.beaconMismarked } })
    ∧ (fits → ¬ fresh →
        ∃ t, exec (.beacon p c) s = .next t ∧ Within [.inHand, .ports, .reach] s t
          ∧ t.entry d
            = { s.entry d with counts := { (s.entry d).counts with beaconStale := satInc (s.entry d).counts.beaconStale } })
    ∧ (fits → fresh →
        ∃ t, exec (.beacon p c) s = .next t ∧ t.entry (otherSide d) = s.entry (otherSide d)
          ∧ t.entry d
            = { held := true, gateway := c.origin, hops := c.hops, sequence := c.reference, age := 0, valid := true
                counts := { (s.entry d).counts with
                  beaconsTaken := satInc (s.entry d).counts.beaconsTaken
                  reachChanges :=
                    if (s.entry d).valid = true ∧ c.origin ≠ (s.entry d).gateway then satInc (s.entry d).counts.reachChanges
                    else (s.entry d).counts.reachChanges } }
          ∧ (s.isGateway = true → (t.side (otherSide d)).beaconSlot = (s.side (otherSide d)).beaconSlot)
          ∧ (s.isGateway = false → s.inService (otherSide d) = true →
              (t.side (otherSide d)).beaconSlot = some { cellOf .beacon c with hops := c.hops + 1 })))
  ∧ ∀ (d : Side) (s : State), s.live = true → (s.entry d).valid = true →
      ((s.entry d).age.toNat < 600 → exec (.reachLapse d) s = .next s)
      ∧ (600 ≤ (s.entry d).age.toNat →
          ∃ t, exec (.reachLapse d) s = .next t ∧ t.entry (otherSide d) = s.entry (otherSide d)
            ∧ t.entry d
              = { s.entry d with
                  valid := false, counts := { (s.entry d).counts with reachLapses := satInc (s.entry d).counts.reachLapses } }
            ∧ (gantryFitted s.straps = false → Within [.inHand, .ports, .reach] s t))

/-- R67: the answers to a direction request, and the byte of the status table that shows the answer to NEAREST. -/
def Obligations.NearestGatewayIsAnswered : Prop :=
  ∀ s : State,
    ((s.entry .up).valid = true → (s.entry .down).valid = true →
      s.nearest = if (s.entry .up).hops.toNat ≤ (s.entry .down).hops.toNat then some .up else some .down)
    ∧ ((s.entry .up).valid = true → (s.entry .down).valid = false → s.nearest = some .up)
    ∧ ((s.entry .up).valid = false → (s.entry .down).valid = true → s.nearest = some .down)
    ∧ ((s.entry .up).valid = false → (s.entry .down).valid = false → s.nearest = none)
    ∧ (∀ d, s.nearestExcluding d = if (s.entry (otherSide d)).valid then some (otherSide d) else none)
    ∧ ∃ f ∈ statusFields s, f.off = 0x36
        ∧ (s.isGateway = false →
            f.bytes = [match s.nearest with | some .up => 0 | some .down => 1 | none => 2])

/-! ## Call circuits: path nodes -/

/-- R91: a CALL-SETUP that passes the tests of a path node reserves both sides, PENDING with the entry timer, and goes on. -/
def Obligations.PathSetupReservesBothSides : Prop :=
  ∀ (p : Port) (c : CellData) (s : State),
    let a := s.sideOf p
    let b := otherSide a
    let id := callOf c
    passesHere s c = true → cellGranted s p (cellOf .callSetup c) = true →
    namesCall (s.table a) id = false → namesCall (s.table b) id = false →
    (s.table a).length < 8 → (s.table b).length < 8 → takesCall s b = true →
    ∃ t, exec (.callSetup p c) s = .next t ∧ Within [.inHand, .ports, .tiu, .srt] s t ∧ t.inHand = 0
      ∧ t.table a = s.table a
        ++ [{ identity := id, grade := gradeOf c.aux6, held := false, place := .path, faces := .origin, timer := some 3000 }]
      ∧ t.table b = s.table b
        ++ [{ identity := id, grade := gradeOf c.aux6, held := false, place := .path, faces := .gateway, timer := some 3000 }]
      ∧ (t.side b).tqCall = (s.side b).tqCall ++ [{ cellOf .callSetup c with hops := c.hops + 1 }]

/-- R91, R99: a CALL-SETUP that fails a test of a path node is answered out of its arrival side with CALL-REFUSE and
the reason of the first test it failed; nothing is reserved and nothing goes on. At a gateway that does not consume it (R8,
R90) the outer side is no way on, and the setup is refused NO-ROUTE. The setup's buffer is returned first
(log 7). That the CALL-REFUSE carries the setup's own grade byte where this is neither 0 nor 1 is the model's choice
(log 17). -/
def Obligations.PathSetupIsRefusedWithItsReason : Prop :=
  ∀ (p : Port) (c : CellData) (s : State),
    let a := s.sideOf p
    let b := otherSide a
    let id := callOf c
    let named := namesCall (s.table a) id = true ∨ namesCall (s.table b) id = true
    let noRoute := s.inService b = false ∨ (s.isGateway = true ∧ b = otherSide s.inner)
    let full := 8 ≤ (s.table a).length ∨ 8 ≤ (s.table b).length
    let stuck := (8 ≤ (s.table a).length ∧ youngestBreakdown (s.table a) = none)
      ∨ (8 ≤ (s.table b).length ∧ youngestBreakdown (s.table b) = none)
    let refused := fun (reason : Byte) (n : CcuCounts) =>
      ∃ t, exec (.callSetup p c) s = .next t ∧ Within [.inHand, .ports, .node, .tiu, .ccu] s t ∧ t.inHand = 0
        ∧ (t.side b).tqCall = (s.side b).tqCall
        ∧ (takesLocal (s.holding 0) a .call = true →
            t.ccu = n
              ∧ (t.side a).insCall
                = (s.side a).insCall ++ [makeCell s.station .callRefuse id.station (referenceOf id) c.aux6 reason 0 []])
    (passesHere s c = true ∨ straysHere s c = true) → cellGranted s p (cellOf .callSetup c) = true →
    (named → refused 4 { s.ccu with refusesDuplicate := satInc s.ccu.refusesDuplicate })
    ∧ (¬ named → noRoute → refused 3 { s.ccu with refusesNoRoute := satInc s.ccu.refusesNoRoute })
    ∧ (¬ named → ¬ noRoute → full → (gradeOf c.aux6 = .breakdown ∨ stuck) →
        refused 1 { s.ccu with refusesSpanFull := satInc s.ccu.refusesSpanFull })

/-- R91, R92: an ACCIDENT setup that finds the onward table full, the other with room, preempts its youngest BREAKDOWN
entry. A PATH entry goes from both tables and two CALL-BROKENs are made; an ORIGIN entry goes, and its record takes
CALL-BROKEN, seeking the other way or waiting. The new entries stand last. The record does not take a place that the setup
needs (log 8). -/
def Obligations.AccidentSetupPreemptsTheYoungestBreakdown : Prop :=
  (∀ (p : Port) (c : CellData) (e : SrtEntry) (s : State),
    let a := s.sideOf p
    let b := otherSide a
    let id := callOf c
    passesHere s c = true → cellGranted s p (cellOf .callSetup c) = true →
    namesCall (s.table a) id = false → namesCall (s.table b) id = false →
    gradeOf c.aux6 = .accident → (s.table a).length < 8 → 8 ≤ (s.table b).length → takesCall s b = true →
    youngestBreakdown (s.table b) = some e → e.place = .path →
    ∃ t, exec (.callSetup p c) s = .next t
      ∧ t.table a = tableWithout (s.table a) e.identity
        ++ [{ identity := id, grade := .accident, held := false, place := .path, faces := .origin, timer := some 3000 }]
      ∧ t.table b = tableWithout (s.table b) e.identity
        ++ [{ identity := id, grade := .accident, held := false, place := .path, faces := .gateway, timer := some 3000 }]
      ∧ t.ccu.preemptions = satInc s.ccu.preemptions
      ∧ t.ccu.brokenPreempted = satInc (satInc s.ccu.brokenPreempted)
      ∧ (t.side b).tqCall = (s.side b).tqCall ++ [{ cellOf .callSetup c with hops := c.hops + 1 }])
  ∧ ∀ (p : Port) (c : CellData) (e : SrtEntry) (r : CallRecord) (s : State),
    let a := s.sideOf p
    let b := otherSide a
    let id := callOf c
    let v := e.identity.phone
    let next : Identity := { station := s.station, phone := v, serial := (s.line v).nextSerial }
    passesHere s c = true → cellGranted s p (cellOf .callSetup c) = true →
    namesCall (s.table a) id = false → namesCall (s.table b) id = false →
    gradeOf c.aux6 = .accident → (s.table a).length < 8 → 8 ≤ (s.table b).length → takesCall s b = true →
    youngestBreakdown (s.table b) = some e → e.place = .origin → (s.line v).record = some r →
    (r.state = .seeking ∨ r.state = .connected) → r.direction = some b → r.identity = some e.identity →
    ((s.entry a).valid = false ∨ 7 ≤ (s.table a).length →
      ∃ t, exec (.callSetup p c) s = .next t ∧ t.ccu.preemptions = satInc s.ccu.preemptions
        ∧ t.table a = s.table a ++ [pathEntry id .accident .origin]
        ∧ t.table b = tableWithout (s.table b) e.identity ++ [pathEntry id .accident .gateway]
        ∧ (t.line v).record = some (waitingRecord r.grade)
        ∧ (t.line v).state = .calling ∧ (t.line v).playing = .holdTone)
    ∧ ((s.entry a).valid = true → (s.table a).length < 7 → takesLocal (grantedState s) a .call = true →
        ∃ t, exec (.callSetup p c) s = .next t ∧ t.ccu.preemptions = satInc s.ccu.preemptions
          ∧ t.table a = s.table a ++ [originEntry next r.grade, pathEntry id .accident .origin]
          ∧ t.table b = tableWithout (s.table b) e.identity ++ [pathEntry id .accident .gateway]
          ∧ (t.line v).record = some (soughtOther next r.grade b)
          ∧ (t.line v).state = .calling ∧ (t.line v).playing = .holdTone)

/-- R93: a CALL-ACCEPT at a path node makes the call's entries HELD and goes on; one whose path is gone stops, and
CALL-BROKEN(LOST) is made out of both sides, also at a gateway that does not consume it (R8, R90). The grade of those is open (log 10), so the statement leaves it free. The
ACCEPT's buffer is returned before the first is offered (log 7), and that one stands in the queue when the second is
offered. -/
def Obligations.PathAcceptHoldsOrBreaks : Prop :=
  ∀ (p : Port) (c : CellData) (s : State),
    let a := s.sideOf p
    let b := otherSide a
    let id := callOf c
    (passesHere s c = true ∨ straysHere s c = true) → cellGranted s p (cellOf .callAccept c) = true →
    (s.isGateway = false → (namesCall (s.table a) id = true ∨ namesCall (s.table b) id = true) → takesCall s b = true →
      ∃ t, exec (.callAccept p c) s = .next t ∧ Within [.inHand, .ports, .tiu, .srt] s t
        ∧ (∀ d, t.table d = (s.table d).map (fun e =>
            if e.identity = id then { e with held := true, timer := some 3000 } else e))
        ∧ (t.side b).tqCall = (s.side b).tqCall ++ [{ cellOf .callAccept c with hops := c.hops + 1 }])
    ∧ (namesCall (s.table a) id = false → namesCall (s.table b) id = false →
        ∃ t, exec (.callAccept p c) s = .next t ∧ t.srt = s.srt ∧ (t.side b).tqCall = (s.side b).tqCall
          ∧ t.ccu.brokenLost = satInc (satInc s.ccu.brokenLost)
          ∧ (takesLocal (s.holding 0) a .call = true →
              ∃ g, (t.side a).insCall
                = (s.side a).insCall ++ [makeCell s.station .callBroken 254 (referenceOf id) g 7 0 []])
          ∧ (takesLocal (s.holding 1) b .call = true →
              ∃ g, (t.side b).insCall
                = (s.side b).insCall ++ [makeCell s.station .callBroken id.station (referenceOf id) g 7 0 []]))

/-- R94 to R97: at a path node a CALL-REFUSE, CALL-RELEASE or CALL-BROKEN releases the call's entries, a CALL-UPGRADE makes
them ACCIDENT, a VOICE restarts the watch of its HELD entries, and each goes on; a timer that runs out releases them. R90: a
CALL cell that names a call of this station but is not targeted to it, or is targeted here for another's call, stops. R8, R90:
a gateway takes a CALL cell that it does not consume in the same ways, and one that continues there ends UNDELIVERED. -/
def Obligations.PathCellsChangeTheEntries : Prop :=
  (∀ (p : Port) (c : CellData) (s : State),
    let b := otherSide (s.sideOf p)
    let id := callOf c
    passesHere s c = true → takesCall s b = true →
    (∀ i k, (i, k) ∈ [(Instr.callRefuse p c, Kind.callRefuse), (.callRelease p c, .callRelease), (.callBroken p c, .callBroken)] →
      cellGranted s p (cellOf k c) = true →
      ∃ t, exec i s = .next t ∧ Within [.inHand, .ports, .tiu, .srt] s t
        ∧ (∀ d, t.table d = tableWithout (s.table d) id)
        ∧ (t.side b).tqCall = (s.side b).tqCall ++ [{ cellOf k c with hops := c.hops + 1 }])
    ∧ (cellGranted s p (cellOf .callUpgrade c) = true →
        ((namesCall (s.table .up) id = true ∨ namesCall (s.table .down) id = true) →
          ∃ t, exec (.callUpgrade p c) s = .next t ∧ Within [.inHand, .ports, .tiu, .srt] s t
            ∧ (∀ d, t.table d = (s.table d).map (fun e => if e.identity = id then { e with grade := .accident } else e))
            ∧ (t.side b).tqCall = (s.side b).tqCall ++ [{ cellOf .callUpgrade c with hops := c.hops + 1 }])
        ∧ (namesCall (s.table .up) id = false → namesCall (s.table .down) id = false →
          ∃ t, exec (.callUpgrade p c) s = .next t ∧ Within [.inHand, .ports, .ccu] s t
            ∧ t.ccu = { s.ccu with upgradeDropped := satInc s.ccu.upgradeDropped }))
    ∧ (cellGranted s p (cellOf .voice c) = true →
        ∃ t, exec (.voice p c) s = .next t ∧ Within [.inHand, .ports, .tiu, .srt] s t
          ∧ (∀ d, t.table d = (s.table d).map (fun e =>
              if e.identity = id ∧ e.held = true then { e with timer := some 3000 } else e))
          ∧ (heldIn (s.table b) id = true →
              (t.side b).tqCall = (s.side b).tqCall ++ [{ cellOf .voice c with hops := c.hops + 1 }])
          ∧ (heldIn (s.table b) id = false →
              (t.side b).tqCall = (s.side b).tqCall
                ∧ (t.side b).counts.voiceUnreserved = satInc (s.side b).counts.voiceUnreserved)))
  ∧ (∀ (id : Identity) (e : SrtEntry) (s : State), s.live = true → timedPathEntry s id = some e →
      ∃ t, exec (.pathEntryTimerExpiry id) s = .next t ∧ Within [.inHand, .ports, .srt, .ccu] s t
        ∧ (∀ d, t.table d = tableWithout (s.table d) id)
        ∧ t.ccu
          = if e.held then { s.ccu with voiceWatchExpiries := satInc s.ccu.voiceWatchExpiries }
            else { s.ccu with pendingExpiries := satInc s.ccu.pendingExpiries })
  ∧ (∀ (p : Port) (c : CellData) (s : State),
      let id := callOf c
      straysHere s c = true → namesCall (s.table .up) id = false → namesCall (s.table .down) id = false →
      (∀ i k, (i, k) ∈ [(Instr.callRefuse p c, Kind.callRefuse), (.callRelease p c, .callRelease),
            (.callBroken p c, .callBroken), (.voice p c, .voice)] → cellGranted s p (cellOf k c) = true →
        ∃ t, exec i s = .next t ∧ Within [.inHand, .ports, .node] s t ∧ t.inHand = 0
          ∧ t.node = { s.node with undelivered := satInc s.node.undelivered })
      ∧ (cellGranted s p (cellOf .callUpgrade c) = true →
          ∃ t, exec (.callUpgrade p c) s = .next t ∧ Within [.inHand, .ports, .ccu] s t ∧ t.inHand = 0
            ∧ t.ccu = { s.ccu with upgradeDropped := satInc s.ccu.upgradeDropped }))
  ∧ ∀ (p : Port) (c : CellData) (i : Instr) (k : Kind) (s : State), (i, k) ∈ callCommands p c →
      cellGranted s p (cellOf k c) = true →
      ((callOf c).station = s.station ∧ c.target ≠ s.station ∧ (s.isGateway = true → c.target ≠ 254)
        ∨ s.isGateway = false ∧ (callOf c).station ≠ s.station ∧ c.target = s.station) →
      ∃ t, exec i s = .next t ∧ Within [.inHand, .ports, .ccu] s t ∧ t.inHand = 0
        ∧ t.ccu = { s.ccu with callMisdirected := satInc s.ccu.callMisdirected }

/-! ## Call circuits: phone lines -/

/-- R75 to R78: the levels of HOOK and KEY start and stop the debounces, the measurement and the stuck timer. The
levels at the pins are state (log 4). -/
def Obligations.HookAndKeyLevels : Prop :=
  ∀ (l : Line) (s : State), s.phonesWork = true →
    ((s.line l).state = .idle →
      exec (.hookOffHook l) s
        = .next (s.setLine l { s.line l with offHook := true, state := .offhookCheck, hookDebounce := some 200 }))
    ∧ ((s.line l).state = .offhookCheck →
        exec (.hookOnHook l) s = .next (s.setLine l { s.line l with offHook := false, state := .idle, hookDebounce := none }))
    ∧ ((s.line l).state = .calling ∨ (s.line l).state = .talk ∨ (s.line l).state = .cleared →
        exec (.hookOnHook l) s = .next (s.setLine l { s.line l with offHook := false, hookDebounce := some 200 })
        ∧ exec (.hookOffHook l) s = .next (s.setLine l { s.line l with offHook := true, hookDebounce := none }))
    ∧ exec (.keyClose l) s
      = .next (s.setLine l
          { s.line l with
            keyClosed := true, keyTimer := some 3000
            keyMeasuring := decide ((s.line l).state = .calling ∨ (s.line l).state = .talk) })
    ∧ ((s.line l).keyClosed = true → (s.line l).keyTimer.isSome = true →
        exec (.keyStuck l) s
          = .next (s.setLine l
              { s.line l with
                keyStuck := true, keyTimer := none
                counts := { (s.line l).counts with keyStuckEvents := satInc (s.line l).counts.keyStuckEvents } }))

/-- R75, R81 to R84, R137, R184: 200 ms off the hook begin a call: CALLING with hold tone, a record whose first attempt
seeks toward the nearest gateway, waits where there is none, or at a gateway takes an office channel; INCIDENT is raised. -/
def Obligations.OffHookBeginsACall : Prop :=
  ∀ (l : Line) (s : State), s.phonesWork = true → (s.line l).state = .offhookCheck → (s.line l).hookDebounce.isSome = true →
    let id : Identity := { station := s.station, phone := l, serial := (s.line l).nextSerial }
    (∀ d, s.isGateway = false → s.nearest = some d → (s.table d).length < 8 → takesLocal s d .call = true →
      ∃ t, exec (.offhookDebounceExpiry l) s = .next t ∧ (t.line l).state = .calling ∧ (t.line l).playing = .holdTone
        ∧ (t.line l).record = some { identity := some id, grade := .breakdown, state := .seeking, direction := some d,
                                     triedUp := false, triedDown := false, timer := some 2000 }
        ∧ (t.line l).nextSerial = (s.line l).nextSerial + 1
        ∧ (t.line l).counts.callAttempts = satInc (s.line l).counts.callAttempts
        ∧ t.table d = s.table d
          ++ [{ identity := id, grade := .breakdown, held := false, place := .origin, faces := .gateway, timer := none }]
        ∧ t.table (otherSide d) = s.table (otherSide d)
        ∧ (t.side d).insCall = (s.side d).insCall ++ [makeCell s.station .callSetup 254 (referenceOf id) 0 0 0 []])
    ∧ (s.isGateway = false → s.nearest = none →
        ∃ t, exec (.offhookDebounceExpiry l) s = .next t ∧ (t.line l).state = .calling ∧ (t.line l).playing = .holdTone
          ∧ (t.line l).record = some { identity := none, grade := .breakdown, state := .waiting, direction := none,
                                       triedUp := false, triedDown := false, timer := some 3000 }
          ∧ t.srt = s.srt ∧ t.tiu = s.tiu)
    ∧ (∀ n, s.isGateway = true → freeChannel s = some n → s.gw.toOffice.length < 32 → 16 ≤ s.poolFree →
        ∃ t, exec (.offhookDebounceExpiry l) s = .next t ∧ (t.line l).state = .talk ∧ (t.line l).playing = .silence
          ∧ (t.line l).counts.playoutUnderrun = satInc (s.line l).counts.playoutUnderrun
          ∧ (t.line l).record = some { identity := some id, grade := .breakdown, state := .connected, direction := none,
                                       triedUp := false, triedDown := false, timer := none }
          ∧ t.gw.channels = s.gw.channels.set n (.localCall id .breakdown (some 3000))
          ∧ (∃ c, t.gw.toOffice = s.gw.toOffice ++ [c] ∧ c.kind = .callSetup ∧ c.hops = BitVec.ofNat 8 n
              ∧ c.reference = referenceOf id))
    ∧ ∃ t, exec (.offhookDebounceExpiry l) s = .next t
        ∧ t.sps
          = if incidentAllowed s.straps = true ∧ s.sps.incident = false then
              { s.sps with
                incident := true, counts := { s.sps.counts with incidentRaises := satInc s.sps.counts.incidentRaises } }
            else s.sps

/-- R76, R184: 200 ms on the hook end the call: the line is IDLE without a record; an own entry is released and a
CALL-RELEASE offered toward its direction; at a gateway the office channel becomes FREE. -/
def Obligations.OnHookEndsTheCall : Prop :=
  ∀ (l : Line) (s : State), s.phonesWork = true →
    ((s.line l).state = .calling ∨ (s.line l).state = .talk ∨ (s.line l).state = .cleared) →
    (s.line l).hookDebounce.isSome = true →
    (∃ t, exec (.onhookDebounceExpiry l) s = .next t ∧ (t.line l).state = .idle ∧ (t.line l).record = none
      ∧ (t.line l).playing = .nothing ∧ (t.line l).playout = [] ∧ (t.line l).keyMeasuring = false)
    ∧ (∀ r d id, s.isGateway = false → (s.line l).record = some r → (r.state = .seeking ∨ r.state = .connected) →
        r.direction = some d → r.identity = some id →
        ∃ t, exec (.onhookDebounceExpiry l) s = .next t ∧ t.table d = tableWithout (s.table d) id
          ∧ t.table (otherSide d) = s.table (otherSide d)
          ∧ (takesLocal s d .call = true →
              (t.side d).insCall
                = (s.side d).insCall
                  ++ [makeCell s.station .callRelease 254 (referenceOf id) (gradeCode r.grade) 0 0 []]))
    ∧ (∀ r n id g w, s.isGateway = true → (s.line l).record = some r → (r.state = .seeking ∨ r.state = .connected) →
        r.identity = some id → findChannel s id = some n → channelAt s n = .localCall id g w →
        ∃ t, exec (.onhookDebounceExpiry l) s = .next t ∧ t.gw.channels = s.gw.channels.set n .free)

/-- R77, R78, R87, R184: KEY opens: the flag and the measurement end; a closed time from 300 ms to 3 s, armed in
CALLING or TALK, makes the call ACCIDENT, in its record, its entry and, at a gateway, its channel. The closed time is
the command's operand (log 6). -/
def Obligations.KeyGradesTheCall : Prop :=
  ∀ (l : Line) (us : Nat) (s : State), s.phonesWork = true →
    ((s.line l).keyMeasuring = false ∨ us < 300000 ∨ 3000000 < us →
      exec (.keyOpen l us) s
        = .next (s.setLine l { s.line l with keyClosed := false, keyTimer := none, keyStuck := false, keyMeasuring := false }))
    ∧ ((s.line l).keyMeasuring = true → 300000 ≤ us → us ≤ 3000000 →
        ∀ r, (s.line l).record = some r →
          (∃ t, exec (.keyOpen l us) s = .next t ∧ (t.line l).record = some { r with grade := .accident }
            ∧ (t.line l).state = (s.line l).state ∧ (t.line l).keyStuck = false ∧ (t.line l).keyMeasuring = false)
          ∧ (∀ d id, s.isGateway = false → r.grade = .breakdown → (r.state = .seeking ∨ r.state = .connected) →
              r.direction = some d → r.identity = some id →
              ∃ t, exec (.keyOpen l us) s = .next t
                ∧ t.table d
                  = (s.table d).map (fun e => if e.identity = id then { e with grade := .accident } else e)
                ∧ (takesLocal s d .call = true →
                    (t.side d).insCall
                      = (s.side d).insCall ++ [makeCell s.station .callUpgrade 254 (referenceOf id) 1 0 0 []]))
          ∧ (∀ n id g w, s.isGateway = true → r.grade = .breakdown → (r.state = .seeking ∨ r.state = .connected) →
              r.identity = some id → findChannel s id = some n → channelAt s n = .localCall id g w →
              ∃ t, exec (.keyOpen l us) s = .next t ∧ t.gw.channels = s.gw.channels.set n (.localCall id .accident w)))

/-- R79, R80: in TALK a period of samples is packed into a VOICE toward the call's direction, or counted when the offer is
refused, whatever refuses it, and the playout buffer's head is played, or silence. R184: at a gateway the VOICE of a LOCAL
channel goes to the office, or is lost and counted; a full queue is tested first (log 23), and the target is ANY-GATEWAY as
for other cells toward the office (log 30). -/
def Obligations.TalkPacksAndPlays : Prop :=
  ∀ (l : Line) (s : State), s.phonesWork = true → (s.line l).state = .talk →
    (∀ samples r d id, (s.line l).record = some r → r.direction = some d → r.identity = some id →
      (heldIn (s.table d) id = true → takesLocal s d .call = true →
        ∃ t, exec (.voicePackPeriod l samples) s = .next t
          ∧ (t.side d).insCall
            = (s.side d).insCall ++ [makeCell s.station .voice 254 (referenceOf id) (gradeCode r.grade) 0 0 samples]
          ∧ t.line l = { s.line l with packPeriod := some 4 })
      ∧ (s.inService d = false →
          ∃ t, exec (.voicePackPeriod l samples) s = .next t ∧ t.tiu = s.tiu
            ∧ t.node = { s.node with noSideCall := satInc s.node.noSideCall }
            ∧ (t.line l).counts.voiceDropped = satInc (s.line l).counts.voiceDropped)
      ∧ (s.inService d = true → 16 ≤ (s.side d).insCall.length →
          ∃ t, exec (.voicePackPeriod l samples) s = .next t ∧ t.node = s.node
            ∧ t.side d
              = { s.side d with
                  counts := { (s.side d).counts with queueRefusedCall := satInc (s.side d).counts.queueRefusedCall } }
            ∧ (t.line l).counts.voiceDropped = satInc (s.line l).counts.voiceDropped)
      ∧ (s.inService d = true → (s.side d).insCall.length < 16 → heldIn (s.table d) id = false →
          ∃ t, exec (.voicePackPeriod l samples) s = .next t ∧ t.node = s.node
            ∧ t.side d
              = { s.side d with
                  counts := { (s.side d).counts with voiceUnreserved := satInc (s.side d).counts.voiceUnreserved } }
            ∧ (t.line l).counts.voiceDropped = satInc (s.line l).counts.voiceDropped)
      ∧ (s.inService d = true → (s.side d).insCall.length < 16 → heldIn (s.table d) id = true → s.poolFree < 16 →
          ∃ t, exec (.voicePackPeriod l samples) s = .next t ∧ t.tiu = s.tiu
            ∧ t.node = { s.node with poolRefusedCall := satInc s.node.poolRefusedCall }
            ∧ (t.line l).counts.voiceDropped = satInc (s.line l).counts.voiceDropped))
    ∧ (∀ samples r id n g w, (s.line l).record = some r → r.direction = none → r.identity = some id →
        findChannel s id = some n → channelAt s n = .localCall id g w →
        (s.gw.toOffice.length < 32 → 16 ≤ s.poolFree →
          ∃ t, exec (.voicePackPeriod l samples) s = .next t ∧ Within [.inHand, .ports, .lines, .gw] s t
            ∧ t.line l = { s.line l with packPeriod := some 4 }
            ∧ t.gw = { s.gw with
                toOffice := s.gw.toOffice
                  ++ [{ makeCell s.station .voice 254 (referenceOf id) (gradeCode r.grade) 0 0 samples with
                        hops := BitVec.ofNat 8 n }] })
        ∧ (32 ≤ s.gw.toOffice.length →
            ∃ t, exec (.voicePackPeriod l samples) s = .next t ∧ Within [.inHand, .ports, .lines] s t
              ∧ (t.line l).counts.voiceDropped = satInc (s.line l).counts.voiceDropped)
        ∧ (s.gw.toOffice.length < 32 → s.poolFree < 16 →
            ∃ t, exec (.voicePackPeriod l samples) s = .next t ∧ Within [.inHand, .ports, .lines, .node] s t
              ∧ t.node = { s.node with poolRefusedCall := satInc s.node.poolRefusedCall }
              ∧ (t.line l).counts.voiceDropped = satInc (s.line l).counts.voiceDropped))
    ∧ (∀ b rest, (s.line l).playout = b :: rest →
        exec (.playoutPeriod l) s
          = .next (s.setLine l { s.line l with playout := rest, playing := .samples b, playPeriod := some 4 }))
    ∧ ((s.line l).playout = [] →
        exec (.playoutPeriod l) s
          = .next (s.setLine l
              { s.line l with
                playing := .silence, playPeriod := some 4
                counts := { (s.line l).counts with playoutUnderrun := satInc (s.line l).counts.playoutUnderrun } }))

/-- R82, R84 to R88: the timers of a record at a node: a retry seeks again or waits again, an ACCIDENT one preempting the
youngest BREAKDOWN entry of a full table (R92), whose own record, if it is one of this node, then waits where the other side
is not VALID; a setup that is not answered, and a silent call, is released and seeks the other way where that side is VALID,
and waits where it is not; the hold on stale answers ends. -/
def Obligations.RecordTimersMoveTheRecord : Prop :=
  ∀ (l : Line) (r : CallRecord) (s : State), s.phonesWork = true →
    ((s.line l).staleHold.isSome = true →
      exec (.staleAnswerHoldExpiry l) s = .next (s.setLine l { s.line l with staleHold := none }))
    ∧ (s.isGateway = false → (s.line l).record = some r → r.timer.isSome = true →
        let id : Identity := { station := s.station, phone := l, serial := (s.line l).nextSerial }
        let waiting : CallRecord := { identity := none, grade := r.grade, state := .waiting, direction := none,
                                      triedUp := false, triedDown := false, timer := some 3000 }
        (r.state = .waiting → r.triedUp = false → r.triedDown = false →
          (s.nearest = none →
            ∃ t, exec (.callRetryTimerExpiry l) s = .next t ∧ (t.line l).record = some waiting ∧ t.srt = s.srt)
          ∧ (∀ d, s.nearest = some d → (s.table d).length < 8 → takesLocal s d .call = true →
              ∃ t, exec (.callRetryTimerExpiry l) s = .next t
                ∧ (t.line l).record = some { identity := some id, grade := r.grade, state := .seeking, direction := some d,
                                             triedUp := false, triedDown := false, timer := some 2000 }
                ∧ t.table d = s.table d
                  ++ [{ identity := id, grade := r.grade, held := false, place := .origin, faces := .gateway, timer := none }])
          ∧ (∀ d e, s.nearest = some d → r.grade = .accident → 8 ≤ (s.table d).length →
              youngestBreakdown (s.table d) = some e →
              (e.place = .path → s.inService d = true → (s.side d).insCall.length + 1 < 16 → 18 ≤ s.poolFree →
                ∃ t, exec (.callRetryTimerExpiry l) s = .next t ∧ t.ccu.preemptions = satInc s.ccu.preemptions
                  ∧ t.ccu.brokenPreempted = satInc (satInc s.ccu.brokenPreempted)
                  ∧ t.table d = tableWithout (s.table d) e.identity ++ [originEntry id .accident]
                  ∧ t.table (otherSide d) = tableWithout (s.table (otherSide d)) e.identity
                  ∧ ∃ x, (t.line l).record = some x ∧ x.state = .seeking ∧ x.direction = some d ∧ x.identity = some id)
              ∧ (∀ x, e.place = .origin → e.identity.phone ≠ l → (s.line e.identity.phone).record = some x →
                  (x.state = .seeking ∨ x.state = .connected) → x.direction = some d → x.identity = some e.identity →
                  (s.entry (otherSide d)).valid = false → takesLocal s d .call = true →
                  ∃ t, exec (.callRetryTimerExpiry l) s = .next t ∧ t.ccu.preemptions = satInc s.ccu.preemptions
                    ∧ t.table d = tableWithout (s.table d) e.identity ++ [originEntry id .accident]
                    ∧ (t.line e.identity.phone).record = some (waitingRecord x.grade)
                    ∧ (t.line e.identity.phone).state = .calling
                    ∧ ∃ y, (t.line l).record = some y ∧ y.state = .seeking ∧ y.direction = some d
                        ∧ y.identity = some id)))
        ∧ (∀ d old, r.state = .seeking → r.direction = some d → r.identity = some old →
            (s.entry (otherSide d)).valid = true → hasTried r (otherSide d) = false →
            (s.table (otherSide d)).length < 8 → takesLocal (s.holding (s.inHand + 1)) (otherSide d) .call = true →
            ∃ t, exec (.setupTimerExpiry l) s = .next t ∧ (t.line l).record = some (soughtOther id r.grade d)
              ∧ t.table d = tableWithout (s.table d) old
              ∧ t.table (otherSide d) = s.table (otherSide d) ++ [originEntry id r.grade]
              ∧ (t.side (otherSide d)).insCall
                = (s.side (otherSide d)).insCall
                  ++ [makeCell s.station .callSetup 254 (referenceOf id) (gradeCode r.grade) 0 0 []])
        ∧ (∀ d old, r.state = .seeking → r.direction = some d → r.identity = some old →
            (s.entry (otherSide d)).valid = false →
            ∃ t, exec (.setupTimerExpiry l) s = .next t ∧ (t.line l).record = some waiting
              ∧ t.table d = tableWithout (s.table d) old ∧ t.table (otherSide d) = s.table (otherSide d)
              ∧ (takesLocal s d .call = true →
                  (t.side d).insCall
                    = (s.side d).insCall
                      ++ [makeCell s.station .callRelease 254 (referenceOf old) (gradeCode r.grade) 0 0 []])))
    ∧ (∀ d id, s.isGateway = false → (s.line l).record = some r → r.state = .connected → r.direction = some d →
        r.identity = some id →
        (s.table d).any (fun e => e.identity == id && e.held && e.timer.isSome) = true →
        ((s.entry (otherSide d)).valid = false →
          ∃ t, exec (.originVoiceWatchExpiry l) s = .next t ∧ (t.line l).state = .calling ∧ (t.line l).playing = .holdTone
            ∧ (∃ w, (t.line l).record = some w ∧ w.state = .waiting ∧ w.grade = r.grade ∧ w.timer = some 3000)
            ∧ t.table d = tableWithout (s.table d) id
            ∧ t.ccu.voiceWatchExpiries = satInc s.ccu.voiceWatchExpiries)
        ∧ ((s.entry (otherSide d)).valid = true → (s.table (otherSide d)).length < 8 →
            takesLocal (s.holding (s.inHand + 1)) (otherSide d) .call = true →
            let new : Identity := { station := s.station, phone := l, serial := (s.line l).nextSerial }
            ∃ t, exec (.originVoiceWatchExpiry l) s = .next t ∧ (t.line l).state = .calling ∧ (t.line l).playing = .holdTone
              ∧ (t.line l).record = some (soughtOther new r.grade d)
              ∧ t.table d = tableWithout (s.table d) id
              ∧ t.table (otherSide d) = s.table (otherSide d) ++ [originEntry new r.grade]
              ∧ t.ccu.voiceWatchExpiries = satInc s.ccu.voiceWatchExpiries))

/-- R80, R85, R86, R88: at the origin a CALL-ACCEPT of the call sought connects it, the first playout period finding the
buffer empty; a CALL-RELEASE clears it; a CALL-REFUSE or CALL-BROKEN makes it seek the other way where that side is VALID,
and wait where it is not; a VOICE is played out and restarts the watch. A stale ACCEPT or VOICE is answered out of its
arrival side with CALL-RELEASE, once in 500 ms, and the other stale cells are discarded. An arrival's own buffer is in hand
when an answer or a new setup is offered (log 7). -/
def Obligations.OriginTakesItsCells : Prop :=
  (∀ (p : Port) (c : CellData) (r : CallRecord) (d : Side) (s : State),
    let id := callOf c
    let l := id.phone
    let new : Identity := { station := s.station, phone := l, serial := (s.line l).nextSerial }
    endsHere s c = true → (s.line l).record = some r → r.direction = some d → r.identity = some id →
    (r.state = .seeking → cellGranted s p (cellOf .callAccept c) = true →
      ∃ t, exec (.callAccept p c) s = .next t ∧ Within [.inHand, .ports, .srt, .lines] s t
        ∧ (t.line l).state = .talk ∧ (t.line l).record = some { r with state := .connected, timer := none }
        ∧ (t.line l).counts.callsConnected = satInc (s.line l).counts.callsConnected
        ∧ ((s.line l).playout = [] →
            (t.line l).playing = .silence ∧ (t.line l).playPeriod = some 4 ∧ (t.line l).packPeriod = some 4
              ∧ (t.line l).counts.playoutUnderrun = satInc (s.line l).counts.playoutUnderrun)
        ∧ t.table d
          = (s.table d).map (fun e => if e.identity = id then { e with held := true, timer := some 3000 } else e))
    ∧ ((r.state = .seeking ∨ r.state = .connected) → cellGranted s p (cellOf .callRelease c) = true →
        ∃ t, exec (.callRelease p c) s = .next t ∧ Within [.inHand, .ports, .srt, .lines] s t
          ∧ (t.line l).state = .cleared ∧ (t.line l).playing = .busyTone ∧ (t.line l).record = none
          ∧ t.table d = tableWithout (s.table d) id)
    ∧ (r.state = .seeking → cellGranted s p (cellOf .callRefuse c) = true → (s.entry (otherSide d)).valid = false →
        ∃ t, exec (.callRefuse p c) s = .next t ∧ t.table d = tableWithout (s.table d) id
          ∧ ∃ w, (t.line l).record = some w ∧ w.state = .waiting ∧ w.grade = r.grade ∧ w.timer = some 3000)
    ∧ (r.state = .seeking → cellGranted s p (cellOf .callRefuse c) = true → (s.entry (otherSide d)).valid = true →
        hasTried r (otherSide d) = false → (s.table (otherSide d)).length < 8 →
        takesLocal (grantedState s) (otherSide d) .call = true →
        ∃ t, exec (.callRefuse p c) s = .next t ∧ (t.line l).record = some (soughtOther new r.grade d)
          ∧ t.table d = tableWithout (s.table d) id
          ∧ t.table (otherSide d) = s.table (otherSide d) ++ [originEntry new r.grade]
          ∧ (t.side (otherSide d)).insCall
            = (s.side (otherSide d)).insCall
              ++ [makeCell s.station .callSetup 254 (referenceOf new) (gradeCode r.grade) 0 0 []])
    ∧ ((r.state = .seeking ∨ r.state = .connected) → cellGranted s p (cellOf .callBroken c) = true →
        (s.entry (otherSide d)).valid = true → (s.table (otherSide d)).length < 8 →
        takesLocal (grantedState s) (otherSide d) .call = true →
        ∃ t, exec (.callBroken p c) s = .next t ∧ (t.line l).state = .calling ∧ (t.line l).playing = .holdTone
          ∧ (t.line l).record = some (soughtOther new r.grade d)
          ∧ (t.line l).counts.callAttempts = satInc (s.line l).counts.callAttempts
          ∧ t.table d = tableWithout (s.table d) id
          ∧ t.table (otherSide d) = s.table (otherSide d) ++ [originEntry new r.grade])
    ∧ ((r.state = .seeking ∨ r.state = .connected) → cellGranted s p (cellOf .callBroken c) = true →
        (s.entry (otherSide d)).valid = false →
        ∃ t, exec (.callBroken p c) s = .next t ∧ t.table d = tableWithout (s.table d) id
          ∧ (t.line l).state = .calling ∧ (t.line l).playing = .holdTone
          ∧ ∃ w, (t.line l).record = some w ∧ w.state = .waiting ∧ w.grade = r.grade ∧ w.timer = some 3000)
    ∧ (r.state = .connected → cellGranted s p (cellOf .voice c) = true →
        ∃ t, exec (.voice p c) s = .next t ∧ Within [.inHand, .ports, .srt, .lines] s t
          ∧ t.table d
            = (s.table d).map (fun e => if e.identity = id ∧ e.held = true then { e with timer := some 3000 } else e)
          ∧ (t.line l).playout
            = (if 4 ≤ (s.line l).playout.length then (s.line l).playout.drop 1 else (s.line l).playout)
              ++ [payloadBytes c 32]))
  ∧ ∀ (p : Port) (c : CellData) (s : State),
    let a := s.sideOf p
    let id := callOf c
    let l := id.phone
    endsHere s c = true →
    (∀ r, (s.line l).record = some r → r.identity = some id → r.state ≠ .seeking ∧ r.state ≠ .connected) →
    (∀ i k, (i, k) ∈ [(Instr.callAccept p c, Kind.callAccept), (.voice p c, .voice)] → cellGranted s p (cellOf k c) = true →
      ((s.line l).staleHold = none →
        ∃ t, exec i s = .next t ∧ Within [.inHand, .ports, .node, .tiu, .lines, .ccu] s t
          ∧ t.line l
            = { s.line l with
                staleHold := some 500
                counts := { (s.line l).counts with staleAnswered := satInc (s.line l).counts.staleAnswered } }
          ∧ (takesLocal (grantedState s) a .call = true →
              (t.side a).insCall
                = (s.side a).insCall ++ [makeCell s.station .callRelease c.origin (referenceOf id) 0 0 0 []]))
      ∧ ((s.line l).staleHold.isSome = true →
          ∃ t, exec i s = .next t ∧ Within [.inHand, .ports] s t ∧ t.inHand = 0))
    ∧ (∀ i k, (i, k) ∈ [(Instr.callRefuse p c, Kind.callRefuse), (.callRelease p c, .callRelease),
          (.callBroken p c, .callBroken)] → cellGranted s p (cellOf k c) = true →
        ∃ t, exec i s = .next t ∧ Within [.inHand, .ports] s t ∧ t.inHand = 0)

/-! ## Call circuits: the gateway end -/

/-- R180, R181: a CALL-SETUP at the gateway with a free channel, room for the notice and room in the inner table takes
the channel of lowest number, is answered CALL-ACCEPT, and goes to the office as its notice. One that fails a test is
answered CALL-REFUSE with the reason of the first that decides, carrying its own grade byte (log 17); an ACCIDENT one at a
full inner table preempts the youngest BREAKDOWN call (R183), whose channel becomes FREE and whose end the origin and the
office learn. The setup's own buffer is still in hand when the answer is offered (log 7), and the notice of the preempted
call is targeted ANY-GATEWAY (log 30). -/
def Obligations.GatewaySetupTakesAChannel : Prop :=
  (∀ (p : Port) (c : CellData) (n : Nat) (s : State),
    let id := callOf c
    gatewayEnds s c = true → cellGranted s p (cellOf .callSetup c) = true →
    findChannel s id = none → namesCall (s.table s.inner) id = false → freeChannel s = some n →
    s.gw.toOffice.length < 32 → (s.table s.inner).length < 8 →
    ∃ t, exec (.callSetup p c) s = .next t ∧ t.inHand = 0
      ∧ t.table s.inner = s.table s.inner
        ++ [{ identity := id, grade := gradeOf c.aux6, held := true, place := .gateway, faces := .origin, timer := some 3000 }]
      ∧ t.gw.channels = s.gw.channels.set n (.chain id (gradeOf c.aux6))
      ∧ t.gw.toOffice = s.gw.toOffice ++ [{ cellOf .callSetup c with hops := BitVec.ofNat 8 n }]
      ∧ t.gw.counts.callsTerminated = satInc s.gw.counts.callsTerminated
      ∧ (takesLocal (grantedState s) s.inner .call = true →
          (t.side s.inner).insCall
            = (s.side s.inner).insCall
              ++ [makeCell s.station .callAccept id.station (referenceOf id) (gradeCode (gradeOf c.aux6)) 0 0 []]))
  ∧ ∀ (p : Port) (c : CellData) (s : State),
    let id := callOf c
    let d := s.inner
    let named := (findChannel s id).isSome = true ∨ namesCall (s.table d) id = true
    let preempts := 8 ≤ (s.table d).length ∧ gradeOf c.aux6 = .accident ∧ youngestBreakdown (s.table d) ≠ none
    let noPlace := freeChannel s = none ∨ 32 ≤ s.gw.toOffice.length ∨ (31 ≤ s.gw.toOffice.length ∧ preempts)
    let refused := fun (reason : Byte) (n : CcuCounts) =>
      ∃ t, exec (.callSetup p c) s = .next t ∧ Within [.inHand, .ports, .node, .tiu, .ccu] s t ∧ t.inHand = 0
        ∧ (takesLocal (grantedState s) d .call = true →
            t.ccu = n
              ∧ (t.side d).insCall
                = (s.side d).insCall ++ [makeCell s.station .callRefuse id.station (referenceOf id) c.aux6 reason 0 []])
    gatewayEnds s c = true → cellGranted s p (cellOf .callSetup c) = true →
    (named → refused 4 { s.ccu with refusesDuplicate := satInc s.ccu.refusesDuplicate })
    ∧ (¬ named → noPlace → refused 2 { s.ccu with refusesOfficeFull := satInc s.ccu.refusesOfficeFull })
    ∧ (¬ named → ¬ noPlace → 8 ≤ (s.table d).length → ¬ preempts →
        refused 1 { s.ccu with refusesSpanFull := satInc s.ccu.refusesSpanFull })
    ∧ (∀ e m n, ¬ named → ¬ noPlace → preempts → youngestBreakdown (s.table d) = some e →
        findChannel s e.identity = some m → freeChannel (setChannel s m .free) = some n → 16 ≤ (s.holding 2).poolFree →
        ∃ t, exec (.callSetup p c) s = .next t ∧ t.inHand = 0
          ∧ t.table d = tableWithout (s.table d) e.identity
            ++ [{ identity := id, grade := .accident, held := true, place := .gateway, faces := .origin,
                  timer := some 3000 }]
          ∧ t.gw.channels = (s.gw.channels.set m .free).set n (.chain id .accident)
          ∧ t.gw.toOffice = s.gw.toOffice
            ++ [{ makeCell s.station .callBroken 254 (referenceOf e.identity) (gradeCode e.grade) 6 0 [] with
                  hops := BitVec.ofNat 8 m },
                { cellOf .callSetup c with hops := BitVec.ofNat 8 n }]
          ∧ t.ccu.preemptions = satInc s.ccu.preemptions ∧ t.ccu.brokenPreempted = satInc s.ccu.brokenPreempted
          ∧ t.gw.counts.callsTerminated = satInc s.gw.counts.callsTerminated
          ∧ (takesLocal (grantedState s) d .call = true →
              ∃ more, (t.side d).insCall
                = (s.side d).insCall
                  ++ makeCell s.station .callBroken e.identity.station (referenceOf e.identity) (gradeCode e.grade) 6 0 []
                    :: more))

/-- R83, R86, R182 to R184: the end, the upgrade and the voice of a CHAIN call at the gateway, and the two voice watches; that
of a LOCAL call gives the office its CALL-BROKEN(LOST) notice and asks at once for a channel for a new attempt, which is
granted where there is room for its notice too, and waits where there is none; a record with direction none, as R83
gives every call of a gateway's own phone, has then tried nothing. The grade a notice carries is the channel's, and the
target of one made here is ANY-GATEWAY (log 30). -/
def Obligations.GatewayCallsEndUpgradeAndSpeak : Prop :=
  (∀ (p : Port) (c : CellData) (n : Nat) (g : Grade) (s : State),
    let id := callOf c
    gatewayEnds s c = true → findChannel s id = some n → channelAt s n = .chain id g → s.gw.toOffice.length < 32 →
    (∀ i k, (i, k) ∈ [(Instr.callRelease p c, Kind.callRelease), (.callBroken p c, .callBroken)] →
      cellGranted s p (cellOf k c) = true →
      ∃ t, exec i s = .next t ∧ Within [.inHand, .ports, .srt, .gw] s t
        ∧ t.table s.inner = tableWithout (s.table s.inner) id ∧ t.gw.channels = s.gw.channels.set n .free
        ∧ t.gw.toOffice = s.gw.toOffice ++ [{ cellOf k c with hops := BitVec.ofNat 8 n, aux6 := gradeCode g }])
    ∧ (cellGranted s p (cellOf .callUpgrade c) = true →
        ∃ t, exec (.callUpgrade p c) s = .next t ∧ Within [.inHand, .ports, .srt, .gw] s t
          ∧ t.table s.inner
            = (s.table s.inner).map (fun e => if e.identity = id then { e with grade := .accident } else e)
          ∧ t.gw.channels = s.gw.channels.set n (.chain id .accident)
          ∧ t.gw.toOffice = s.gw.toOffice ++ [{ cellOf .callUpgrade c with hops := BitVec.ofNat 8 n, aux6 := 1 }])
    ∧ (cellGranted s p (cellOf .voice c) = true →
        ∃ t, exec (.voice p c) s = .next t ∧ Within [.inHand, .ports, .srt, .gw] s t
          ∧ t.table s.inner
            = (s.table s.inner).map (fun e => if e.identity = id ∧ e.held = true then { e with timer := some 3000 } else e)
          ∧ t.gw.channels = s.gw.channels
          ∧ t.gw.toOffice
            = s.gw.toOffice ++ [{ cellOf .voice c with hops := BitVec.ofNat 8 n, aux6 := gradeCode g }]))
  ∧ (∀ (id : Identity) (e : SrtEntry) (n : Nat) (s : State), s.gatewayWorks = true → watchedGatewayEntry s id = some e →
      findChannel s id = some n →
      ∃ t, exec (.gatewayVoiceWatchExpiry id) s = .next t ∧ t.table s.inner = tableWithout (s.table s.inner) id
        ∧ t.gw.channels = s.gw.channels.set n .free ∧ t.ccu.voiceWatchExpiries = satInc s.ccu.voiceWatchExpiries
        ∧ (takesLocal s s.inner .call = true →
            (t.side s.inner).insCall
              = (s.side s.inner).insCall
                ++ [makeCell s.station .callRelease id.station (referenceOf id) (gradeCode e.grade) 0 0 []]))
  ∧ ∀ (l : Line) (r : CallRecord) (id : Identity) (n : Nat) (g : Grade) (w : Timer) (s : State), s.gatewayWorks = true →
      (s.line l).record = some r → r.state = .connected → r.identity = some id → findChannel s id = some n →
      channelAt s n = .localCall id g w →
      let next : Identity := { station := s.station, phone := l, serial := (s.line l).nextSerial }
      let broken := { makeCell s.station .callBroken 254 (referenceOf id) (gradeCode g) 7 0 [] with hops := BitVec.ofNat 8 n }
      let waits := fun (t : State) =>
        t.gw.channels = s.gw.channels.set n .free ∧ (t.line l).state = .calling ∧ (t.line l).playing = .holdTone
          ∧ (∃ x, (t.line l).record = some x ∧ x.state = .waiting ∧ x.timer = some 3000)
          ∧ t.ccu.voiceWatchExpiries = satInc s.ccu.voiceWatchExpiries
          ∧ t.ccu.refusesOfficeFull = satInc s.ccu.refusesOfficeFull
      (32 ≤ s.gw.toOffice.length →
        ∃ t, exec (.localVoiceWatchExpiry l) s = .next t ∧ waits t ∧ t.gw.toOffice = s.gw.toOffice
          ∧ t.gw.counts.noticesLost = satInc s.gw.counts.noticesLost)
      ∧ (s.gw.toOffice.length < 32 → 16 ≤ s.poolFree → (s.gw.toOffice.length = 31 ∨ s.poolFree = 16) →
          ∃ t, exec (.localVoiceWatchExpiry l) s = .next t ∧ waits t ∧ t.gw.toOffice = s.gw.toOffice ++ [broken]
            ∧ t.gw.counts.noticesLost = s.gw.counts.noticesLost)
      ∧ (s.gw.toOffice.length < 32 → s.poolFree < 16 →
          ∃ t, exec (.localVoiceWatchExpiry l) s = .next t ∧ waits t ∧ t.gw.toOffice = s.gw.toOffice
            ∧ t.gw.counts.noticesLost = satInc s.gw.counts.noticesLost)
      ∧ (∀ m, s.gw.toOffice.length < 31 → 17 ≤ s.poolFree → freeChannel (setChannel s n .free) = some m →
          ∃ t, exec (.localVoiceWatchExpiry l) s = .next t
            ∧ t.gw.channels = (s.gw.channels.set n .free).set m (.localCall next r.grade (some 3000))
            ∧ t.gw.toOffice
              = s.gw.toOffice
                ++ [broken,
                    { makeCell s.station .callSetup 254 (referenceOf next) (gradeCode r.grade) 0 0 [] with
                      hops := BitVec.ofNat 8 m }]
            ∧ (t.line l).state = .talk
            ∧ (∃ x, (t.line l).record = some x ∧ x.identity = some next ∧ x.grade = r.grade ∧ x.state = .connected
                ∧ x.direction = none ∧ x.timer = none
                ∧ (r.direction = none → x.triedUp = false ∧ x.triedDown = false))
            ∧ t.gw.counts.callsTerminated = satInc s.gw.counts.callsTerminated
            ∧ t.ccu.voiceWatchExpiries = satInc s.ccu.voiceWatchExpiries)

/-! ## Gantry line and custody -/

/-- R102 to R104, R110: characters and breaks go to the receive FIFO, which loses what finds it full; the transmitter sends
the flow place first, then the oldest answer, and a held answer takes the place that frees. -/
def Obligations.GantryLineReceivesAndAnswers : Prop :=
  ∀ s : State, s.gantryWorks = true →
    (s.gli.lineBreak = false →
      (∀ value parityBit stopBit, ¬ (value = 0 ∧ parityBit = false ∧ stopBit = false) →
        ∃ t, exec (.characterReceived value parityBit stopBit) s = .next t ∧ Within [.gli] s t
          ∧ t.gli.counts.charsReceived = satInc s.gli.counts.charsReceived
          ∧ t.gli.counts.framingErrors
            = (if stopBit then s.gli.counts.framingErrors else satInc s.gli.counts.framingErrors)
          ∧ (s.gli.fifo.length < 64 →
              t.gli.fifo = s.gli.fifo
                ++ [{ value := value, parity := parityOdd value parityBit, framing := !stopBit, brk := false,
                      overrun := s.gli.lossPending }]
              ∧ t.gli.lossPending = false)
          ∧ (64 ≤ s.gli.fifo.length →
              t.gli.fifo = s.gli.fifo ∧ t.gli.lossPending = true
                ∧ t.gli.counts.overruns = satInc s.gli.counts.overruns))
      ∧ ∃ t, exec .breakDetected s = .next t ∧ Within [.gli] s t ∧ t.gli.lineBreak = true
          ∧ t.gli.counts.breaks = satInc s.gli.counts.breaks
          ∧ (s.gli.fifo.length < 64 →
              t.gli.fifo = s.gli.fifo
                ++ [{ value := 0, parity := false, framing := false, brk := true, overrun := s.gli.lossPending }]))
    ∧ exec .breakEnd s = .next { s with gli := { s.gli with lineBreak := false } }
    ∧ (∀ f, s.gli.flowPlace = some f →
        ∃ t, exec .transmitControlCharacter s = .next t ∧ Within [.gli] s t ∧ t.gli.flowPlace = none
          ∧ t.gli.txChar = some (match f with | .xon => 0x11 | .xoff => 0x13) ∧ t.gli.answers = s.gli.answers)
    ∧ (∀ a rest, s.gli.flowPlace = none → s.gli.answers = a :: rest → s.gli.answers.length ≤ 7 →
        ∃ t, exec .transmitControlCharacter s = .next t ∧ Within [.gli] s t
          ∧ t.gli.txChar = some (match a with | .ack => 0x06 | .nak => 0x15) ∧ t.gli.heldAnswer = none
          ∧ t.gli.answers = rest ++ s.gli.heldAnswer.toList)
    ∧ (s.gli.flowPlace = none → s.gli.answers = [] →
        exec .transmitControlCharacter s = .next { s with gli := { s.gli with txChar := none } })

/-- R105 to R109: what the assembler makes of the character at the FIFO head: an SOR begins a record, in a record too; a
break ends it; twenty body characters stand; the check judges them, a good one being written where the store has room. -/
def Obligations.AssemblerBuildsRecords : Prop :=
  ∀ (c : FifoChar) (rest : List FifoChar) (s : State), s.gantryWorks = true → s.gli.heldAnswer = none →
    s.gli.fifo = c :: rest →
    let sor := c.value = 0x1C ∧ c.parity = false ∧ c.framing = false ∧ c.brk = false
    let bad := c.parity = true ∨ c.framing = true ∨ c.overrun = true
    (s.gli.assembler = .hunt →
      ∃ t, exec .assemblerTakeCharacter s = .next t ∧ Within [.gli] s t
        ∧ t.gli = { s.gli with fifo := rest, assembler := t.gli.assembler }
        ∧ (sor → t.gli.assembler = .assemble [] false) ∧ (¬ sor → t.gli.assembler = .hunt))
    ∧ ∀ body damaged, s.gli.assembler = .assemble body damaged →
        (sor → ∃ t, exec .assemblerTakeCharacter s = .next t ∧ Within [.gli] s t
          ∧ t.gli
            = { s.gli with
                fifo := rest, assembler := .assemble [] false
                counts := { s.gli.counts with recordsTruncated := satInc s.gli.counts.recordsTruncated } })
        ∧ (c.brk = true → ∃ t, exec .assemblerTakeCharacter s = .next t ∧ Within [.gli] s t
          ∧ t.gli
            = { s.gli with
                fifo := rest, assembler := .hunt
                counts := { s.gli.counts with recordsBroken := satInc s.gli.counts.recordsBroken } })
        ∧ (¬ sor → c.brk = false → body.length < 20 →
          ∃ t, exec .assemblerTakeCharacter s = .next t ∧ Within [.gli] s t
            ∧ t.gli = { s.gli with fifo := rest, assembler := t.gli.assembler }
            ∧ ∃ d, t.gli.assembler = .assemble (body ++ [c.value]) d
                ∧ (d = true ↔ damaged = true ∨ bad ∨ c.value.toNat < 0x20 ∨ 0x7E < c.value.toNat))
        ∧ (¬ sor → c.brk = false → 20 ≤ body.length →
          let good := damaged = false ∧ ¬ bad ∧ ((body.map BitVec.toNat).sum + c.value.toNat) % 256 = 0
          let taken := s.csd.store.length < 256 ∧ findEntry s s.csd.nextSeq = none
          ∃ t, exec .assemblerTakeCharacter s = .next t ∧ Within [.gli] s t ∧ t.gli.fifo = rest
            ∧ (good → taken → t.gli.assembler = .write body ∧ t.gli.answers = s.gli.answers)
            ∧ (¬ (good ∧ taken) → t.gli.assembler = .hunt
                ∧ (s.gli.answers.length < 7 → t.gli.answers = s.gli.answers ++ [.nak] ∧ t.gli.heldAnswer = none)
                ∧ (7 ≤ s.gli.answers.length → t.gli.answers = s.gli.answers ∧ t.gli.heldAnswer = some .nak))
            ∧ (¬ good → t.gli.counts.recordsDamaged = satInc s.gli.counts.recordsDamaged)
            ∧ (good → 256 ≤ s.csd.store.length → t.gli.counts.recordsFull = satInc s.gli.counts.recordsFull)
            ∧ (good → s.csd.store.length < 256 → findEntry s s.csd.nextSeq ≠ none →
                t.gli.counts.sequenceHeld = satInc s.gli.counts.sequenceHeld))

/-- R109, R111, R114: a store write that completes adds the record as the newest entry under the next sequence, evaluates
the flow state and answers ACK. -/
def Obligations.StoreWriteAddsTheRecord : Prop :=
  ∀ (body : List Byte) (s : State), s.gantryWorks = true → s.gli.assembler = .write body →
    ∃ t, exec .storeWriteComplete s = .next t
      ∧ t.csd.store.map (fun e => (e.sequence, e.body))
        = s.csd.store.map (fun e => (e.sequence, e.body)) ++ [(s.csd.nextSeq, body)]
      ∧ t.csd.nextSeq = s.csd.nextSeq + 1
      ∧ t.csd.counts.recordsStored = satInc s.csd.counts.recordsStored
      ∧ t.gli.assembler = .hunt
      ∧ (s.gli.answers.length < 7 → t.gli.answers = s.gli.answers ++ [.ack])
      ∧ (7 ≤ s.gli.answers.length → t.gli.heldAnswer = some .ack)
      ∧ (240 ≤ s.csd.store.length + 1 → t.gli.flowStopped = true
          ∧ (s.gli.flowStopped = false → t.gli.flowPlace = some .xoff))
      ∧ (s.gli.flowStopped = false → s.csd.store.length + 1 < 240 → t.gli.flowStopped = false)

/-- R116 to R118, R120, R123: a dispatch offers the oldest QUEUED entry toward the nearest gateway, or, after four
unanswered transmissions one way, toward the other VALID side, and an entry whose cell is taken becomes DISPATCHING; a
refusal, whatever refuses, leaves it QUEUED and starts the dispatch timer; a retry expiry makes a SENT entry QUEUED again; a
TOLL-ACK removes the entry it names, and is late when there is none. -/
def Obligations.CustodyIsDispatchedRetriedAndEnded : Prop :=
  (∀ (e : CustodyEntry) (d : Side) (s : State), s.gantryWorks = true → s.csd.dispatchTimer.isSome = true →
    inFlight s.csd.store < 16 → oldestQueued s.csd.store = some e → switchSide s e = none → s.nearest = some d →
    (takesLocal s d .toll = true →
      ∃ t more, exec .dispatchTimerExpiry s = .next t
        ∧ (t.side d).insToll
          = (s.side d).insToll
            ++ makeCell s.station .tollRecord 254 e.sequence 0 0 (if e.attempts = 0 then 0 else 4) e.body :: more
        ∧ (∃ x ∈ t.csd.store, x.sequence = e.sequence ∧ x.body = e.body)
        ∧ (∀ x ∈ t.csd.store, x.sequence = e.sequence → x.state = .dispatching d))
    ∧ (s.inService d = false →
        ∃ t, exec .dispatchTimerExpiry s = .next t ∧ t.tiu = s.tiu ∧ t.csd.store = s.csd.store
          ∧ t.csd.dispatchTimer = some 100 ∧ t.csd.counts.dispatchRefused = satInc s.csd.counts.dispatchRefused)
    ∧ (s.inService d = true → 16 ≤ (s.side d).insToll.length →
        ∃ t, exec .dispatchTimerExpiry s = .next t ∧ t.node = s.node ∧ t.csd.store = s.csd.store
          ∧ t.csd.dispatchTimer = some 100 ∧ t.csd.counts.dispatchRefused = satInc s.csd.counts.dispatchRefused
          ∧ t.side d
            = { s.side d with
                counts := { (s.side d).counts with queueRefusedToll := satInc (s.side d).counts.queueRefusedToll } })
    ∧ (s.inService d = true → (s.side d).insToll.length < 16 → s.poolFree < 64 →
        ∃ t, exec .dispatchTimerExpiry s = .next t ∧ t.tiu = s.tiu ∧ t.csd.store = s.csd.store
          ∧ t.csd.dispatchTimer = some 100 ∧ t.csd.counts.dispatchRefused = satInc s.csd.counts.dispatchRefused
          ∧ t.node = { s.node with poolRefusedToll := satInc s.node.poolRefusedToll }))
  ∧ (∀ (e : CustodyEntry) (d : Side) (s : State), s.gantryWorks = true → s.csd.dispatchTimer.isSome = true →
      inFlight s.csd.store < 16 → oldestQueued s.csd.store = some e → e.lastDirection = some d → e.sameDirection = 4 →
      (s.entry (otherSide d)).valid = true → takesLocal s (otherSide d) .toll = true →
      ∃ t more, exec .dispatchTimerExpiry s = .next t
        ∧ (t.side (otherSide d)).insToll
          = (s.side (otherSide d)).insToll
            ++ makeCell s.station .tollRecord 254 e.sequence 0 0 (if e.attempts = 0 then 0 else 4) e.body :: more
        ∧ (∀ x ∈ t.csd.store, x.sequence = e.sequence → x.state = .dispatching (otherSide d) ∧ x.sameDirection = 0)
        ∧ (inFlight s.csd.store = 15 →
            t.csd.counts.directionSwitches = satInc s.csd.counts.directionSwitches
              ∧ t.csd.counts.tollDispatches = satInc s.csd.counts.tollDispatches))
  ∧ (∀ (e : CustodyEntry) (s : State), s.gantryWorks = true → findEntry s e.sequence = some e → e.state = .sent →
      e.retry.isSome = true →
      ∃ t, exec (.custodyRetryExpiry e.sequence) s = .next t
        ∧ t.csd.counts.retryExpiries = satInc s.csd.counts.retryExpiries
        ∧ ((∀ d, (s.entry d).valid = false) →
            t.csd.store = s.csd.store.map (fun x =>
              if x.sequence = e.sequence then { x with state := .queued, retry := none } else x)))
  ∧ ∀ (p : Port) (c : CellData) (s : State), cellGranted s p (cellOf .tollAck c) = true → c.target = s.station →
      (gantryFitted s.straps = true → ∀ e, findEntry s c.reference = some e →
        ∃ t, exec (.tollAck p c) s = .next t
          ∧ t.csd.store.map (fun x => (x.sequence, x.body))
            = (s.csd.store.filter (fun x => x.sequence != c.reference)).map (fun x => (x.sequence, x.body))
          ∧ t.csd.counts.acksTaken = satInc s.csd.counts.acksTaken)
      ∧ (gantryFitted s.straps = true → findEntry s c.reference = none →
        ∃ t, exec (.tollAck p c) s = .next t ∧ Within [.inHand, .ports, .csd] s t
          ∧ t.csd = { s.csd with counts := { s.csd.counts with lateAck := satInc s.csd.counts.lateAck } })
      ∧ (gantryFitted s.straps = false →
        ∃ t, exec (.tollAck p c) s = .next t ∧ Within [.inHand, .ports, .node] s t
          ∧ t.node = { s.node with noConsumer := satInc s.node.noConsumer })

/-- R176 to R179: a TOLL-RECORD at the gateway: a first record of a station is passed on and opens its window, one
inside the window sets its flag and moves the base past the set flags, one ahead of it slides the window first and counts
what is skipped, one behind it or already flagged is answered and not passed, and a full office queue refuses a record that
would be passed and changes nothing else. Where a cell is not passed on its buffer is returned before the answer is offered (log 7). -/
def Obligations.GatewayAcceptsTollOnce : Prop :=
  ∀ (p : Port) (c : CellData) (s : State),
    let a := s.sideOf p
    let ack := makeCell s.station .tollAck c.origin c.reference 0 0 0 []
    s.isGateway = true → (c.target = s.station ∨ c.target = 254) → cellGranted s p (cellOf .tollRecord c) = true →
    (acceptanceOf s c.origin = none → s.gw.toOffice.length < 32 →
      ∃ t, exec (.tollRecord p c) s = .next t
        ∧ t.gw.toOffice = s.gw.toOffice ++ [{ cellOf .tollRecord c with hops := 0 }]
        ∧ t.gw.acceptance = s.gw.acceptance ++ [{ station := c.origin, base := c.reference + 1, flags := 0 }]
        ∧ t.gw.counts.tollPassed = satInc s.gw.counts.tollPassed
        ∧ (takesLocal (grantedState s) a .toll = true → (t.side a).insToll = (s.side a).insToll ++ [ack]))
    ∧ (∀ e, acceptanceOf s c.origin = some e → (c.reference - e.base).toNat < 32 →
        e.flags.getLsbD (c.reference - e.base).toNat = false → s.gw.toOffice.length < 32 →
        ∃ t x, exec (.tollRecord p c) s = .next t
          ∧ t.gw.toOffice = s.gw.toOffice ++ [{ cellOf .tollRecord c with hops := 0 }]
          ∧ acceptanceOf t c.origin = some x
          ∧ advancedTo e (e.flags ||| BitVec.ofNat 32 (2 ^ (c.reference - e.base).toNat)) x
          ∧ t.gw.counts.tollPassed = satInc s.gw.counts.tollPassed
          ∧ t.gw.counts.windowSlides = s.gw.counts.windowSlides
          ∧ (takesLocal (grantedState s) a .toll = true → (t.side a).insToll = (s.side a).insToll ++ [ack]))
    ∧ (∀ e, acceptanceOf s c.origin = some e → 32 ≤ (c.reference - e.base).toNat →
        (c.reference - e.base).toNat < 32768 → s.gw.toOffice.length < 32 →
        let k := (c.reference - e.base).toNat - 31
        ∃ t x, exec (.tollRecord p c) s = .next t
          ∧ t.gw.toOffice = s.gw.toOffice ++ [{ cellOf .tollRecord c with hops := 0 }]
          ∧ acceptanceOf t c.origin = some x
          ∧ advancedTo { e with base := e.base + BitVec.ofNat 16 k } (e.flags >>> k ||| BitVec.ofNat 32 (2 ^ 31)) x
          ∧ t.gw.counts.tollPassed = satInc s.gw.counts.tollPassed
          ∧ t.gw.counts.windowSlides = satInc s.gw.counts.windowSlides
          ∧ t.gw.counts.windowSkipped.toNat
            = min 65535 (s.gw.counts.windowSkipped.toNat
                + ((List.range (min k 32)).filter (fun i => !e.flags.getLsbD i)).length + (k - 32))
          ∧ (takesLocal (grantedState s) a .toll = true → (t.side a).insToll = (s.side a).insToll ++ [ack]))
    ∧ (∀ e, acceptanceOf s c.origin = some e →
        (32768 ≤ (c.reference - e.base).toNat
          ∨ ((c.reference - e.base).toNat < 32 ∧ e.flags.getLsbD (c.reference - e.base).toNat = true)) →
        ∃ t, exec (.tollRecord p c) s = .next t ∧ t.gw.toOffice = s.gw.toOffice ∧ t.gw.acceptance = s.gw.acceptance
          ∧ t.gw.counts.tollDuplicates = satInc s.gw.counts.tollDuplicates
          ∧ (takesLocal (s.holding 0) a .toll = true → (t.side a).insToll = (s.side a).insToll ++ [ack]))
    ∧ ((∀ e, acceptanceOf s c.origin = some e → (c.reference - e.base).toNat < 32768
          ∧ ((c.reference - e.base).toNat < 32 → e.flags.getLsbD (c.reference - e.base).toNat = false)) →
        32 ≤ s.gw.toOffice.length →
        ∃ t, exec (.tollRecord p c) s = .next t ∧ Within [.inHand, .ports, .gw] s t
          ∧ t.gw = { s.gw with counts := { s.gw.counts with tollOfficeFull := satInc s.gw.counts.tollOfficeFull } })

/-! ## Sign -/

/-- R8, R9, R130 to R133: a SIGN command consumed here waits its turn with its arrival side, or counts NO-CONSUMER; the
SIGN-WINDOW and the SIGN-PIXELS at the head are tested, set the window and begin the write, or are answered BAD-WINDOW.
What a cell targeted ALL does at a NODE is DataCellsArePassedOnOrCounted. -/
def Obligations.SignCommandsWaitAndSetTheWindow : Prop :=
  (∀ (p : Port) (k : SignCommand) (c : CellData) (s : State), cellGranted s p (cellOf (signKind k) c) = true →
    consumedHere s c.target = true →
    (signFitted s.straps = true →
      ∃ t, exec (.signCommandConsumed p k c) s = .next t ∧ Within [.inHand, .ports, .sps] s t ∧ t.inHand = 0
        ∧ t.sps = { s.sps with waiting := s.sps.waiting ++ [{ cell := cellOf (signKind k) c, side := some (s.sideOf p) }] })
    ∧ (signFitted s.straps = false →
        ∃ t, exec (.signCommandConsumed p k c) s = .next t ∧ Within [.inHand, .ports, .node] s t
          ∧ t.node = { s.node with noConsumer := satInc s.node.noConsumer }))
  ∧ ∀ (x : SignTask) (rest : List SignTask) (s : State), s.signWorks = true → s.sps.job = none → s.sps.waiting = x :: rest →
      let c0 := (payloadByte x.cell.toCellData 0).toNat
      let c1 := (payloadByte x.cell.toCellData 1).toNat
      let r0 := (payloadByte x.cell.toCellData 2).toNat
      let r1 := (payloadByte x.cell.toCellData 3).toNat
      let window := x.cell.length = 4 ∧ x.cell.aux7.toNat ≤ 3 ∧ c0 ≤ c1 ∧ c1 ≤ 127 ∧ r0 ≤ r1 ∧ r1 ≤ 31
      let n := 256 * x.cell.aux6.toNat + x.cell.aux7.toNat
      let pixels := 1 ≤ n ∧ n ≤ 192 ∧ (n + 3) / 4 ≤ x.cell.length.toNat
      (x.cell.kind = .signWindow →
        ∃ t m, exec .signWindow s = .next t ∧ m.signCommands = satInc s.sps.counts.signCommands
          ∧ (window →
              t.sps
                = { s.sps with
                    winPage := x.cell.aux7.toNat, c0 := c0, c1 := c1, r0 := r0, r1 := r1, curCol := c0, curRow := r0
                    waiting := rest, counts := m }
              ∧ answeredWith s t x rest .ok 0)
          ∧ (¬ window → t.sps = { s.sps with waiting := rest, counts := m }
              ∧ m.badWindow = satInc s.sps.counts.badWindow ∧ answeredWith s t x rest .badWindow 0))
      ∧ (x.cell.kind = .signPixels →
          ∃ t m, exec .signPixels s = .next t ∧ m.signCommands = satInc s.sps.counts.signCommands
            ∧ (pixels → t.sps = { s.sps with job := some 0, counts := m })
            ∧ (¬ pixels → t.sps = { s.sps with waiting := rest, counts := m }
                ∧ m.badWindow = satInc s.sps.counts.badWindow ∧ answeredWith s t x rest .badWindow 0))

/-- R129, R133 to R135: one pixel of the SIGN-PIXELS at the head is written at the cursor, or at the window's corner for the
first pixel of a cell with START, and no other pixel changes; the cursor advances and wraps; the last pixel is answered OK,
and a window page that is shown stops the write. -/
def Obligations.PixelsAreWrittenThroughTheWindow : Prop :=
  ∀ (x : SignTask) (rest : List SignTask) (k : Nat) (s : State), s.signWorks = true → s.sps.job = some k →
    s.sps.waiting = x :: rest → Memory.wf s.sps.pages = true →
    let c := x.cell.toCellData
    let start := k = 0 ∧ c.flags.getLsbD 0 = true
    let col := if start then s.sps.c0 else s.sps.curCol
    let row := if start then s.sps.r0 else s.sps.curRow
    let total := 256 * c.aux6.toNat + c.aux7.toNat
    let shown := s.sps.scanned = some s.sps.winPage ∨ targetPage s.sps = some s.sps.winPage
    (shown →
      ∃ t m, exec .pixelWrite s = .next t ∧ t.sps = { s.sps with waiting := rest, job := none, counts := m }
        ∧ m.shown = satInc s.sps.counts.shown ∧ answeredWith s t x rest .shown k)
    ∧ (¬ shown →
        ∃ t m, exec .pixelWrite s = .next t
          ∧ (∀ a, Memory.read t.sps.pages a
              = if a = 4096 * s.sps.winPage + 128 * row + col then
                  (payloadByte c (k / 4) >>> (6 - 2 * (k % 4))) &&& 3
                else Memory.read s.sps.pages a)
          ∧ t.sps
            = { s.sps with
                pages := t.sps.pages
                curCol := if col < s.sps.c1 then col + 1 else s.sps.c0
                curRow := if col < s.sps.c1 then row else if row < s.sps.r1 then row + 1 else s.sps.r0
                waiting := if k + 1 < total then s.sps.waiting else rest
                job := if k + 1 < total then some (k + 1) else none
                counts := m }
          ∧ m.pixelsWritten = satInc s.sps.counts.pixelsWritten
          ∧ (total ≤ k + 1 → answeredWith s t x rest .ok (k + 1)))

/-- R140, R141, R146: the SIGN-SHOW, SIGN-CLEAR and SIGN-DIM at the head change the claims and the dim mode, and each is
answered with its reason; the command, its reason and a reply that is not taken are counted. -/
def Obligations.ShowClearAndDimAreAnswered : Prop :=
  ∀ (x : SignTask) (rest : List SignTask) (s : State), s.signWorks = true → s.sps.job = none → s.sps.waiting = x :: rest →
    let b := x.cell.aux7
    let level := payloadByte x.cell.toCellData 0
    let n := s.sps.counts
    let ok := answeredCounts s x n
    let badPage := answeredCounts s x { n with badPage := satInc n.badPage }
    let active := answeredCounts s x { n with active := satInc n.active }
    (x.cell.kind = .signShow →
      ∃ t, exec .signShow s = .next t
        ∧ (∀ r, (b = 0 ∧ r = .page0 ∨ b = 1 ∧ r = .page1 ∨ b = 255 ∧ r = .noPage) →
            t.sps = { s.sps with remote := some r, waiting := rest, counts := ok } ∧ answeredWith s t x rest .ok 0)
        ∧ (b ≠ 0 → b ≠ 1 → b ≠ 255 →
            t.sps = { s.sps with waiting := rest, counts := badPage } ∧ answeredWith s t x rest .badPage 0))
    ∧ (x.cell.kind = .signClear →
        ∃ t, exec .signClear s = .next t
          ∧ (b = 1 → t.sps = { s.sps with incident := false, waiting := rest, counts := ok }
              ∧ answeredWith s t x rest .ok 0)
          ∧ (b = 2 → hazardEnabled s.straps = true → s.sps.reasonsActive = true →
              t.sps = { s.sps with waiting := rest, counts := active } ∧ answeredWith s t x rest .active 0)
          ∧ (b = 2 → (hazardEnabled s.straps = false ∨ s.sps.reasonsActive = false) →
              t.sps = { s.sps with hazard := false, hazardHold := none, waiting := rest, counts := ok }
                ∧ answeredWith s t x rest .ok 0)
          ∧ (b = 3 → t.sps = { s.sps with remote := none, waiting := rest, counts := ok } ∧ answeredWith s t x rest .ok 0)
          ∧ (b ≠ 1 → b ≠ 2 → b ≠ 3 →
              t.sps = { s.sps with waiting := rest, counts := badPage } ∧ answeredWith s t x rest .badPage 0))
    ∧ (x.cell.kind = .signDim →
        ∃ t, exec .signDim s = .next t
          ∧ (b = 0 → x.cell.length ≠ 0 →
              t.sps = { s.sps with dim := .fixed level, level := level, waiting := rest, counts := ok }
                ∧ answeredWith s t x rest .ok 0)
          ∧ (b = 1 → t.sps = { s.sps with dim := .auto, waiting := rest, counts := ok } ∧ answeredWith s t x rest .ok 0)
          ∧ (b = 0 ∧ x.cell.length = 0 ∨ (b ≠ 0 ∧ b ≠ 1) →
              t.sps = { s.sps with waiting := rest, counts := badPage } ∧ answeredWith s t x rest .badPage 0))

/-- R142: the target page by the claim set, BLANK as none, and its code in the status table and in a reply. -/
def Obligations.TargetPageFollowsTheClaims : Prop :=
  ∀ s : State,
    (s.sps.incident = true → targetPage s.sps = some 2)
    ∧ (s.sps.incident = false → s.sps.hazard = true → targetPage s.sps = some 3)
    ∧ (s.sps.incident = false → s.sps.hazard = false →
        (s.sps.remote = some .page0 → targetPage s.sps = some 0)
        ∧ (s.sps.remote = some .page1 → targetPage s.sps = some 1)
        ∧ (s.sps.remote = some .noPage ∨ s.sps.remote = none → targetPage s.sps = none))
    ∧ (targetPage s.sps = none → (pageShown s.sps = true ↔ s.sps.scanned = some s.sps.winPage))
    ∧ (∃ f ∈ statusFields s, f.off = 0x7D
        ∧ f.bytes = [match targetPage s.sps with | some n => BitVec.ofNat 8 n | none => 4])
    ∧ ∀ k n, (replyPayload s.sps k n).getD 2 0 = (match targetPage s.sps with | some n => BitVec.ofNat 8 n | none => 4)

/-- R139, R143 to R145, R149: the refresh boundary takes the target page and moves the flash phase; a row period loads
and latches its row, blank in the second half of a flash cycle, with the duties of the level; the hazard hold removes
HAZARD. The boundary sets the next row to 0 (log 27). -/
def Obligations.RefreshDrivesTheScannedPage : Prop :=
  ∀ s : State, s.signWorks = true →
    (∃ t, exec .refreshBoundary s = .next t ∧ Within [.sps] s t ∧ t.sps.scanned = targetPage s.sps ∧ t.sps.nextRow = 0
      ∧ t.sps.pages = s.sps.pages
      ∧ (targetPage s.sps ≠ s.sps.scanned →
          t.sps.counts.pageChanges = satInc s.sps.counts.pageChanges
            ∧ t.sps.flash = (if targetPage s.sps = some 2 ∨ targetPage s.sps = some 3 then some 0 else none))
      ∧ (targetPage s.sps = s.sps.scanned →
          t.sps.counts = s.sps.counts ∧ t.sps.flash = s.sps.flash.map (fun k => (k + 1) % 100)))
    ∧ (s.sps.nextRow < 32 →
        ∃ t, exec .rowPeriod s = .next t ∧ Within [.sps] s t
          ∧ t.sps.rowAddr = s.sps.nextRow ∧ t.sps.nextRow = s.sps.nextRow + 1 ∧ t.sps.drivers.length = 128
          ∧ t.sps.duty3 = s.sps.level.toNat ∧ t.sps.duty2 = s.sps.level.toNat / 2 ∧ t.sps.duty1 = s.sps.level.toNat / 4
          ∧ (s.sps.scanned = none ∨ (∃ k, s.sps.flash = some k ∧ 50 ≤ k) → ∀ v ∈ t.sps.drivers, v = 0)
          ∧ (∀ page col, s.sps.scanned = some page → (∀ k, s.sps.flash = some k → k < 50) → col < 128 →
              t.sps.drivers.getD col 0
                = (Memory.read s.sps.pages (4096 * page + 128 * s.sps.nextRow + col)).extractLsb' 0 2))
    ∧ (s.sps.hazardHold.isSome = true →
        exec .hazardHoldExpiry s
          = .next { s with sps := { s.sps with
              hazard := false, hazardHold := none
              counts := { s.sps.counts with hazardExpiries := satInc s.sps.counts.hazardExpiries } } })

/-- R148: at a slew period end the level moves by at most 4 toward the target, and not past it; a fixed
level is the target from its SIGN-DIM on; a rise from 0 takes 64 periods to 255 and 48 to the fallback of 192. -/
def Obligations.LevelSlewsTowardTheTarget : Prop :=
  (∀ s : State, s.signWorks = true →
    ∃ t, exec .brightnessSlew s = .next t
      ∧ t = { s with sps := { s.sps with level := t.sps.level, slewPeriod := some 125 } }
      ∧ (s.sps.level.toNat < (brightnessTarget s.sps).toNat →
          t.sps.level.toNat = min (s.sps.level.toNat + 4) (brightnessTarget s.sps).toNat)
      ∧ ((brightnessTarget s.sps).toNat < s.sps.level.toNat →
          t.sps.level.toNat = max (s.sps.level.toNat - 4) (brightnessTarget s.sps).toNat)
      ∧ (s.sps.level = brightnessTarget s.sps → t.sps.level = s.sps.level))
  ∧ (∀ (k : Straps) (s : State), s.running = false → strapFault k = false → signFitted k = true →
      ∃ t, exec (.resetEnd k) s = .next t ∧ t.sps.slewPeriod = some 125 ∧ t.sps.level = 0 ∧ brightnessTarget t.sps = 192)
  ∧ (∀ l, (brightnessTarget { ({} : Sps) with dim := .fixed l }) = l)
  ∧ (∀ (x : SignTask) (rest : List SignTask) (s : State), s.signWorks = true → s.sps.job = none →
      s.sps.waiting = x :: rest → x.cell.kind = .signDim → x.cell.aux7 = 0 → x.cell.length ≠ 0 →
      ∃ t, exec .signDim s = .next t ∧ t.sps.level = brightnessTarget t.sps
        ∧ brightnessTarget t.sps = payloadByte x.cell.toCellData 0)
  ∧ (List.range 64).foldl (fun b _ => slewed b 255) 0 = 255 ∧ (List.range 48).foldl (fun b _ => slewed b 192) 0 = 192
  ∧ (List.range 63).foldl (fun b _ => slewed b 255) 0 ≠ 255 ∧ (List.range 47).foldl (fun b _ => slewed b 192) 0 ≠ 192

/-! ## Weather -/

/-- R153, R154, R158: a sweep selects channel 1 or is abandoned, a settle starts the conversion, and the end of conversion
gives its result to the channel and selects the next, the twelfth ending the sweep; AN4 moves the AUTO target. -/
def Obligations.SweepVisitsTheChannels : Prop :=
  ∀ s : State, s.weatherWorks = true →
    (s.wsu.converter = .idle →
      exec .sweepStart s
        = .next { s with wsu := { s.wsu with converter := .settling 1, settle := some 2, sweepPeriod := some 1000 } })
    ∧ (s.wsu.converter ≠ .idle →
        exec .sweepStart s
          = .next { s with wsu := { s.wsu with
              converter := .idle, settle := none, sweepPeriod := some 1000
              counts := { s.wsu.counts with sweepsSkipped := satInc s.wsu.counts.sweepsSkipped } } })
    ∧ (∀ n, s.wsu.converter = .settling n →
        exec .settleExpiry s = .next { s with wsu := { s.wsu with converter := .converting n, settle := none } })
    ∧ ∀ n r, s.wsu.converter = .converting n →
        ∃ t, exec (.endOfConversion r) s = .next t ∧ Within [.sps, .wsu] s t
          ∧ t.wsu.channels = s.wsu.channels.set (n - 1) (channelTakes (s.wsu.channels.getD (n - 1) {}) r)
          ∧ (n < 12 → t.wsu.converter = .settling (n + 1) ∧ t.wsu.settle = some 2)
          ∧ (12 ≤ n → t.wsu.converter = .idle ∧ t.wsu.counts.sweeps = satInc s.wsu.counts.sweeps)
          ∧ (n ≠ 4 → t.sps = s.sps)
          ∧ (n = 4 → signFitted s.straps = true → t.sps = { s.sps with autoTarget := autoTargetOf (channelOf t.wsu 4) })

/-- R155 to R157: the classes of a result, and what a channel makes of each: a valid one enters the ring; the third faulted
sample in a row in status OK, and no other, makes the status FAULT, empties the ring and counts FAULT-ENTRIES; the third
valid one in a row makes it OK again. That the ring is emptied at the entry to FAULT alone, so that valid samples taken in
FAULT stay in it over a faulted one, is the model's choice (log 42). -/
def Obligations.ResultsAreClassified : Prop :=
  ∀ (n : Nat) (r : BitVec 12) (s : State), s.weatherWorks = true → s.wsu.converter = .converting n → 1 ≤ n → n ≤ 12 →
    s.wsu.channels.length = 12 →
    let before := s.wsu.channels.getD (n - 1) {}
    ∃ t, exec (.endOfConversion r) s = .next t
      ∧ (9 ≤ r.toNat → r.toNat ≤ 4086 →
          (t.wsu.channels.getD (n - 1) {}).ring
            = (if 10 ≤ before.ring.length then before.ring.drop 1 else before.ring) ++ [r]
          ∧ (t.wsu.channels.getD (n - 1) {}).validRun = min 3 (before.validRun + 1)
          ∧ (t.wsu.channels.getD (n - 1) {}).faultedRun = 0
          ∧ (t.wsu.channels.getD (n - 1) {}).lastFault = before.lastFault
          ∧ (t.wsu.channels.getD (n - 1) {}).fault = (before.fault && decide (before.validRun < 2))
          ∧ (t.wsu.channels.getD (n - 1) {}).faultEntries = before.faultEntries
          ∧ t.wsu.counts.faultedSamples = s.wsu.counts.faultedSamples)
      ∧ (r.toNat ≤ 8 ∨ 4087 ≤ r.toNat →
          (before.fault = false → 2 ≤ before.faultedRun →
            (t.wsu.channels.getD (n - 1) {}).ring = [] ∧ (t.wsu.channels.getD (n - 1) {}).fault = true
              ∧ average (t.wsu.channels.getD (n - 1) {}) = none
              ∧ (t.wsu.channels.getD (n - 1) {}).faultEntries = satInc before.faultEntries)
          ∧ (before.fault = true ∨ before.faultedRun < 2 →
              (t.wsu.channels.getD (n - 1) {}).ring = before.ring
                ∧ (t.wsu.channels.getD (n - 1) {}).fault = before.fault
                ∧ (t.wsu.channels.getD (n - 1) {}).faultEntries = before.faultEntries)
          ∧ (t.wsu.channels.getD (n - 1) {}).faultedRun = min 3 (before.faultedRun + 1)
          ∧ (t.wsu.channels.getD (n - 1) {}).validRun = 0
          ∧ t.wsu.counts.faultedSamples = satInc s.wsu.counts.faultedSamples)
      ∧ (r.toNat ≤ 8 → (t.wsu.channels.getD (n - 1) {}).lastFault = some .openLead)
      ∧ (4087 ≤ r.toNat → (t.wsu.channels.getD (n - 1) {}).lastFault = some .short)

/-- R159 to R162, R168: a WIND pulse counts up, and past 255 reloads the preload and marks the window a gust; a window end
takes its count, its maximum and its mark, and starts the next; reasons that begin or end reach the sign, and only those. -/
def Obligations.WindPulsesAndWindows : Prop :=
  ∀ s : State, s.weatherWorks = true →
    (s.wsu.windCounter ≠ 255 →
      exec .windPulse s = .next { s with wsu := { s.wsu with windCounter := s.wsu.windCounter + 1 } })
    ∧ (s.wsu.windCounter = 255 → s.wsu.overflows = 0 →
        ∃ t, exec .windPulse s = .next t ∧ Within [.sps, .wsu] s t
          ∧ t.wsu.windCounter = BitVec.ofNat 8 (256 - strapGustLimit s.straps) ∧ t.wsu.overflows = 1 ∧ t.wsu.gustMark = true
          ∧ t.wsu.periodGusts = satInc s.wsu.periodGusts ∧ t.wsu.counts.gusts = satInc s.wsu.counts.gusts
          ∧ reasonsHanded s t
          ∧ (windActive s.wsu = false → iceActive s.wsu = false →
              t.wsu.counts.hazardOnsets = satInc s.wsu.counts.hazardOnsets
                ∧ (signFitted s.straps = true → t.sps.reasonsActive = true
                    ∧ (hazardEnabled s.straps = true → t.sps.hazard = true))))
    ∧ (s.wsu.windCounter = 255 → s.wsu.overflows ≠ 0 →
        ∃ t, exec .windPulse s = .next t ∧ t.wsu.windCounter = BitVec.ofNat 8 (256 - strapGustLimit s.straps)
          ∧ t.wsu.overflows = satInc s.wsu.overflows ∧ t.wsu.gustMark = s.wsu.gustMark
          ∧ t.wsu.counts.gusts = s.wsu.counts.gusts)
    ∧ ∃ t, exec .windWindowStart s = .next t ∧ Within [.sps, .wsu] s t
        ∧ t.wsu.latestWindow
          = BitVec.ofNat 16 (s.wsu.windCounter.toNat - (256 - strapGustLimit s.straps)
              + strapGustLimit s.straps * s.wsu.overflows.toNat)
        ∧ t.wsu.windCounter = BitVec.ofNat 8 (256 - strapGustLimit s.straps) ∧ t.wsu.overflows = 0
        ∧ t.wsu.gustMark = false ∧ t.wsu.windowPeriod = some 3000 ∧ reasonsHanded s t
        ∧ t.wsu.windMemory
          = (if 20 ≤ s.wsu.windMemory.length then s.wsu.windMemory.drop 1 else s.wsu.windMemory) ++ [s.wsu.gustMark]
        ∧ (s.wsu.periodMax = none ∨ (∃ m, s.wsu.periodMax = some m ∧ m.toNat < t.wsu.latestWindow.toNat) →
            t.wsu.periodMax = some t.wsu.latestWindow)
        ∧ (∀ m, s.wsu.periodMax = some m → t.wsu.latestWindow.toNat ≤ m.toNat →
            t.wsu.periodMax = some m ∧ t.wsu.gustDir = s.wsu.gustDir)
        ∧ (reasonsActive s.wsu = true → reasonsActive t.wsu = false → signFitted s.straps = true →
            t.sps.reasonsActive = false
              ∧ (hazardEnabled s.straps = true → s.sps.hazard = true → t.sps.hazardHold = some 600000))

/-- R163: a RAIN closure raises the tip counter and TIPS and is taken by the interval timer; a report period end sets the
tip counter to 0. -/
def Obligations.RainTipsAreCounted : Prop :=
  ∀ s : State, s.weatherWorks = true →
    (∃ t, exec .rainTip s = .next t
      ∧ t = { s with wsu := { s.wsu with
          tips := if s.wsu.tips.toNat = 65535 then s.wsu.tips else s.wsu.tips + 1
          interval := .running 0 0, lastInterval := t.wsu.lastInterval
          counts := { s.wsu.counts with tips := satInc s.wsu.counts.tips } } }
      ∧ (s.wsu.interval = .unarmed → t.wsu.lastInterval = s.wsu.lastInterval)
      ∧ (∀ n m, s.wsu.interval = .running n m → t.wsu.lastInterval = some (BitVec.ofNat 16 (if n = 0 then 1 else n)))
      ∧ (s.wsu.interval = .stopped → t.wsu.lastInterval = s.wsu.lastInterval))
    ∧ ∃ t, exec .reportPeriodEnd s = .next t ∧ t.wsu.tips = 0

/-- R164 to R167: the interval timer stops at its last tick; a race starts both counters, ends by the one that overflows
first, and judges the road by the surface count and the temperature of AN2; reason ICE, which follows the road state, is
handed to the sign where it makes the set of reasons not empty or empty (R168). -/
def Obligations.IntervalAndSurfaceRace : Prop :=
  ∀ s : State, s.weatherWorks = true →
    (∀ n m, s.wsu.interval = .running n m →
      exec .intervalTimerStop s
        = .next { s with wsu := { s.wsu with
            interval := .stopped, counts := { s.wsu.counts with noRainStops := satInc s.wsu.counts.noRainStops } } })
    ∧ exec .surfaceRaceStart s
      = .next { s with wsu := { s.wsu with
          racing := true, refCounter := 55536, surfCounter := 0, racePeriod := some 5000 } }
    ∧ (s.wsu.racing = true →
        (∀ surface : Half,
          ∃ t, exec (.referenceOverflow surface) s = .next t ∧ Within [.sps, .wsu] s t ∧ t.wsu.racing = false
            ∧ reasonsHanded s t ∧ windActive t.wsu = windActive s.wsu ∧ (iceActive t.wsu = true ↔ t.wsu.road = .ice)
            ∧ t.wsu.counts.races = satInc s.wsu.counts.races
            ∧ (surface = 0 → t.wsu.race = some .stopped ∧ t.wsu.road = .unknown
                ∧ t.wsu.counts.racesStopped = satInc s.wsu.counts.racesStopped)
            ∧ (surface ≠ 0 → t.wsu.race = some (.count surface))
            ∧ (4000 ≤ surface.toNat → t.wsu.road = .dry)
            ∧ (surface ≠ 0 → surface.toNat < 4000 →
                (∀ a, (channelOf s.wsu 2).fault = false → average (channelOf s.wsu 2) = some a →
                  t.wsu.road = if a ≤ 1365 then .ice else .wet)
                ∧ ((channelOf s.wsu 2).fault = true ∨ average (channelOf s.wsu 2) = none → t.wsu.road = .wet)))
        ∧ ∃ t, exec .surfaceOverflow s = .next t ∧ Within [.sps, .wsu] s t ∧ t.wsu.racing = false
            ∧ reasonsHanded s t ∧ windActive t.wsu = windActive s.wsu ∧ iceActive t.wsu = false
            ∧ t.wsu.race = some .fast ∧ t.wsu.road = .unknown
            ∧ t.wsu.counts.racesFast = satInc s.wsu.counts.racesFast)

/-- R8, R9, R169 to R172, R186, R197: a report period end makes the next numbered report, toward the nearest gateway
or, at a gateway, to the office; a poll and a query consumed here are answered out of their arrival side; a
SIGN-REPLY, a WEATHER-REPORT or a NODE-STATUS consumed here, a report for ANY-GATEWAY at a gateway among them, goes to the
office at a gateway and has no consumer elsewhere. The payload of a report is laid out as R170 says, that of a NODE-STATUS as
R197 says from the table as it stands with the query in hand. A poll's or a query's own buffer is in hand when its answer is
offered (log 7). -/
def Obligations.ReportsAndAnswers : Prop :=
  ((∀ s : State, s.weatherWorks = true →
      let numbered := { s.wsu with reportNumber := s.wsu.reportNumber + 1 }
      let report := makeCell s.station .weatherReport 254 (s.wsu.reportNumber + 1) 0 0 0 (reportPayload numbered)
      (∀ d, s.isGateway = false → s.nearest = some d → takesLocal s d .report = true →
        ∃ t, exec .reportPeriodEnd s = .next t ∧ (t.side d).insReport = (s.side d).insReport ++ [report]
          ∧ t.wsu.reportNumber = s.wsu.reportNumber + 1 ∧ t.wsu.counts.reportsSent = satInc s.wsu.counts.reportsSent
          ∧ t.wsu.tips = 0 ∧ t.wsu.periodMax = none ∧ t.wsu.gustDir = none ∧ t.wsu.periodGusts = 0
          ∧ t.wsu.reportPeriod = some 10000)
      ∧ (s.isGateway = false → s.nearest = none →
          ∃ t, exec .reportPeriodEnd s = .next t ∧ t.tiu = s.tiu
            ∧ t.wsu.counts.reportsNoReach = satInc s.wsu.counts.reportsNoReach ∧ t.wsu.tips = 0)
      ∧ (s.isGateway = true → 64 ≤ s.poolFree → s.gw.toOffice.length < 32 →
          ∃ t, exec .reportPeriodEnd s = .next t ∧ t.gw.toOffice = s.gw.toOffice ++ [report]
            ∧ t.wsu.counts.reportsSent = satInc s.wsu.counts.reportsSent))
    ∧ (∀ w, reportLayout w (reportPayload w))
    ∧ ∀ (p : Port) (c : CellData) (s : State), consumedHere s c.target = true →
        takesLocal (grantedState s) (s.sideOf p) .report = true →
        (cellGranted s p (cellOf .weatherPoll c) = true → weatherFitted s.straps = true →
          ∃ t, exec (.weatherPoll p c) s = .next t ∧ t.inHand = 0
            ∧ (t.side (s.sideOf p)).insReport
              = (s.side (s.sideOf p)).insReport
                ++ [makeCell s.station .weatherReport c.origin c.reference 0 1 0 (reportPayload s.wsu)]
            ∧ t.wsu = { s.wsu with counts := { s.wsu.counts with pollsAnswered := satInc s.wsu.counts.pollsAnswered } })
        ∧ (cellGranted s p (cellOf .weatherPoll c) = true → weatherFitted s.straps = false →
          ∃ t, exec (.weatherPoll p c) s = .next t ∧ t.tiu = s.tiu
            ∧ t.node = { s.node with noConsumer := satInc s.node.noConsumer })
        ∧ (cellGranted s p (cellOf .nodeQuery c) = true →
          ∃ t payload u, exec (.nodeQuery p c) s = .next t ∧ t.inHand = 0 ∧ payload.length = 52
            ∧ u.state = (if (s.port p).state = .doze then .waking else (s.port p).state)
            ∧ u.neighbour = (s.port p).neighbour ∧ statusLayout { s.setPort p u with inHand := 1 } payload
            ∧ (t.side (s.sideOf p)).insReport
              = (s.side (s.sideOf p)).insReport ++ [makeCell s.station .nodeStatus c.origin c.reference 0 0 0 payload]
            ∧ t.maint = { s.maint with queriesAnswered := satInc s.maint.queriesAnswered }))
  ∧ (∀ (p : Port) (c : CellData) (i : Instr) (k : Kind) (s : State),
      (i, k) ∈ [(Instr.signReply p c, Kind.signReply), (.weatherReport p c, .weatherReport), (.nodeStatus p c, .nodeStatus)] →
      cellGranted s p (cellOf k c) = true → consumedHere s c.target = true →
      (s.isGateway = true → s.gw.toOffice.length < 32 →
        ∃ t, exec i s = .next t ∧ Within [.inHand, .ports, .gw] s t ∧ t.inHand = 0
          ∧ t.gw = { s.gw with toOffice := s.gw.toOffice ++ [{ cellOf k c with hops := 0 }] })
      ∧ (s.isGateway = true → 32 ≤ s.gw.toOffice.length →
          ∃ t, exec i s = .next t ∧ Within [.inHand, .ports, .gw] s t ∧ t.gw.toOffice = s.gw.toOffice
            ∧ (k = .signReply → t.gw.counts.toOfficeDroppedSign = satInc s.gw.counts.toOfficeDroppedSign)
            ∧ (k ≠ .signReply → t.gw.counts.toOfficeDroppedReport = satInc s.gw.counts.toOfficeDroppedReport))
      ∧ (s.isGateway = false →
          ∃ t, exec i s = .next t ∧ Within [.inHand, .ports, .node] s t
            ∧ t.node = { s.node with noConsumer := satInc s.node.noConsumer }))

/-! ## Gateway and office link -/

/-- R175, R185: a beacon period end makes the next beacon out of the inner side, or counts its refusal; a cell begins
toward the office while ORDY is high and leaves the queue when sent; a cell from the office is kept while GRDY is high
and its check is good. ORDY is the operand of the command (log 6), a cell keeps its place in the to-office queue until its transfer
completes (log 22), and the lost cell of an overrun is counted as its transfer starts. In STRAP-FAULT, with GRDY held low, each
transfer of the office is an overrun and no cell is sent (log 43). -/
def Obligations.BeaconPeriodAndOfficeLink : Prop :=
  (∀ s : State, s.gatewayWorks = true → s.gw.beaconPeriod.isSome = true →
      (s.inService s.inner = true → (s.side s.inner).insLink.length < 8 →
        exec .beaconPeriod s
          = .next { s.setSide s.inner
              { s.side s.inner with
                insLink := (s.side s.inner).insLink
                  ++ [makeCell s.station .beacon 255 s.gw.beaconSeq 0 0 (if s.role = .gatewayD then 2 else 0) []] }
            with gw := { s.gw with
              beaconSeq := s.gw.beaconSeq + 1, beaconPeriod := some 200
              counts := { s.gw.counts with beaconsMade := satInc s.gw.counts.beaconsMade } } })
      ∧ (s.inService s.inner = true → 8 ≤ (s.side s.inner).insLink.length →
          ∃ t, exec .beaconPeriod s = .next t ∧ Within [.tiu, .gw] s t ∧ t.gw.beaconSeq = s.gw.beaconSeq
            ∧ t.gw.beaconPeriod = some 200 ∧ t.gw.counts.beaconsRefused = satInc s.gw.counts.beaconsRefused))
  ∧ (∀ s : State, s.gatewayWorks = true →
      (∀ ordy, s.gw.toTransfer = none →
        exec (.toOfficeTransferStart ordy) s
          = .next { s with gw := { s.gw with
              ordy := ordy
              toTransfer := match ordy, s.gw.toOffice with | true, c :: _ => some (cellCheck c) | _, _ => none } })
      ∧ (s.gw.toTransfer.isSome = true →
          exec .toOfficeTransferComplete s
            = .next { s with gw := { s.gw with
                toOffice := s.gw.toOffice.drop 1, toTransfer := none
                counts := { s.gw.counts with cellsToOffice := satInc s.gw.counts.cellsToOffice } } })
      ∧ (s.gw.fromTransfer = none →
          (s.gw.fromOffice.length < 32 →
            exec .fromOfficeTransferStart s = .next { s with gw := { s.gw with fromTransfer := some .kept } })
          ∧ (32 ≤ s.gw.fromOffice.length →
              exec .fromOfficeTransferStart s
                = .next { s with gw := { s.gw with
                    fromTransfer := some .overrun
                    counts := { s.gw.counts with officeOverruns := satInc s.gw.counts.officeOverruns } } }))
      ∧ ∀ (c : RawCell) (check : Half),
          (s.gw.fromTransfer = some .kept → checkOf c.code c.toCellData = check →
            exec (.fromOfficeTransferComplete c check) s
              = .next { s with gw := { s.gw with
                  fromTransfer := none, fromOffice := s.gw.fromOffice ++ [c]
                  counts := { s.gw.counts with cellsFromOffice := satInc s.gw.counts.cellsFromOffice } } })
          ∧ (s.gw.fromTransfer = some .kept → checkOf c.code c.toCellData ≠ check →
              exec (.fromOfficeTransferComplete c check) s
                = .next { s with gw := { s.gw with
                    fromTransfer := none
                    counts := { s.gw.counts with officeCheckErrors := satInc s.gw.counts.officeCheckErrors } } })
          ∧ (s.gw.fromTransfer = some .overrun →
              exec (.fromOfficeTransferComplete c check) s = .next { s with gw := { s.gw with fromTransfer := none } }))
  ∧ ∀ s : State, s.running = true → s.isGateway = true → strapFault s.straps = true →
      (∀ ordy, exec (.toOfficeTransferStart ordy) s = .next s)
      ∧ (s.gw.fromTransfer = none →
          exec .fromOfficeTransferStart s
            = .next { s with gw := { s.gw with
                fromTransfer := some .overrun
                counts := { s.gw.counts with officeOverruns := satInc s.gw.counts.officeOverruns } } })
      ∧ ∀ (c : RawCell) (check : Half), s.gw.fromTransfer = some .overrun →
          exec (.fromOfficeTransferComplete c check) s = .next { s with gw := { s.gw with fromTransfer := none } }

/-- R184, R187, R188: the head of the from-office queue: a SIGN or REPORT cell for another station is offered to the inner
side as the gateway's own, one for this station is handed to its block, one for ALL is handed over once and offered; a VOICE
and a CALL-RELEASE for a CHAIN channel become the chain's, for a LOCAL channel they reach the line and its record, and for
no channel they are rejected, as any other cell is; a head that was refused is offered again, and one that a full queue or
the pool refuses waits. A cell handed over keeps the office's origin (log 38). -/
def Obligations.OfficeCellsEnterTheChain : Prop :=
  ∀ (raw : RawCell) (rest : List RawCell) (s : State), s.gatewayWorks = true → s.gw.fromOffice = raw :: rest →
    (∀ c i, cellOfRaw raw = some c →
      (c.kind = .signWindow ∨ c.kind = .signPixels ∨ c.kind = .signShow ∨ c.kind = .signClear ∨ c.kind = .signDim
        ∨ c.kind = .weatherPoll ∨ c.kind = .nodeQuery) →
      isStation c.target = true → c.target ≠ s.station →
      (i = .officeSignOrReportCell ∧ s.gw.headOffered = false ∨ i = .officeOfferRetry ∧ s.gw.headOffered = true) →
      (takesLocal s s.inner (cellClass c) = true →
        ∃ t, exec i s = .next t ∧ t.gw = { s.gw with fromOffice := rest, headOffered := false, headHandedOver := false }
          ∧ insQueue (t.side s.inner) (cellClass c)
            = insQueue (s.side s.inner) (cellClass c) ++ [{ c with origin := s.station, hops := 0 }])
      ∧ (s.inService s.inner = true →
          insCapacity (cellClass c) ≤ (insQueue (s.side s.inner) (cellClass c)).length →
          ∃ t, exec i s = .next t ∧ t.gw = { s.gw with headOffered := true }
            ∧ insQueue (t.side s.inner) (cellClass c) = insQueue (s.side s.inner) (cellClass c))
      ∧ (s.inService s.inner = false →
          ∃ t, exec i s = .next t ∧ t.gw.fromOffice = rest
            ∧ t.gw.counts.officeUndelivered = satInc s.gw.counts.officeUndelivered))
    ∧ (∀ c i, cellOfRaw raw = some c →
        (c.kind = .signWindow ∨ c.kind = .signPixels ∨ c.kind = .signShow ∨ c.kind = .signClear ∨ c.kind = .signDim
          ∨ c.kind = .weatherPoll ∨ c.kind = .nodeQuery) →
        (i = .officeSignOrReportCell ∧ s.gw.headOffered = false ∨ i = .officeOfferRetry ∧ s.gw.headOffered = true) →
        (c.target = s.station →
          (64 ≤ s.poolFree →
            ∃ t, exec i s = .next t ∧ deliveredAtGateway s t c ∧ t.tiu = s.tiu ∧ t.gw.fromOffice = rest
              ∧ t.gw.headOffered = false ∧ t.gw.headHandedOver = false)
          ∧ (s.poolFree < 64 →
              ∃ t, exec i s = .next t ∧ Within [.inHand, .ports, .node, .gw] s t
                ∧ t.gw = { s.gw with headOffered := true } ∧ t.node = countPoolRefused s.node (cellClass c)))
        ∧ (c.target = 255 → s.gw.headHandedOver = false →
            (takesLocal (s.holding (s.inHand + 1)) s.inner (cellClass c) = true →
              ∃ t, exec i s = .next t ∧ deliveredAtGateway s t c ∧ t.gw.fromOffice = rest
                ∧ t.gw.headOffered = false ∧ t.gw.headHandedOver = false
                ∧ insQueue (t.side s.inner) (cellClass c)
                  = insQueue (s.side s.inner) (cellClass c) ++ [{ c with origin := s.station, hops := 0 }])
            ∧ (s.inService s.inner = true →
                insCapacity (cellClass c) ≤ (insQueue (s.side s.inner) (cellClass c)).length → 64 ≤ s.poolFree →
                ∃ t, exec i s = .next t ∧ deliveredAtGateway s t c ∧ t.gw.fromOffice = s.gw.fromOffice
                  ∧ t.gw.headOffered = true ∧ t.gw.headHandedOver = true
                  ∧ insQueue (t.side s.inner) (cellClass c) = insQueue (s.side s.inner) (cellClass c)))
        ∧ (c.target = 255 → s.gw.headHandedOver = true → takesLocal s s.inner (cellClass c) = true →
            ∃ t, exec i s = .next t ∧ Within [.inHand, .ports, .tiu, .gw] s t
              ∧ t.gw = { s.gw with fromOffice := rest, headOffered := false, headHandedOver := false }
              ∧ insQueue (t.side s.inner) (cellClass c)
                = insQueue (s.side s.inner) (cellClass c) ++ [{ c with origin := s.station, hops := 0 }]))
    ∧ (∀ c g w, cellOfRaw raw = some c → channelAt s c.hops.toNat = .localCall (callOf c.toCellData) g w →
        let l := (callOf c.toCellData).phone
        (∀ i, c.kind = .voice →
          (i = .officeVoice ∧ s.gw.headOffered = false ∨ i = .officeOfferRetry ∧ s.gw.headOffered = true) →
          ∃ t, exec i s = .next t ∧ Within [.inHand, .ports, .lines, .gw] s t
            ∧ t.gw = { s.gw with
                fromOffice := rest, headOffered := false, headHandedOver := false
                channels := s.gw.channels.set c.hops.toNat (.localCall (callOf c.toCellData) g (some 3000)) }
            ∧ (t.line l).playout
              = (if 4 ≤ (s.line l).playout.length then (s.line l).playout.drop 1 else (s.line l).playout)
                ++ [payloadBytes c.toCellData 32])
        ∧ (∀ i r, c.kind = .callRelease → (s.line l).record = some r →
            (i = .officeCallRelease ∧ s.gw.headOffered = false ∨ i = .officeOfferRetry ∧ s.gw.headOffered = true) →
            ∃ t, exec i s = .next t
              ∧ t.gw = { s.gw with
                  fromOffice := rest, headOffered := false, headHandedOver := false
                  channels := s.gw.channels.set c.hops.toNat .free }
              ∧ (t.line l).state = .cleared ∧ (t.line l).playing = .busyTone ∧ (t.line l).record = none))
    ∧ (∀ c i, cellOfRaw raw = some c → s.gw.headOffered = false →
        (c.kind = .voice ∧ i = .officeVoice ∨ c.kind = .callRelease ∧ i = .officeCallRelease) →
        channelHolds (callOf c.toCellData) (channelAt s c.hops.toNat) = false →
        ∃ t, exec i s = .next t ∧ Within [.inHand, .ports, .gw] s t
          ∧ t.gw = { s.gw with
              fromOffice := rest, headOffered := false, headHandedOver := false
              counts := { s.gw.counts with officeRejected := satInc s.gw.counts.officeRejected } })
    ∧ (∀ c g, cellOfRaw raw = some c → channelAt s c.hops.toNat = .chain (callOf c.toCellData) g →
        s.gw.headOffered = false → takesLocal s s.inner .call = true →
        (c.kind = .voice → heldIn (s.table s.inner) (callOf c.toCellData) = true →
          ∃ t, exec .officeVoice s = .next t ∧ t.gw.fromOffice = rest ∧ t.gw.channels = s.gw.channels
            ∧ (t.side s.inner).insCall
              = (s.side s.inner).insCall
                ++ [makeCell s.station .voice (callOf c.toCellData).station (referenceOf (callOf c.toCellData)) (gradeCode g)
                      0 0 (payloadBytes c.toCellData 32)])
        ∧ (c.kind = .callRelease →
          ∃ t, exec .officeCallRelease s = .next t ∧ t.gw.fromOffice = rest
            ∧ t.gw.channels = s.gw.channels.set c.hops.toNat .free
            ∧ t.table s.inner = tableWithout (s.table s.inner) (callOf c.toCellData)
            ∧ (t.side s.inner).insCall
              = (s.side s.inner).insCall
                ++ [makeCell s.station .callRelease (callOf c.toCellData).station (referenceOf (callOf c.toCellData))
                      (gradeCode g) 0 0 []]))
    ∧ (officeKind raw = .reject → s.gw.headOffered = false →
        exec .officeCellRejected s
          = .next { s with gw := { s.gw with
              fromOffice := rest, headOffered := false, headHandedOver := false
              counts := { s.gw.counts with officeRejected := satInc s.gw.counts.officeRejected } } })

/-! ## Maintenance port -/

/-- R191 to R193, R198: a pointer write sets the pointer and empties the latch; other data bytes, but for the clear, do
nothing but end the pointer's turn; a read drives the byte under the pointer, the latched one first, and moves the pointer on, the
bank after 0xEF. ALERT is asserted exactly while one of its five conditions holds, and shows in offset 0x14. That a
byte other than a pointer ends its turn is the model's bookkeeping (log 29). -/
def Obligations.MaintenanceReadsTheTable : Prop :=
  ∀ s : State, s.running = true →
    (∀ value, exec (.pointerWrite value) s
      = .next { s with maint := { s.maint with readPtr := value, latch := none, justSet := true } })
    ∧ (∀ value, s.maint.justSet = false ∨ s.maint.readPtr ≠ 0xF0 ∨ value ≠ 0xA5 →
        exec (.ignoredWriteByte value) s = .next { s with maint := { s.maint with justSet := false } })
    ∧ (s.maint.justSet = true → s.maint.readPtr = 0xF0 → exec (.ignoredWriteByte 0xA5) s = exec .counterClear s)
    ∧ (alertAsserted s = true
        ↔ strapFault s.straps = true ∨ (∃ p, (s.port p).state = .fault) ∨ s.gli.flowStopped = true
          ∨ (∃ c ∈ s.wsu.channels, c.fault = true) ∨ ∃ l, (s.line l).keyStuck = true)
    ∧ (∃ f ∈ statusFields s, f.off = 0x14 ∧ ∃ b, f.bytes = [b] ∧ b.getLsbD 7 = alertAsserted s)
    ∧ ∃ t, exec .statusByteRead s = .next t ∧ Within [.maint, .freeUses] s t
        ∧ t.maint.readPtr = s.maint.readPtr + 1
        ∧ t.maint.bank = (if s.maint.readPtr = 0xEF then (s.maint.bank + 1) % 11 else s.maint.bank)
        ∧ t.maint.queriesAnswered = s.maint.queriesAnswered
        ∧ (∀ next b more, s.maint.latch = some ⟨next, b :: more⟩ → next = s.maint.readPtr →
            t.maint.driven = some b ∧ t.maint.latch = if more = [] then none else some ⟨next + 1, more⟩)
        ∧ (s.maint.latch = none → fieldAt s s.maint.readPtr.toNat = none →
            t.maint.driven = some 0 ∧ t.maint.latch = none)
        ∧ (∀ f, s.maint.latch = none → fieldAt s s.maint.readPtr.toNat = some f → f.off = s.maint.readPtr.toNat →
            t.maint.driven = some (f.bytes.getD 0 0)
              ∧ t.maint.latch
                = if 2 ≤ f.bytes.length then some ⟨BitVec.ofNat 8 (f.off + 1), f.bytes.drop 1⟩ else none)

/-- R195: the counter clear sets every count to 0 and leaves the power-on count, sequences, depths, ages, flags, states, the
bank number and the WSU's period counters; the pointer write that comes before it has emptied the latch; a
count rises by one and stays at its largest value. The bit for the place in a write is the model's own (log 29). -/
def Obligations.CounterClearSetsEveryCountToZero : Prop :=
  ∀ s : State, s.running = true →
    (s.maint.justSet = true → s.maint.readPtr = 0xF0 →
      exec .counterClear s
        = .next { s with
            ports := { sp1 := { s.ports.sp1 with counts := {} }, sp2 := { s.ports.sp2 with counts := {} } }
            node := {}
            tiu := { up := { s.tiu.up with counts := {} }, down := { s.tiu.down with counts := {} } }
            reach := { up := { s.reach.up with counts := {} }, down := { s.reach.down with counts := {} } }
            lines := { line0 := { s.lines.line0 with counts := {} }, line1 := { s.lines.line1 with counts := {} } }
            ccu := {}
            gli := { s.gli with counts := {} }
            csd := { s.csd with counts := {} }
            sps := { s.sps with counts := {} }
            wsu := { s.wsu with
              counts := {}, channels := s.wsu.channels.map (fun c => { c with faultEntries := 0 }) }
            gw := { s.gw with counts := {} }
            maint := { s.maint with queriesAnswered := 0, queryAnswersLost := 0, justSet := false } })
    ∧ (∃ t, exec (.pointerWrite 0xF0) s = .next t ∧ t.maint.latch = none ∧ t.maint.justSet = true
        ∧ t.maint.readPtr = 0xF0 ∧ ∃ u, exec .counterClear t = .next u ∧ u.maint.latch = none)
    ∧ ∀ (w : Nat) (n : BitVec w), (n.toNat + 1 < 2 ^ w → (satInc n).toNat = n.toNat + 1)
        ∧ (n.toNat + 1 = 2 ^ w → satInc n = n)

end
end

