-- ==== Sys2Proof/Laws/State.lean ====
section
/-! SUPPORT. Reading a part of State after an update of a part, true by computation, and what follows for frames. -/

set_option Elab.async false

namespace Sys2Proof.Machine

variable {α : Type}

@[simp] theorem sides_get_set (x : Sides α) (d : Side) (v : α) : (x.set d v).get d = v := by cases d <;> rfl
@[simp] theorem sides_get_set_up (x : Sides α) (v : α) : (x.set .down v).get .up = x.get .up := rfl
@[simp] theorem sides_get_set_down (x : Sides α) (v : α) : (x.set .up v).get .down = x.get .down := rfl
@[simp] theorem sides_get_set_other (x : Sides α) (d : Side) (v : α) : (x.set d v).get (otherSide d) = x.get (otherSide d) := by
  cases d <;> rfl
@[simp] theorem ports_get_set (x : Ports α) (p : Port) (v : α) : (x.set p v).get p = v := by cases p <;> rfl
@[simp] theorem lines_get_set (x : Lines α) (l : Line) (v : α) : (x.set l v).get l = v := by cases l <;> rfl
@[simp] theorem other_other (d : Side) : otherSide (otherSide d) = d := by cases d <;> rfl
@[simp] theorem port_of_side (k : Straps) (p : Port) : strapPort k (strapSide k p) = p := by
  unfold strapPort strapSide; cases p <;> cases k.flip <;> rfl
@[simp] theorem side_of_port (k : Straps) (d : Side) : strapSide k (strapPort k d) = d := by
  unfold strapPort strapSide; cases d <;> cases k.flip <;> rfl
@[simp] theorem port_of_side_of (s : State) (p : Port) : s.portOf (s.sideOf p) = p := port_of_side _ _
@[simp] theorem side_of_port_of (s : State) (d : Side) : s.sideOf (s.portOf d) = d := side_of_port _ _

section setters
variable (s : State) (p : Port) (d : Side) (l : Line) (u : PortUnit) (t : Tiu) (e : ReachEntry) (q : List SrtEntry) (x : PhoneLine)

@[simp] theorem setPort_port : (s.setPort p u).port p = u := ports_get_set _ _ _
@[simp] theorem setSide_side : (s.setSide d t).side d = t := sides_get_set _ _ _
@[simp] theorem setEntry_entry : (s.setEntry d e).entry d = e := sides_get_set _ _ _
@[simp] theorem setTable_table : (s.setTable d q).table d = q := sides_get_set _ _ _
@[simp] theorem setLine_line : (s.setLine l x).line l = x := lines_get_set _ _ _
@[simp] theorem setSide_other : (s.setSide d t).side (otherSide d) = s.side (otherSide d) := sides_get_set_other _ _ _
@[simp] theorem setTable_other : (s.setTable d q).table (otherSide d) = s.table (otherSide d) := sides_get_set_other _ _ _

@[simp] theorem setPort_straps : (s.setPort p u).straps = s.straps := rfl
@[simp] theorem setPort_tiu : (s.setPort p u).tiu = s.tiu := rfl
@[simp] theorem setPort_srt : (s.setPort p u).srt = s.srt := rfl
@[simp] theorem setPort_sps : (s.setPort p u).sps = s.sps := rfl
@[simp] theorem setPort_csd : (s.setPort p u).csd = s.csd := rfl
@[simp] theorem setPort_reach : (s.setPort p u).reach = s.reach := rfl
@[simp] theorem setPort_gw : (s.setPort p u).gw = s.gw := rfl
@[simp] theorem setPort_lines : (s.setPort p u).lines = s.lines := rfl
@[simp] theorem setPort_inHand : (s.setPort p u).inHand = s.inHand := rfl
@[simp] theorem setSide_straps : (s.setSide d t).straps = s.straps := rfl
@[simp] theorem setSide_ports : (s.setSide d t).ports = s.ports := rfl
@[simp] theorem setSide_srt : (s.setSide d t).srt = s.srt := rfl
@[simp] theorem setSide_sps : (s.setSide d t).sps = s.sps := rfl
@[simp] theorem setSide_csd : (s.setSide d t).csd = s.csd := rfl
@[simp] theorem setSide_reach : (s.setSide d t).reach = s.reach := rfl
@[simp] theorem setSide_gw : (s.setSide d t).gw = s.gw := rfl
@[simp] theorem setSide_lines : (s.setSide d t).lines = s.lines := rfl
@[simp] theorem setSide_inHand : (s.setSide d t).inHand = s.inHand := rfl
@[simp] theorem setEntry_straps : (s.setEntry d e).straps = s.straps := rfl
@[simp] theorem setEntry_ports : (s.setEntry d e).ports = s.ports := rfl
@[simp] theorem setEntry_sps : (s.setEntry d e).sps = s.sps := rfl
@[simp] theorem setTable_straps : (s.setTable d q).straps = s.straps := rfl
@[simp] theorem setTable_ports : (s.setTable d q).ports = s.ports := rfl
@[simp] theorem setTable_tiu : (s.setTable d q).tiu = s.tiu := rfl
@[simp] theorem setTable_sps : (s.setTable d q).sps = s.sps := rfl
@[simp] theorem setTable_lines : (s.setTable d q).lines = s.lines := rfl
@[simp] theorem setLine_straps : (s.setLine l x).straps = s.straps := rfl
@[simp] theorem setLine_ports : (s.setLine l x).ports = s.ports := rfl
@[simp] theorem setLine_tiu : (s.setLine l x).tiu = s.tiu := rfl
@[simp] theorem setLine_srt : (s.setLine l x).srt = s.srt := rfl
@[simp] theorem setLine_sps : (s.setLine l x).sps = s.sps := rfl
end setters

/-! ## Frames compose -/

theorem Within.refl (parts : List Part) (s : State) : Within parts s s := by
  intro q _; cases q <;> rfl

theorem Same.trans {s t u : State} {q : Part} (h : Same s t q) (k : Same t u q) : Same s u q := by
  cases q <;> exact Eq.trans k h

theorem Within.trans {parts : List Part} {s t u : State} (h : Within parts s t) (k : Within parts t u) : Within parts s u :=
  fun q hq => (h q hq).trans (k q hq)

theorem Within.mono {parts more : List Part} {s t : State} (h : Within parts s t) (sub : ∀ q, q ∈ parts → q ∈ more) :
    Within more s t :=
  fun q hq => h q (fun m => hq (sub q m))

theorem Within.widen {parts more : List Part} {s t : State} (h : Within parts s t)
    (sub : parts.all (fun q => more.contains q) = true := by rfl) : Within more s t :=
  h.mono (fun q hq => by simpa using List.all_eq_true.mp sub q hq)

/-- Two frames in a row, each within the longer list. -/
theorem Within.seq {a b parts : List Part} {s t u : State} (h : Within a s t) (k : Within b t u)
    (sa : a.all (fun q => parts.contains q) = true := by rfl) (sb : b.all (fun q => parts.contains q) = true := by rfl) :
    Within parts s u :=
  (h.widen sa).trans (k.widen sb)

end Sys2Proof.Machine
end

