-- ==== Sys2Proof/Laws/Frames.lean ====
section
/-! SUPPORT. What the shared operations leave as it was: one frame lemma for each operation. -/

set_option Elab.async false

namespace Sys2Proof.Machine

/-! ## Updates of one part -/

theorem within_setPort (s : State) (p : Port) (u : PortUnit) : Within [.ports] s (s.setPort p u) := by
  intro q hq; cases q <;> first | rfl | simp at hq
theorem within_setSide (s : State) (d : Side) (t : Tiu) : Within [.tiu] s (s.setSide d t) := by
  intro q hq; cases q <;> first | rfl | simp at hq
theorem within_setEntry (s : State) (d : Side) (e : ReachEntry) : Within [.reach] s (s.setEntry d e) := by
  intro q hq; cases q <;> first | rfl | simp at hq
theorem within_setTable (s : State) (d : Side) (t : List SrtEntry) : Within [.srt] s (s.setTable d t) := by
  intro q hq; cases q <;> first | rfl | simp at hq
theorem within_setLine (s : State) (l : Line) (x : PhoneLine) : Within [.lines] s (s.setLine l x) := by
  intro q hq; cases q <;> first | rfl | simp at hq
theorem within_countNode (s : State) (f : NodeCounts → NodeCounts) : Within [.node] s (s.countNode f) := by
  intro q hq; cases q <;> first | rfl | simp at hq
theorem within_countSide (s : State) (d : Side) (f : SideCounts → SideCounts) : Within [.tiu] s (s.countSide d f) :=
  within_setSide _ _ _
theorem within_countPort (s : State) (p : Port) (f : PortCounts → PortCounts) : Within [.ports] s (s.countPort p f) :=
  within_setPort _ _ _
theorem within_countEntry (s : State) (d : Side) (f : ReachCounts → ReachCounts) : Within [.reach] s (s.countEntry d f) :=
  within_setEntry _ _ _
theorem within_countLine (s : State) (l : Line) (f : LineCounts → LineCounts) : Within [.lines] s (s.countLine l f) :=
  within_setLine _ _ _
theorem within_countCcu (s : State) (f : CcuCounts → CcuCounts) : Within [.ccu] s (s.countCcu f) := by
  intro q hq; cases q <;> first | rfl | simp at hq
theorem within_countCsd (s : State) (f : CsdCounts → CsdCounts) : Within [.csd] s (s.countCsd f) := by
  intro q hq; cases q <;> first | rfl | simp at hq
theorem within_countSps (s : State) (f : SpsCounts → SpsCounts) : Within [.sps] s (s.countSps f) := by
  intro q hq; cases q <;> first | rfl | simp at hq
theorem within_countWsu (s : State) (f : WsuCounts → WsuCounts) : Within [.wsu] s (s.countWsu f) := by
  intro q hq; cases q <;> first | rfl | simp at hq
theorem within_countGw (s : State) (f : GatewayCounts → GatewayCounts) : Within [.gw] s (s.countGw f) := by
  intro q hq; cases q <;> first | rfl | simp at hq
theorem within_withInHand (s : State) (n : Nat) : Within [.inHand] s { s with inHand := n } := by
  intro q hq; cases q <;> first | rfl | simp at hq
theorem within_withGli (s : State) (g : Gli) : Within [.gli] s { s with gli := g } := by
  intro q hq; cases q <;> first | rfl | simp at hq
theorem within_withCsd (s : State) (c : Csd) : Within [.csd] s { s with csd := c } := by
  intro q hq; cases q <;> first | rfl | simp at hq
theorem within_withSps (s : State) (x : Sps) : Within [.sps] s { s with sps := x } := by
  intro q hq; cases q <;> first | rfl | simp at hq
theorem within_withWsu (s : State) (w : Wsu) : Within [.wsu] s { s with wsu := w } := by
  intro q hq; cases q <;> first | rfl | simp at hq
theorem within_withGw (s : State) (g : Gateway) : Within [.gw] s { s with gw := g } := by
  intro q hq; cases q <;> first | rfl | simp at hq
theorem within_withMaint (s : State) (m : Maint) : Within [.maint] s { s with maint := m } := by
  intro q hq; cases q <;> first | rfl | simp at hq
theorem within_withFreeUses (s : State) (n : Nat) : Within [.freeUses] s { s with freeUses := n } := by
  intro q hq; cases q <;> first | rfl | simp at hq
theorem within_withTimes (s : State) (h n : Nat) : Within [.inHand, .freeUses] s { s with inHand := h, freeUses := n } := by
  intro q hq; cases q <;> first | rfl | simp at hq

/-! ## The TIUs and the ports -/

theorem within_wakeSide (s : State) (d : Side) : Within [.ports] s (wakeSide s d) := by
  unfold wakeSide; split
  · exact within_setPort _ _ _
  · exact Within.refl _ _

/-- What an offer can change. -/
def offerParts : List Part := [.ports, .node, .tiu]

theorem within_offerEffect (s : State) (d : Side) (c : Cell) : Within offerParts s (offerEffect s d c) := by
  unfold offerEffect
  split
  · split
    · exact (within_setSide _ _ _).widen
    · exact (within_setSide _ _ _).seq (within_wakeSide _ _)
  · exact (within_countNode _ _).widen
  · exact (within_countSide _ _ _).widen
  · exact (within_countSide _ _ _).widen
  · exact (within_countNode _ _).widen

/-- What making a CALL cell can change. -/
def controlParts : List Part := .ccu :: offerParts

theorem within_offerControl (s : State) (d : Side) (c : Cell) : Within controlParts s (offerControl s d c) := by
  unfold offerControl; split
  · exact (within_offerEffect _ _ _).widen
  · exact (within_offerEffect _ _ _).seq (within_countCcu _ _)

theorem within_makeHold (s : State) (d : Side) : Within [.tiu] s (makeHold s d) := within_setSide _ _ _
theorem within_makeResume (s : State) (d : Side) : Within [.tiu] s (makeResume s d) := within_setSide _ _ _
theorem within_holdCheck (s : State) (d : Side) : Within [.tiu] s (holdCheck s d) := by
  unfold holdCheck; split
  · exact within_makeHold _ _
  · exact Within.refl _ _
theorem within_resumeCheck (s : State) (d : Side) : Within [.tiu] s (resumeCheck s d) := by
  unfold resumeCheck; split
  · exact within_makeResume _ _
  · exact Within.refl _ _

theorem within_forwardCell (s : State) (d : Side) (c : Cell) : Within offerParts s (forwardCell s d c) := by
  unfold forwardCell
  split
  · exact (((within_setSide _ _ _).seq (within_wakeSide _ _) : Within offerParts _ _)).seq (within_holdCheck _ _)
  · exact (within_countNode _ _).widen
  · exact (within_countSide _ _ _).widen
  · exact (within_countSide _ _ _).widen

/-- What a cell in hand that goes on can change. -/
def passParts : List Part := .inHand :: offerParts

theorem within_passOn (s : State) (d : Side) (c : Cell) : Within passParts s (passOn s d c) :=
  (within_withInHand s 0).seq (within_forwardCell _ _ _)

theorem within_passCopy (s : State) (d : Side) (c : Cell) : Within offerParts s (passCopy s d c) := by
  unfold passCopy; split
  · exact (within_countNode _ _).widen
  · exact within_forwardCell _ _ _

theorem within_handOnBeacon (s : State) (d : Side) (c : Cell) : Within passParts s (handOnBeacon s d c) := by
  unfold handOnBeacon
  refine (within_withInHand s 0).seq (b := offerParts) ?_
  dsimp only
  split
  · exact (within_countNode _ _).widen
  · split
    · exact (within_setSide _ _ _).seq (within_countSide _ _ _)
    · exact (within_setSide _ _ _).widen

theorem within_withdraw (s : State) (d : Side) (q : Half) : Within [.tiu] s (withdraw s d q) := within_setSide _ _ _

theorem within_flushSide (s : State) (d : Side) : Within offerParts s (flushSide s d) := by
  unfold flushSide
  exact ((within_setSide _ _ _).seq (within_setPort _ _ _) : Within offerParts _ _).seq (within_resumeCheck _ _)

theorem within_evalDoze (a s : State) (p : Port) : Within [.ports] s (evalDoze a s p) := by
  unfold evalDoze askDoze; split
  · exact within_setPort _ _ _
  · exact Within.refl _ _

theorem within_settleDoze (a s : State) : Within [.ports] s (settleDoze a s) :=
  (within_evalDoze _ _ _).trans (within_evalDoze _ _ _)

/-- A command that ends by `done` answers a next state, which is its effect but for the buffer in hand and for doze
requests newly placed in the ports. -/
theorem done_next (a b : State) : ∃ t, done a b = .next t ∧ Within [.ports, .inHand] b t :=
  ⟨_, rfl, (within_settleDoze a b).seq (within_withInHand _ _)⟩

theorem within_takeIn (s : State) (p : Port) : Within [.ports] s (takeIn s p) := within_setPort _ _ _
theorem within_countMalformed (s : State) (p : Port) : Within [.ports] s (countMalformed s p) := within_setPort _ _ _
theorem within_receiveCell (s : State) (p : Port) (c : Cell) : Within [.ports] s (receiveCell s p c) := within_setPort _ _ _
theorem within_turnAway (s : State) (p : Port) : Within [.ports] s (turnAway s p) := within_setPort _ _ _
theorem within_stir (s : State) (p : Port) : Within [.ports] s (stir s p) := by
  unfold stir; split
  · exact within_setPort _ _ _
  · exact within_setPort _ _ _
  · exact Within.refl _ _

theorem within_arrive (parts : List Part) (s : State) (p : Port) (c : Cell) (act : State → State)
    (sub : Part.ports ∈ parts) (h : ∀ t, Within parts t (act t)) : Within parts s (arrive s p c act) := by
  have w : ∀ t, Within [.ports] s t → Within parts s t := fun t k => k.mono (by intro q hq; simp at hq; exact hq ▸ sub)
  unfold arrive
  split
  · exact Within.refl _ _
  · refine Within.trans (w (receiveCell s p c) (within_receiveCell _ _ _)) ?_
    dsimp only
    split
    · exact (within_countMalformed _ _).mono (by intro q hq; simp at hq; exact hq ▸ sub)
    · split
      · exact ((within_takeIn _ _).mono (by intro q hq; simp at hq; exact hq ▸ sub)).trans (h _)
      · exact (within_turnAway _ _).mono (by intro q hq; simp at hq; exact hq ▸ sub)

theorem within_admit (parts : List Part) (s : State) (c : Cell) (act : State → State)
    (hn : Part.node ∈ parts) (hi : Part.inHand ∈ parts) (h : ∀ t, Within parts t (act t)) : Within parts s (admitCell s c act) := by
  have w : ∀ t, Within [.node] s t → Within parts s t := fun t k => k.mono (by intro q hq; simp at hq; exact hq ▸ hn)
  have v : ∀ t, Within [.inHand] s t → Within parts s t := fun t k => k.mono (by intro q hq; simp at hq; exact hq ▸ hi)
  unfold admitCell
  split
  · exact w _ (within_countNode _ _)
  · split
    · exact w _ (within_countNode _ _)
    · exact (v _ (within_withInHand s 1)).trans (h _)

theorem within_transitArrival (parts : List Part) (s : State) (p : Port) (c : Cell) (act : State → State)
    (hp : Part.ports ∈ parts) (hn : Part.node ∈ parts) (hi : Part.inHand ∈ parts) (h : ∀ t, Within parts t (act t)) :
    Within parts s (transitArrival s p c act) := by
  refine within_arrive _ _ _ _ _ hp (fun t => ?_)
  exact ((within_stir t p).mono (by intro q hq; simp at hq; exact hq ▸ hp)).trans (within_admit _ _ _ _ hn hi h)

theorem within_carry (parts : List Part) (s : State) (a : Side) (c : Cell) (consume : State → State)
    (hp : passParts.all (fun q => parts.contains q) = true) (h : ∀ t, Within parts t (consume t)) :
    Within parts s (carry s a c consume) := by
  have w : ∀ t u, Within passParts t u → Within parts t u := fun t u k => k.widen hp
  unfold carry
  split
  · exact h _
  · exact (w _ _ ((within_passCopy _ _ _).widen)).trans (h _)
  · exact w _ _ (within_passOn _ _ _)
  · exact w _ _ ((within_withInHand s 0).seq (within_countNode _ _))

/-! ## Custody -/

/-- What a dispatch pass can change. -/
def dispatchParts : List Part := .csd :: offerParts

theorem within_evalFlow (s : State) : Within [.gli] s (evalFlow s) := by
  unfold evalFlow
  split
  · exact within_withGli _ _
  · split
    · exact within_withGli _ _
    · exact Within.refl _ _

theorem within_changeEntry (s : State) (q : Half) (f : CustodyEntry → CustodyEntry) : Within [.csd] s (s.changeEntry q f) :=
  within_withCsd _ _

theorem within_dispatched (s : State) (e : CustodyEntry) (d : Side) : Within dispatchParts s (dispatched s e d) := by
  unfold dispatched
  exact ((within_offerEffect _ _ _).seq (within_changeEntry _ _ _) : Within dispatchParts _ _).seq (within_countCsd _ _)

theorem within_dispatchRefusal (s : State) (e : CustodyEntry) (d : Side) : Within dispatchParts s (dispatchRefusal s e d) := by
  unfold dispatchRefusal
  exact ((within_offerEffect _ _ _).seq (within_countCsd _ _) : Within dispatchParts _ _).seq (within_withCsd _ _)

theorem within_switched (s : State) (e : CustodyEntry) : Within [.csd] s (switched s e) :=
  (within_changeEntry _ _ _).trans (within_countCsd _ _)

theorem within_directed {s t : State} {e : CustodyEntry} {d : Side} (h : directed s e = some (d, t)) : Within [.csd] s t := by
  unfold directed at h
  split at h
  · cases h; exact within_switched _ _
  · split at h
    · cases h; exact Within.refl _ _
    · cases h

theorem within_passSteps (n : Nat) : ∀ s : State, Within dispatchParts s (passSteps n s) := by
  induction n with
  | zero => exact fun s => Within.refl _ s
  | succ n ih =>
    intro s
    unfold passSteps
    split
    · exact Within.refl _ _
    · split
      · exact Within.refl _ _
      · split
        · exact Within.refl _ _
        · next h =>
          have k : Within dispatchParts s _ := (within_directed h).widen
          split
          · exact (k.trans (within_dispatched _ _ _)).trans (ih _)
          · exact k.trans (within_dispatchRefusal _ _ _)

theorem within_dispatchPass (s : State) : Within dispatchParts s (dispatchPass s) := by
  unfold dispatchPass; split
  · exact within_passSteps _ _
  · exact Within.refl _ _

theorem within_completeRecord (s : State) (d : Side) (q : Half) : Within [.csd] s (completeRecord s d q) := by
  unfold completeRecord; split
  · exact within_withCsd _ _
  · exact Within.refl _ _

theorem within_withdrawAll (d : Side) (l : List Half) : ∀ s : State, Within [.tiu] s (l.foldl (fun x q => withdraw x d q) s) := by
  induction l with
  | nil => exact fun s => Within.refl _ s
  | cons q l ih => exact fun s => (within_withdraw s d q).trans (ih _)

theorem within_custodyPortDown (s : State) (d : Side) : Within dispatchParts s (custodyPortDown s d) := by
  unfold custodyPortDown; split
  · exact ((within_withdrawAll d _ s).seq (within_withCsd _ _) : Within dispatchParts _ _).seq (within_dispatchPass _)
  · exact Within.refl _ _

theorem within_reachWithdraw (d : Side) (s : State) (q : Half) : Within dispatchParts s (reachWithdraw d s q) := by
  unfold reachWithdraw; split
  · exact ((within_withdraw _ _ _).seq (within_changeEntry _ _ _) : Within dispatchParts _ _).seq (within_countCsd _ _)
  · exact Within.refl _ _

theorem within_reachWithdrawAll (d : Side) (l : List Half) :
    ∀ s : State, Within dispatchParts s (l.foldl (reachWithdraw d) s) := by
  induction l with
  | nil => exact fun s => Within.refl _ s
  | cons q l ih => exact fun s => (within_reachWithdraw d s q).trans (ih _)

theorem within_custodyReachLost (s : State) (d : Side) : Within dispatchParts s (custodyReachLost s d) := by
  unfold custodyReachLost; split
  · have k := within_reachWithdrawAll d (dispatchingTo s.csd.store d) s
    dsimp only
    split
    · exact k.trans (within_dispatchPass _)
    · exact k
  · exact Within.refl _ _

theorem within_removeEntry (s : State) (e : CustodyEntry) : Within dispatchParts s (removeEntry s e) := by
  unfold removeEntry
  split
  · exact (within_withdraw _ _ _).seq (within_withCsd _ _)
  · exact (within_withCsd _ _).widen

theorem within_takeAck (s : State) (q : Half) : Within (.gli :: dispatchParts) s (takeAck s q) := by
  unfold takeAck; split
  · exact ((within_removeEntry _ _).seq (within_evalFlow _) : Within (.gli :: dispatchParts) _ _).seq (within_dispatchPass _)
  · exact (within_countCsd _ _).widen

/-! ## Reach -/

/-- What a change of the Reach Table can bring about. -/
def reachParts : List Part := .reach :: dispatchParts

theorem within_refreshEntry (s : State) (d : Side) (c : Cell) : Within reachParts s (refreshEntry s d c) := by
  unfold refreshEntry; split
  · exact (within_setEntry _ _ _).widen
  · exact (within_setEntry _ _ _).seq (within_dispatchPass _)

theorem within_takeBeacon (s : State) (d : Side) (c : Cell) : Within (.inHand :: reachParts) s (takeBeacon s d c) := by
  unfold takeBeacon
  split
  · exact (within_withInHand s 0).seq (within_countEntry _ _ _)
  · split
    · refine (within_refreshEntry s d c).seq (b := passParts) ?_
      unfold retireOrHandOn; split
      · exact (within_withInHand _ 0).widen
      · exact within_handOnBeacon _ _ _
    · exact (within_withInHand s 0).seq (within_countEntry _ _ _)

theorem within_lapseEntry (s : State) (d : Side) : Within reachParts s (lapseEntry s d) :=
  (within_setEntry _ _ _).seq (within_custodyReachLost _ _)

theorem within_invalidateEntry (s : State) (d : Side) : Within reachParts s (invalidateEntry s d) := by
  unfold invalidateEntry; split
  · exact (within_setEntry _ _ _).seq (within_custodyReachLost _ _)
  · exact Within.refl _ _

/-! ## Office channels and the to-office queue -/

theorem within_setChannel (s : State) (n : Nat) (c : OfficeChannel) : Within [.gw] s (setChannel s n c) := within_withGw _ _
theorem within_officePush (s : State) (c : Cell) : Within [.gw] s (officePush s c) := within_withGw _ _
theorem within_giveNotice (s : State) (c : Cell) : Within [.node, .gw] s (giveNotice s c) := by
  unfold giveNotice
  split
  · exact (within_countGw _ _).widen
  · split
    · exact (within_officePush _ _).widen
    · exact (within_countGw _ _).seq (within_countNode _ _)
theorem within_passNotice (s : State) (c : Cell) : Within [.inHand, .gw] s (passNotice s c) := by
  unfold passNotice; split
  · exact (within_withInHand s 0).seq (within_officePush _ _)
  · exact (within_withInHand s 0).seq (within_countGw _ _)
theorem within_passToOffice (s : State) (c : Cell) : Within [.inHand, .gw] s (passToOffice s c) := by
  unfold passToOffice; split
  · exact (within_withInHand s 0).seq (within_officePush _ _)
  · exact (within_withInHand s 0).seq (within_countGw _ _)
theorem within_answerToOffice (s : State) (c : Cell) : Within [.node, .gw] s (answerToOffice s c) := by
  unfold answerToOffice
  split
  · exact (within_countGw _ _).widen
  · split
    · exact (within_officePush _ _).widen
    · exact (within_countNode _ _).widen

theorem within_releaseEntry (s : State) (d : Side) (id : Identity) : Within [.srt] s (releaseEntry s d id) :=
  within_setTable _ _ _
theorem within_releaseBoth (s : State) (id : Identity) : Within [.srt] s (releaseBoth s id) :=
  (within_releaseEntry _ _ _).trans (within_releaseEntry _ _ _)
theorem within_changeBoth (s : State) (id : Identity) (f : SrtEntry → SrtEntry) : Within [.srt] s (changeBoth s id f) :=
  (within_setTable _ _ _).trans (within_setTable _ _ _)

theorem within_makeBroken (s : State) (d : Side) (b : Byte) (id : Identity) (g : Byte) (r : BrokenReason) :
    Within controlParts s (makeBroken s d b id g r) :=
  (within_countCcu _ _).seq (within_offerControl _ _ _)
theorem within_makeRefuse (s : State) (d : Side) (id : Identity) (g : Byte) (r : RefuseReason) :
    Within controlParts s (makeRefuse s d id g r) :=
  (within_countCcu _ _).seq (within_offerControl _ _ _)
theorem within_freeChain (s : State) (n : Nat) (id : Identity) : Within [.srt, .gw] s (freeChain s n id) :=
  (within_releaseEntry _ _ _).seq (within_setChannel _ _ _)
theorem within_endChainLost (s : State) (d : Side) (e : SrtEntry) : Within [.node, .srt, .gw] s (endChainLost s d e) := by
  unfold endChainLost
  dsimp only
  split
  · exact ((within_releaseEntry _ _ _).seq (within_setChannel _ _ _) : Within [.node, .srt, .gw] _ _).seq (within_giveNotice _ _)
  · exact (within_releaseEntry _ _ _).widen

/-! ## Call circuits -/

/-- What a CALL cell or a call event can change, apart from the buffer in hand. -/
def callParts : List Part := [.ports, .node, .tiu, .srt, .lines, .ccu, .gw]

theorem within_preemptChain (s : State) (e : SrtEntry) : Within callParts s (preemptChain s e) := by
  unfold preemptChain
  dsimp only
  split
  · exact (((within_countCcu _ _).seq (within_freeChain _ _ _) : Within callParts _ _).seq (within_makeBroken _ _ _ _ _ _) :
      Within callParts _ _).seq (within_giveNotice _ _)
  · exact ((within_countCcu _ _).seq (within_releaseEntry _ _ _) : Within callParts _ _).seq (within_makeBroken _ _ _ _ _ _)

theorem within_preemptEntry (s : State) (d : Side) (e : SrtEntry) : Within callParts s (preemptEntry s d e) := by
  unfold preemptEntry
  dsimp only
  split
  · unfold preemptPath
    exact (((within_countCcu _ _).seq (within_releaseBoth _ _) : Within callParts _ _).seq (within_makeBroken _ _ _ _ _ _) :
      Within callParts _ _).seq (within_makeBroken _ _ _ _ _ _)
  · exact (within_countCcu _ _).seq (within_releaseEntry _ _ _)
  · exact (within_countCcu _ _).seq (within_releaseEntry _ _ _)

theorem within_ownRoom {may : Bool} {k : Spoken} {s t : State} {d : Side} {r : CallRecord} {v : Option Line}
    (h : ownRoom may k s d r = some (t, v)) : Within callParts s t := by
  unfold ownRoom at h
  split at h
  · cases h; exact Within.refl _ _
  · split at h
    · split at h
      · cases h; exact within_preemptEntry _ _ _
      · cases h
    · cases h

theorem within_setRecord (s : State) (l : Line) (r : CallRecord) : Within [.lines] s (setRecord s l r) := within_setLine _ _ _
theorem within_enterWaiting (s : State) (l : Line) (r : CallRecord) : Within [.lines] s (enterWaiting s l r) :=
  within_setRecord _ _ _
theorem within_takeSerial (s : State) (l : Line) (r : CallRecord) : Within [.lines] s (takeSerial s l r) := within_setLine _ _ _
theorem within_releaseOwn (s : State) (r : CallRecord) : Within [.srt] s (releaseOwn s r) := by
  unfold releaseOwn; split
  · exact within_releaseEntry _ _ _
  · exact Within.refl _ _
theorem within_reserveOwn (s : State) (l : Line) (d : Side) (r : CallRecord) : Within [.srt, .lines] s (reserveOwn s l d r) :=
  (within_setTable _ _ _).seq (within_takeSerial _ _ _)

theorem within_settleVictim (broken : State → Line → State) (hb : ∀ s l, Within callParts s (broken s l)) (s : State)
    (v : Option Line) : Within callParts s (settleVictim broken s v) := by
  unfold settleVictim; split
  · exact hb _ _
  · exact Within.refl _ _

theorem within_attemptSteps (may : Bool) (k : Spoken) (broken : Spoken → State → Line → State)
    (hb : ∀ k s l, Within callParts s (broken k s l)) (n : Nat) :
    ∀ (s : State) (l : Line) (r : CallRecord), Within callParts s (attemptSteps may k broken n s l r) := by
  induction n with
  | zero => exact fun s l r => (within_enterWaiting s l r).widen
  | succ n ih =>
    intro s l r
    unfold attemptSteps
    split
    · exact (within_enterWaiting _ _ _).widen
    · next d _ =>
      split
      · exact ih _ _ _
      · next t v h =>
        dsimp only
        have k1 : Within callParts s (reserveOwn (settleVictim (broken (spokenOwn d)) t v) l d r) :=
          ((within_ownRoom h).trans (within_settleVictim _ (hb _) _ _)).trans (within_reserveOwn _ _ _ _).widen
        split
        · refine k1.trans ?_
          exact ((within_offerEffect _ _ _).seq (within_setRecord _ _ _) : Within callParts _ _).seq (within_countLine _ _ _)
        · refine (k1.trans ?_).trans (ih _ _ _)
          exact (within_offerEffect _ _ _).seq (within_releaseEntry _ _ _)

theorem within_officeAttempt (s : State) (l : Line) (r : CallRecord) : Within callParts s (officeAttempt s l r) := by
  unfold officeAttempt
  dsimp only
  have k : Within callParts s (countAttempt (takeSerial s l r) l) := (within_takeSerial _ _ _).seq (within_countLine _ _ _)
  split
  · refine k.trans ?_
    unfold grantChannel
    exact ((((within_setChannel _ _ _).seq (within_officePush _ _) : Within callParts _ _).seq (within_countGw _ _) :
      Within callParts _ _).seq (within_setLine _ _ _) : Within callParts _ _).seq (within_countLine _ _ _)
  · refine k.trans ?_
    have c : Within callParts (countAttempt (takeSerial s l r) l) (channelRefusal (countAttempt (takeSerial s l r) l)) := by
      unfold channelRefusal
      dsimp only
      split
      · exact (within_countCcu _ _).seq (within_countNode _ _)
      · exact (within_countCcu _ _).widen
    exact c.trans (within_enterWaiting _ _ _).widen

theorem within_attemptPlain (k : Spoken) (s : State) (l : Line) (r : CallRecord) : Within callParts s (attemptPlain k s l r) := by
  unfold attemptPlain; split
  · exact within_officeAttempt _ _ _
  · exact within_attemptSteps _ _ _ (fun _ _ _ => Within.refl _ _) _ _ _ _

theorem within_breakRecord (att : State → Line → CallRecord → State) (ha : ∀ s l r, Within callParts s (att s l r)) (s : State)
    (l : Line) : Within callParts s (breakRecord att s l) := by
  unfold breakRecord
  split
  · split
    · exact ((within_releaseOwn _ _).seq (within_setLine _ _ _) : Within callParts _ _).trans (ha _ _ _)
    · exact Within.refl _ _
  · exact Within.refl _ _

theorem within_preemptedRecord (k : Spoken) (s : State) (l : Line) : Within callParts s (preemptedRecord k s l) :=
  within_breakRecord _ (within_attemptPlain k) _ _

theorem within_attempt (s : State) (l : Line) (r : CallRecord) : Within callParts s (attempt s l r) := by
  unfold attempt; split
  · exact within_officeAttempt _ _ _
  · exact within_attemptSteps _ _ _ within_preemptedRecord _ _ _ _

theorem within_recordBroken (s : State) (l : Line) : Within callParts s (recordBroken s l) :=
  within_breakRecord _ within_attempt _ _

theorem within_recordRefused (s : State) (l : Line) : Within callParts s (recordRefused s l) := by
  unfold recordRefused; split
  · exact ((within_releaseOwn _ _).widen).trans (within_attempt _ _ _)
  · exact Within.refl _ _

theorem within_recordReleased (s : State) (l : Line) : Within callParts s (recordReleased s l) := by
  unfold recordReleased; split
  · exact (within_releaseOwn _ _).seq (within_setLine _ _ _)
  · exact Within.refl _ _

theorem within_recordAccepted (s : State) (l : Line) (r : CallRecord) (id : Identity) (d : Side) :
    Within callParts s (recordAccepted s l r id d) :=
  ((within_setTable _ _ _).seq (within_setLine _ _ _) : Within callParts _ _).seq (within_countLine _ _ _)

theorem within_playoutPush (s : State) (l : Line) (b : List Byte) : Within [.lines] s (playoutPush s l b) := by
  unfold playoutPush; split
  · exact (within_setLine _ _ _).trans (within_countLine _ _ _)
  · exact within_setLine _ _ _

theorem within_takeStale (s : State) (a : Side) (c : Cell) : Within callParts s (takeStale s a c) := by
  have h : Within callParts s (answerStale s a c) := by
    unfold answerStale
    dsimp only
    split
    · exact Within.refl _ _
    · exact ((within_offerControl _ _ _).seq (within_setLine _ _ _) : Within callParts _ _).seq (within_countLine _ _ _)
  unfold takeStale
  split
  · exact h
  · exact h
  · exact Within.refl _ _

theorem within_takeAtOrigin (s : State) (a : Side) (c : Cell) : Within callParts s (takeAtOrigin s a c) := by
  unfold takeAtOrigin
  dsimp only
  split
  · split
    · unfold takeSeeking; split
      · exact within_recordAccepted _ _ _ _ _
      · exact within_recordRefused _ _
      · exact within_recordBroken _ _
      · exact within_recordReleased _ _
      · exact Within.refl _ _
    · unfold takeConnected; split
      · exact (within_setTable _ _ _).seq (within_playoutPush _ _ _)
      · exact within_recordBroken _ _
      · exact within_recordReleased _ _
      · exact Within.refl _ _
    · exact within_takeStale _ _ _
  · exact within_takeStale _ _ _

theorem within_reservePath (s : State) (a : Side) (id : Identity) (g : Grade) : Within [.srt] s (reservePath s a id g) :=
  (within_setTable _ _ _).trans (within_setTable _ _ _)

theorem within_yieldTable (s : State) (d : Side) : Within callParts s (yieldTable s d) := by
  unfold yieldTable
  split
  · split
    · exact (within_preemptEntry _ _ _).trans (within_settleVictim _ (within_preemptedRecord _) _ _)
    · exact Within.refl _ _
  · exact Within.refl _ _

theorem within_preemptAndReserve (s : State) (a : Side) (id : Identity) (g : Grade) :
    Within callParts s (preemptAndReserve s a id g) := by
  unfold preemptAndReserve
  exact ((within_yieldTable _ _).trans (within_yieldTable _ _)).trans (within_reservePath _ _ _ _).widen

/-- What a CALL cell in hand can change. -/
def callCellParts : List Part := .inHand :: .freeUses :: callParts

theorem within_changePath (s : State) (id : Identity) (f : SrtEntry → SrtEntry) : Within [.srt] s (changePath s id f) := by
  unfold changePath; split
  · exact Within.refl _ _
  · exact within_changeBoth _ _ _

theorem within_releasePath (s : State) (id : Identity) : Within [.srt] s (releasePath s id) := by
  unfold releasePath; split
  · exact Within.refl _ _
  · exact within_releaseBoth _ _

theorem within_carryOn (s : State) (a : Side) (c : Cell) : Within callCellParts s (carryOn s a c) := by
  unfold carryOn; split
  · exact (within_withInHand s 0).seq (within_countNode _ _)
  · exact (within_passOn _ _ _).widen

theorem within_takeAtPath (s : State) (a : Side) (c : Cell) : Within callCellParts s (takeAtPath s a c) := by
  unfold takeAtPath
  split
  · unfold pathSetup
    dsimp only
    split
    · exact (within_withInHand s 0).seq (within_makeRefuse _ _ _ _ _)
    · exact (within_preemptAndReserve _ _ _ _).seq (within_carryOn _ _ _)
    · exact (within_reservePath _ _ _ _).seq (within_carryOn _ _ _)
  · unfold pathAccept
    dsimp only
    split
    · exact (within_changePath _ _ _).seq (within_carryOn _ _ _)
    · unfold lostAccept
      dsimp only
      exact ((within_withTimes s 0 _).seq (within_makeBroken _ _ _ _ _ _) : Within callCellParts _ _).seq
        (within_makeBroken _ _ _ _ _ _)
  · unfold pathUpgrade
    dsimp only
    split
    · exact (within_changePath _ _ _).seq (within_carryOn _ _ _)
    · exact (within_withInHand s 0).seq (within_countCcu _ _)
  · exact (within_changePath _ _ _).seq (within_carryOn _ _ _)
  · exact (within_releasePath _ _).seq (within_carryOn _ _ _)

theorem within_gatewayAccept (s : State) (c : Cell) (id : Identity) (g : Grade) :
    Within callCellParts s (gatewayAccept s c id g) := by
  unfold gatewayAccept
  split
  · dsimp only
    exact (((((within_setTable _ _ _).seq (within_setChannel _ _ _) : Within callCellParts _ _).seq (within_offerControl _ _ _) :
      Within callCellParts _ _).seq (within_withInHand _ 0) : Within callCellParts _ _).seq (within_officePush _ _) :
      Within callCellParts _ _).seq (within_countGw _ _)
  · exact Within.refl _ _

theorem within_gatewaySetup (s : State) (c : Cell) : Within callCellParts s (gatewaySetup s c) := by
  unfold gatewaySetup
  dsimp only
  split
  · exact (within_makeRefuse _ _ _ _ _).widen
  · refine Within.trans ?_ (within_gatewayAccept _ _ _ _)
    unfold gatewayPreempt
    split
    · exact (within_preemptChain _ _).widen
    · exact Within.refl _ _
  · exact within_gatewayAccept _ _ _ _

theorem within_gatewayUpgrade (s : State) (c : Cell) : Within callCellParts s (gatewayUpgrade s c) := by
  unfold gatewayUpgrade
  dsimp only
  split
  · split
    · exact ((within_setTable _ _ _).seq (within_setChannel _ _ _) : Within callCellParts _ _).seq (within_passNotice _ _)
    · exact (within_countCcu _ _).widen
  · exact (within_countCcu _ _).widen

theorem within_gatewayRelease (s : State) (c : Cell) : Within callCellParts s (gatewayRelease s c) := by
  unfold gatewayRelease
  dsimp only
  split
  · split
    · exact (within_freeChain _ _ _).seq (within_passNotice _ _)
    · exact Within.refl _ _
  · exact Within.refl _ _

theorem within_playLocal (s : State) (n : Nat) (id : Identity) (g : Grade) (c : CellData) :
    Within [.lines, .gw] s (playLocal s n id g c) :=
  (within_setChannel _ _ _).seq (within_playoutPush _ _ _)

theorem within_passVoice (s : State) (n : Nat) (g : Grade) (c : Cell) : Within [.inHand, .gw] s (passVoice s n g c) := by
  unfold passVoice; split
  · exact (within_withInHand s 0).seq (within_officePush _ _)
  · exact (within_withInHand s 0).seq (within_countGw _ _)

theorem within_gatewayVoice (s : State) (c : Cell) : Within callCellParts s (gatewayVoice s c) := by
  unfold gatewayVoice
  dsimp only
  split
  · split
    · exact (within_setTable _ _ _).seq (within_passVoice _ _ _ _)
    · exact (within_playLocal _ _ _ _ _).widen
    · exact Within.refl _ _
  · exact (within_countGw _ _).widen

theorem within_takeCall (s : State) (a : Side) (c : Cell) : Within callCellParts s (takeCall s a c) := by
  have m : Within callCellParts s (misdirected s) := (within_withInHand s 0).seq (within_countCcu _ _)
  unfold takeCall
  split
  · unfold takeAtGateway; split
    · exact within_gatewaySetup _ _
    · exact within_gatewayUpgrade _ _
    · exact within_gatewayRelease _ _
    · exact within_gatewayRelease _ _
    · exact within_gatewayVoice _ _
    · exact Within.refl _ _
  · split
    · split
      · exact (within_takeAtOrigin _ _ _).widen
      · exact m
    · split
      · exact m
      · exact within_takeAtPath _ _ _

theorem within_callArrival (s : State) (p : Port) (c : Cell) : Within callCellParts s (callArrival s p c) :=
  within_transitArrival _ _ _ _ _ (by decide) (by decide) (by decide) (fun _ => within_takeCall _ _ _)

theorem within_breakEntry (d : Side) (s : State) (e : SrtEntry) : Within callParts s (breakEntry d s e) := by
  unfold breakEntry; split
  · exact (within_releaseBoth _ _).seq (within_makeBroken _ _ _ _ _ _)
  · exact ((within_releaseEntry _ _ _).widen).trans (within_recordBroken _ _)
  · exact (within_endChainLost _ _ _).widen

theorem within_breakAll (d : Side) (l : List SrtEntry) : ∀ s : State, Within callParts s (l.foldl (breakHeld d) s) := by
  induction l with
  | nil => exact fun s => Within.refl _ s
  | cons e l ih =>
    intro s
    refine Within.trans ?_ (ih _)
    unfold breakHeld; split
    · exact within_breakEntry _ _ _
    · exact Within.refl _ _

theorem within_circuitsPortDown (s : State) (d : Side) : Within callParts s (circuitsPortDown s d) := within_breakAll _ _ _

/-! ## Port events -/

theorem within_makeBeacon (s : State) : Within (.gw :: offerParts) s (makeBeacon s) := by
  unfold makeBeacon
  dsimp only
  split
  · exact (within_offerEffect _ _ _).seq (within_withGw _ _)
  · exact (within_offerEffect _ _ _).seq (within_countGw _ _)

theorem within_gatewayPortUp (s : State) : Within (.gw :: offerParts) s (gatewayPortUp s) := by
  unfold gatewayPortUp; split
  · exact (within_makeBeacon _).seq (within_withGw _ _)
  · exact Within.refl _ _

theorem within_gatewayPortDown (s : State) : Within [.gw] s (gatewayPortDown s) := by
  unfold gatewayPortDown; split
  · exact within_withGw _ _
  · exact Within.refl _ _

theorem within_portUp (b : Bool) (s : State) (p : Port) : Within (.gw :: dispatchParts) s (portUp b s p) := by
  unfold portUp
  dsimp only
  have k : Within (.gw :: dispatchParts) s
      (dispatchPass (holdCheck (s.countPort p (fun n => { n with portUps := satInc n.portUps }))
        (otherSide ((s.countPort p (fun n => { n with portUps := satInc n.portUps })).sideOf p)))) :=
    ((within_countPort _ _ _).seq (within_holdCheck _ _) : Within (.gw :: dispatchParts) _ _).seq (within_dispatchPass _)
  split
  · exact k.trans (within_gatewayPortUp _).widen
  · exact k

/-- What PORT-DOWN can change. -/
def downParts : List Part := [.ports, .node, .tiu, .reach, .srt, .lines, .ccu, .csd, .gw]

theorem within_portDown (s : State) (p : Port) : Within downParts s (portDown s p) := by
  unfold portDown
  dsimp only
  exact (((((within_countPort _ _ _).seq (within_flushSide _ _) : Within downParts _ _).seq (within_invalidateEntry _ _) :
    Within downParts _ _).seq (within_circuitsPortDown _ _) : Within downParts _ _).seq (within_custodyPortDown _ _) :
    Within downParts _ _).seq (within_gatewayPortDown _)

theorem within_loseLock (s : State) (p : Port) : Within downParts s (loseLock s p) := by
  unfold loseLock
  dsimp only
  split
  · exact (within_setPort _ _ _).widen
  · exact ((within_setPort _ _ _).widen).trans (within_portDown _ _)
  · exact ((within_setPort _ _ _).widen).trans (within_portDown _ _)
  · exact ((within_setPort _ _ _).widen).trans (within_portDown _ _)
  · exact (within_setPort _ _ _).widen
  · exact Within.refl _ _

theorem within_takeHello (s : State) (p : Port) (c : CellData) : Within downParts s (takeHello s p c) := by
  have seek : ∀ (t : State) (n : Neighbour), Within downParts t (seekHello t p c n) := by
    intro t n
    unfold seekHello
    dsimp only
    split
    · exact (within_setPort _ _ _).seq (within_portUp _ _ _)
    · exact (within_setPort _ _ _).widen
  unfold takeHello
  split
  · unfold checkedHello
    dsimp only
    split
    · split
      · exact (within_setPort _ _ _).seq (within_portDown _ _)
      · exact (within_setPort _ _ _).widen
    · split
      · unfold serviceHello
        dsimp only
        split
        · exact (within_setPort _ _ _).widen
        · exact ((within_setPort _ _ _).seq (within_portDown _ _) : Within downParts _ _).trans (seek _ _)
      · exact seek _ _
  · exact (within_countMalformed _ _).widen

/-! ## Sign, weather and status -/

theorem within_raiseIncident (s : State) : Within [.sps] s (raiseIncident s) := by
  unfold raiseIncident; split
  · exact within_withSps _ _
  · exact Within.refl _ _

theorem within_offerReply (s : State) (side : Option Side) (c : Cell) :
    Within (.sps :: .gw :: offerParts) s (offerReply s side c) := by
  unfold offerReply
  split
  · split
    · exact (within_offerEffect _ _ _).widen
    · exact (within_offerEffect _ _ _).seq (within_countSps _ _)
  · split
    · exact (within_answerToOffice _ _).widen
    · exact (within_answerToOffice _ _).seq (within_countSps _ _)

/-- What a SIGN command taken can change. -/
def signParts : List Part := .sps :: .gw :: offerParts

theorem within_finishTask (s : State) (t : SignTask) (r : SignReason) (n : Nat) : Within signParts s (finishTask s t r n) := by
  unfold finishTask
  dsimp only
  exact ((within_countSps _ _).seq (within_offerReply _ _ _) : Within signParts _ _).seq (within_withSps _ _)

theorem within_reasonsOn (s : State) : Within [.sps] s (reasonsOn s) := by
  unfold reasonsOn; dsimp only
  split
  · exact within_withSps _ _
  · split
    · exact within_withSps _ _
    · exact within_withSps _ _

theorem within_reasonsOff (s : State) : Within [.sps] s (reasonsOff s) := by
  unfold reasonsOff; dsimp only
  split
  · exact within_withSps _ _
  · exact within_withSps _ _

theorem within_settleReasons (a s : State) : Within [.sps, .wsu] s (settleReasons a s) := by
  unfold settleReasons
  split
  · dsimp only
    split
    · exact (within_countWsu _ _).seq (within_reasonsOn _)
    · exact (within_countWsu _ _).widen
  · split
    · split
      · exact (within_reasonsOff _).widen
      · exact Within.refl _ _
    · exact Within.refl _ _

theorem within_answerPoll (s : State) (side : Option Side) (c : CellData) :
    Within (.wsu :: .gw :: offerParts) s (answerPoll s side c) := by
  unfold answerPoll
  dsimp only
  split
  · split
    · exact (within_offerEffect _ _ _).seq (within_countWsu _ _)
    · exact (within_offerEffect _ _ _).seq (within_countWsu _ _)
  · split
    · exact (within_answerToOffice _ _).seq (within_countWsu _ _)
    · exact (within_answerToOffice _ _).seq (within_countWsu _ _)

theorem within_answerQuery (s : State) (side : Option Side) (c : CellData) :
    Within (.maint :: .freeUses :: .gw :: offerParts) s (answerQuery s side c) := by
  have w := within_withFreeUses s (s.freeUses + 1)
  unfold answerQuery
  dsimp only
  split
  · split
    · exact (w.seq (within_offerEffect _ _ _) : Within (.maint :: .freeUses :: .gw :: offerParts) _ _).seq (within_withMaint _ _)
    · exact (w.seq (within_offerEffect _ _ _) : Within (.maint :: .freeUses :: .gw :: offerParts) _ _).seq (within_withMaint _ _)
  · split
    · exact (w.seq (within_answerToOffice _ _) : Within (.maint :: .freeUses :: .gw :: offerParts) _ _).seq (within_withMaint _ _)
    · exact (w.seq (within_answerToOffice _ _) : Within (.maint :: .freeUses :: .gw :: offerParts) _ _).seq (within_withMaint _ _)

end Sys2Proof.Machine
end

