-- ==== Sys2Proof/Laws/Ops.lean ====
section
/-! SUPPORT. What the shared operations do, said once: the end of a command, arrivals and grants, offers, forwarding. -/

set_option Elab.async false

namespace Sys2Proof.Machine

/-! ## Reading State after an update of one part -/

@[simp] theorem setPort_station (s : State) (p : Port) (u : PortUnit) : (s.setPort p u).station = s.station := rfl
@[simp] theorem setPort_isGateway (s : State) (p : Port) (u : PortUnit) : (s.setPort p u).isGateway = s.isGateway := rfl
@[simp] theorem setPort_sideOf (s : State) (p q : Port) (u : PortUnit) : (s.setPort p u).sideOf q = s.sideOf q := rfl
@[simp] theorem setPort_side (s : State) (p : Port) (u : PortUnit) (d : Side) : (s.setPort p u).side d = s.side d := rfl
@[simp] theorem setPort_table (s : State) (p : Port) (u : PortUnit) (d : Side) : (s.setPort p u).table d = s.table d := rfl
@[simp] theorem setPort_entry (s : State) (p : Port) (u : PortUnit) (d : Side) : (s.setPort p u).entry d = s.entry d := rfl
@[simp] theorem setPort_line (s : State) (p : Port) (u : PortUnit) (l : Line) : (s.setPort p u).line l = s.line l := rfl
@[simp] theorem setPort_ne (s : State) (p q : Port) (u : PortUnit) (h : q ≠ p) : (s.setPort p u).port q = s.port q := by
  cases p <;> cases q <;> first | rfl | exact absurd rfl h
@[simp] theorem setSide_port (s : State) (d : Side) (t : Tiu) (p : Port) : (s.setSide d t).port p = s.port p := rfl
@[simp] theorem setSide_table (s : State) (d e : Side) (t : Tiu) : (s.setSide d t).table e = s.table e := rfl

theorem portOf_ne (s : State) (d : Side) : s.portOf (otherSide d) ≠ s.portOf d := by
  unfold State.portOf strapPort; cases d <;> cases s.straps.flip <;> decide

/-! ## Doze and the end of a command (R28, R29) -/

theorem evalDoze_port (a b : State) (p : Port) :
    (evalDoze a b p).port p
      = if dozeBecame a b p then
          { b.port p with slotDozeReq := some (linkCell b.station .dozeReq), dozeRetry := some dozeRetryMs }
        else b.port p := by
  unfold evalDoze askDoze
  split
  · exact setPort_port _ _ _
  · rfl

theorem evalDoze_port_ne (a b : State) (p q : Port) (h : q ≠ p) : (evalDoze a b p).port q = b.port q := by
  unfold evalDoze askDoze
  split
  · exact setPort_ne _ _ _ _ h
  · rfl

theorem evalDoze_station (a b : State) (p : Port) : (evalDoze a b p).station = b.station := by
  unfold evalDoze askDoze; split <;> rfl

theorem evalDoze_became_ne (a b : State) (p q : Port) (h : q ≠ p) : dozeBecame a (evalDoze a b p) q = dozeBecame a b q := by
  unfold dozeBecame State.dozeCondition
  rw [evalDoze_port_ne a b p q h]
  have w := within_evalDoze a b p
  have h1 : (evalDoze a b p).straps = b.straps := w .straps (by decide)
  have h2 : (evalDoze a b p).srt = b.srt := w .srt (by decide)
  have h3 : (evalDoze a b p).tiu = b.tiu := w .tiu (by decide)
  simp only [State.sideOf, State.table, State.side, h1, h2, h3]

/-- R29: a port after the doze request is evaluated. -/
theorem settleDoze_port (a b : State) (p : Port) :
    (settleDoze a b).port p
      = if dozeBecame a b p then
          { b.port p with slotDozeReq := some (linkCell b.station .dozeReq), dozeRetry := some dozeRetryMs }
        else b.port p := by
  unfold settleDoze
  cases p
  · rw [evalDoze_port_ne _ _ _ _ (by decide), evalDoze_port]
  · rw [evalDoze_port, evalDoze_became_ne _ _ _ _ (by decide), evalDoze_port_ne _ _ _ _ (by decide), evalDoze_station]

/-- The end of a command answers the next state, with no buffer in hand and the ports as the doze request leaves them. -/
theorem done_eq (a b : State) :
    done a b = .next { b with ports := (settleDoze a b).ports, inHand := 0 } := by
  have w := within_settleDoze a b
  unfold done
  generalize settleDoze a b = x at w ⊢
  have h1 := w .pending (by decide); have h2 := w .power (by decide); have h3 := w .straps (by decide)
  have h4 := w .powerOnCount (by decide); have h5 := w .dark (by decide); have h6 := w .node (by decide)
  have h7 := w .tiu (by decide); have h8 := w .reach (by decide); have h9 := w .srt (by decide)
  have h10 := w .lines (by decide); have h11 := w .ccu (by decide); have h12 := w .gli (by decide)
  have h13 := w .csd (by decide); have h14 := w .sps (by decide); have h15 := w .wsu (by decide)
  have h16 := w .gw (by decide); have h17 := w .maint (by decide); have h18 := w .freeUses (by decide)
  cases x; cases b
  simp only [Same] at *
  simp_all

/-- A port is left as the command made it where its doze condition does not become true. -/
theorem settleDoze_same (a b : State) (p : Port) (h : dozeBecame a b p = false) : (settleDoze a b).port p = b.port p := by
  rw [settleDoze_port, h]; rfl

/-- Where no doze condition becomes true, a command ends with its own state and no buffer in hand. -/
theorem done_quiet (a b : State) (h : ∀ p, dozeBecame a b p = false) : done a b = .next { b with inHand := 0 } := by
  rw [done_eq]
  have h1 : (settleDoze a b).ports.sp1 = b.ports.sp1 := settleDoze_same a b .sp1 (h .sp1)
  have h2 : (settleDoze a b).ports.sp2 = b.ports.sp2 := settleDoze_same a b .sp2 (h .sp2)
  have : (settleDoze a b).ports = b.ports := by
    cases e : (settleDoze a b).ports; cases f : b.ports; rw [e, f] at h1 h2; simp_all
  rw [this]

/-- A doze condition that does not become true. -/
theorem dozeBecame_false (a b : State) (p : Port) (h : b.dozeCondition p = true → a.dozeCondition p = true) :
    dozeBecame a b p = false := by
  unfold dozeBecame
  cases hb : b.dozeCondition p
  · rfl
  · rw [h hb]; rfl

/-- What a command leaves in a port but for the doze request and its timer. -/
theorem settleDoze_fields (a b : State) (p : Port) :
    (settleDoze a b).port p
      = { b.port p with
          slotDozeReq := ((settleDoze a b).port p).slotDozeReq, dozeRetry := ((settleDoze a b).port p).dozeRetry } := by
  rw [settleDoze_port]; split <;> rfl

/-! ## Arrivals (R21, R37, R40) -/

/-- R40: every outcome of the tests leaves the receive register free, whatever stood in it. -/
@[simp] theorem takeIn_received (s : State) (p : Port) (c : Cell) : takeIn (receiveCell s p c) p = takeIn s p := by
  cases p <;> rfl
@[simp] theorem countMalformed_received (s : State) (p : Port) (c : Cell) :
    countMalformed (receiveCell s p c) p = countMalformed s p := by cases p <;> rfl
@[simp] theorem turnAway_received (s : State) (p : Port) (c : Cell) : turnAway (receiveCell s p c) p = turnAway s p := by
  cases p <;> rfl
@[simp] theorem goodCell_received (s : State) (p : Port) (c : Cell) : goodCell (receiveCell s p c) p = goodCell s p := by
  cases p <;> rfl

theorem arrive_taken (s : State) (p : Port) (c : Cell) (act : State → State) (h : cellTaken s p c = true) :
    arrive s p c act = act (takeIn s p) := by
  simp only [cellTaken, Bool.and_eq_true] at h
  simp [arrive, h.1.1, h.1.2, h.2]

theorem arrive_malformed (s : State) (p : Port) (c : Cell) (act : State → State) (h : receives s p = true)
    (k : headerOk c = false) : arrive s p c act = countMalformed s p := by
  simp [arrive, h, k]

theorem arrive_turned_away (s : State) (p : Port) (c : Cell) (act : State → State) (h : receives s p = true)
    (k : headerOk c = true) (out : inServiceState (s.port p).state = false) : arrive s p c act = turnAway s p := by
  simp [arrive, h, k, out]

/-- A change of a port that keeps its cell in transmission keeps the pool. -/
theorem poolHeld_setPort (s : State) (p : Port) (u : PortUnit) (h : u.sending = (s.port p).sending) :
    (s.setPort p u).poolHeld = s.poolHeld := by
  cases p
  · have : (s.setPort .sp1 u).ports.sp1.sending = s.ports.sp1.sending := h
    unfold State.poolHeld; rw [this]; rfl
  · have : (s.setPort .sp2 u).ports.sp2.sending = s.ports.sp2.sending := h
    unfold State.poolHeld; rw [this]; rfl

theorem stir_eq (s : State) (p : Port) : ∃ u, stir s p = s.setPort p u ∧ u.sending = (s.port p).sending
    ∧ u.counts = (s.port p).counts ∧ inServiceState u.state = inServiceState (s.port p).state := by
  unfold stir
  split
  · exact ⟨_, rfl, rfl, rfl, rfl⟩
  · rename_i h; exact ⟨_, rfl, rfl, rfl, by rw [h]; rfl⟩
  · refine ⟨s.port p, ?_, rfl, rfl, rfl⟩
    cases p <;> rfl

/-- R37: a taken cell of a class that holds a buffer, on its grant: `act` runs with the buffer in hand, on a state that
differs from the one before in the arrival port alone. -/
theorem transitArrival_granted (s : State) (p : Port) (c : Cell) (act : State → State) (h : cellGranted s p c = true) :
    ∃ u, transitArrival s p c act = act { s.setPort p u with inHand := 1 } ∧ u.sending = (s.port p).sending
      ∧ u.counts = { (s.port p).counts with cellsIn := satInc (s.port p).counts.cellsIn }
      ∧ inServiceState u.state = true ∧ ((s.port p).state = .doze → u.state = .waking)
      ∧ u = (stir (takeIn s p) p).port p := by
  simp only [cellGranted, Bool.and_eq_true, bne_iff_ne, ne_eq, decide_eq_true_eq] at h
  obtain ⟨⟨ht, hh⟩, hp⟩ := h
  have hs : inServiceState (s.port p).state = true := by
    simp only [cellTaken, Bool.and_eq_true] at ht; exact ht.2
  obtain ⟨u, hu, h1, h2, h3⟩ := stir_eq (takeIn s p) p
  have e : (takeIn s p).setPort p u = s.setPort p u := by unfold takeIn; cases p <;> rfl
  have hu' : u = (stir (takeIn s p) p).port p := by rw [hu]; simp
  rw [e] at hu
  have k1 : u.sending = (s.port p).sending := by rw [h1]; unfold takeIn; simp
  refine ⟨u, ?_, k1, ?_, ?_, ?_, hu'⟩
  · unfold transitArrival
    rw [arrive_taken s p c _ ht]
    unfold admitCell
    have pool : (stir (takeIn s p) p).poolFree = s.poolFree := by
      rw [hu]; unfold State.poolFree; rw [poolHeld_setPort s p u k1]
    have hh' : c.hops ≠ hopLimit := hh
    simp only [hh', if_false, pool, Nat.pos_iff_ne_zero.mp hp]
    rw [hu]
  · rw [h2]; unfold takeIn; simp
  · rw [h3]; unfold takeIn; simpa using hs
  · intro hd
    rw [hu']
    have : ((takeIn s p).port p).state = .doze := by unfold takeIn; simpa using hd
    unfold stir; rw [this]; simp [enterWaking, enterState]

/-! ## Offers (R45) -/

/-- R45: a side that takes local cells of a class takes a cell that is no VOICE. -/
theorem offer_taken (s : State) (d : Side) (c : Cell) (h : takesLocal s d (cellClass c) = true) (v : c.kind ≠ .voice) :
    offerAnswer s d c = .taken := by
  simp only [takesLocal, Bool.and_eq_true, decide_eq_true_eq] at h
  obtain ⟨⟨h1, h2⟩, h3⟩ := h
  have v' : unreserved (s.table d) c = false := by simp [unreserved, v]
  simp [offerAnswer, h1, Nat.not_le.mpr h2, v', h3]

/-- R45: an offer that is taken places the cell, and changes no other side. -/
theorem offerEffect_taken (s : State) (d : Side) (c : Cell) (h : offerAnswer s d c = .taken) :
    (offerEffect s d c).side d = insPush (s.side d) c
      ∧ (offerEffect s d c).side (otherSide d) = s.side (otherSide d) ∧ (offerEffect s d c).node = s.node := by
  unfold offerEffect
  rw [h]
  simp only
  split
  · exact ⟨by simp, by simp, rfl⟩
  · unfold wakeSide
    split <;> exact ⟨by simp, by simp, rfl⟩

/-! ## Identities -/

/-- The reference field of a call gives the call back. -/
theorem identity_of_reference (id : Identity) : identityOf (referenceOf id) = id := by
  obtain ⟨st, ph, se⟩ := id
  have h1 := st.isLt
  have h2 := se.isLt
  unfold identityOf referenceOf
  congr 1
  · apply BitVec.eq_of_toNat_eq
    simp only [BitVec.extractLsb'_toNat, BitVec.toNat_ofNat, Nat.shiftRight_eq_div_pow]
    cases ph <;> simp only [lineCode] <;> omega
  · cases ph <;> simp only [lineCode, BitVec.getLsbD_ofNat, Nat.testBit, Nat.shiftRight_eq_div_pow]
    · have : (256 * st.toNat + se.toNat) / 16 % 2 = 0 := by omega
      simp [Nat.one_and_eq_mod_two, this]
    · have : (256 * st.toNat + 16 + se.toNat) / 16 % 2 = 1 := by omega
      simp [Nat.one_and_eq_mod_two, this]
  · apply BitVec.eq_of_toNat_eq
    simp only [BitVec.extractLsb'_toNat, BitVec.toNat_ofNat, Nat.shiftRight_eq_div_pow]
    cases ph <;> simp only [lineCode] <;> omega

end Sys2Proof.Machine
end

