-- ==== Sys2Proof/Laws/Arrivals.lean ====
section
/-! SUPPORT. The state an admitted cell meets, and what forwarding, offers and the end of a command leave. -/

set_option Elab.async false

namespace Sys2Proof.Machine

/-- The state an admitted cell meets: its arrival port changed, its buffer in hand. -/
def met (s : State) (p : Port) (u : PortUnit) : State := { s.setPort p u with inHand := 1 }

section
variable (s : State) (p : Port) (u : PortUnit)
@[simp] theorem met_straps : (met s p u).straps = s.straps := rfl
@[simp] theorem met_side (d : Side) : (met s p u).side d = s.side d := rfl
@[simp] theorem met_table (d : Side) : (met s p u).table d = s.table d := rfl
@[simp] theorem met_entry (d : Side) : (met s p u).entry d = s.entry d := rfl
@[simp] theorem met_line (l : Line) : (met s p u).line l = s.line l := rfl
@[simp] theorem met_station : (met s p u).station = s.station := rfl
@[simp] theorem met_isGateway : (met s p u).isGateway = s.isGateway := rfl
@[simp] theorem met_inner : (met s p u).inner = s.inner := rfl
@[simp] theorem met_sideOf (q : Port) : (met s p u).sideOf q = s.sideOf q := rfl
@[simp] theorem met_portOf (d : Side) : (met s p u).portOf d = s.portOf d := rfl
@[simp] theorem met_gw : (met s p u).gw = s.gw := rfl
@[simp] theorem met_ccu : (met s p u).ccu = s.ccu := rfl
@[simp] theorem met_node : (met s p u).node = s.node := rfl
@[simp] theorem met_tiu : (met s p u).tiu = s.tiu := rfl
@[simp] theorem met_srt : (met s p u).srt = s.srt := rfl
@[simp] theorem met_sps : (met s p u).sps = s.sps := rfl
@[simp] theorem met_wsu : (met s p u).wsu = s.wsu := rfl
@[simp] theorem met_csd : (met s p u).csd = s.csd := rfl
@[simp] theorem met_inHand : (met s p u).inHand = 1 := rfl
@[simp] theorem met_port : (met s p u).port p = u := setPort_port s p u

theorem within_met : Within [.inHand, .ports] s (met s p u) := (within_setPort s p u).seq (within_withInHand _ 1)

theorem met_inService (d : Side) (hu : inServiceState u.state = true) (hs : inServiceState (s.port p).state = true) :
    (met s p u).inService d = s.inService d := by
  unfold State.inService State.sidePort
  show inServiceState ((s.setPort p u).port (s.portOf d)).state = _
  by_cases h : s.portOf d = p
  · rw [h, setPort_port, hu, hs]
  · rw [setPort_ne _ _ _ _ h]

theorem met_pool (k : u.sending = (s.port p).sending) (n : Nat) :
    ({ met s p u with inHand := n } : State).poolFree = (s.holding n).poolFree := by
  unfold State.poolFree
  have := poolHeld_setPort (s.holding n) p u k
  rw [show ({ met s p u with inHand := n } : State).poolHeld = (s.holding n).poolHeld from this]
end

/-- What an admitted cell meets and what its port keeps. -/
structure Admitted (s : State) (p : Port) (u : PortUnit) : Prop where
  sending : u.sending = (s.port p).sending
  counts : u.counts = { (s.port p).counts with cellsIn := satInc (s.port p).counts.cellsIn }
  service : inServiceState u.state = true
  woken : (s.port p).state = .doze → u.state = .waking
  inService : ∀ d, (met s p u).inService d = s.inService d

theorem granted_service {s : State} {p : Port} {c : Cell} (h : cellGranted s p c = true) :
    inServiceState (s.port p).state = true := by
  simp only [cellGranted, cellTaken, Bool.and_eq_true] at h
  exact h.1.1.2

/-- R37, R40: a granted cell is taken on the state it meets. -/
theorem transit_granted (s : State) (p : Port) (c : Cell) (act : State → State) (h : cellGranted s p c = true) :
    ∃ u, transitArrival s p c act = act (met s p u) ∧ Admitted s p u := by
  obtain ⟨u, h1, h2, h3, h4, h5, _⟩ := transitArrival_granted s p c act h
  exact ⟨u, h1, h2, h3, h4, h5, fun d => met_inService s p u d h4 (granted_service h)⟩

/-- The end of a command stays within the parts of its change, the ports and the buffer in hand. -/
theorem within_ended {parts more : List Part} {s t : State} (h : Within parts s t)
    (sub : parts.all (fun q => more.contains q) = true := by rfl) (h1 : more.contains .inHand = true := by rfl)
    (h2 : more.contains .ports = true := by rfl) :
    Within more s { t with ports := (settleDoze s t).ports, inHand := 0 } := by
  obtain ⟨u, hu, w⟩ := done_next s t
  rw [done_eq] at hu
  cases hu
  refine (h.widen sub).trans (w.mono ?_)
  intro q hq
  simp at hq h1 h2
  rcases hq with h | h <;> subst h <;> assumption

theorem side_of_within {parts : List Part} {s t : State} (h : Within parts s t) (k : Part.tiu ∉ parts) (d : Side) :
    t.side d = s.side d := by
  have : t.tiu = s.tiu := h .tiu k
  unfold State.side; rw [this]

theorem table_of_within {parts : List Part} {s t : State} (h : Within parts s t) (k : Part.srt ∉ parts) (d : Side) :
    t.table d = s.table d := by
  have : t.srt = s.srt := h .srt k
  unfold State.table; rw [this]

theorem entry_of_within {parts : List Part} {s t : State} (h : Within parts s t) (k : Part.reach ∉ parts) (d : Side) :
    t.entry d = s.entry d := by
  have : t.reach = s.reach := h .reach k
  unfold State.entry; rw [this]

theorem line_of_within {parts : List Part} {s t : State} (h : Within parts s t) (k : Part.lines ∉ parts) (l : Line) :
    t.line l = s.line l := by
  have : t.lines = s.lines := h .lines k
  unfold State.line; rw [this]

/-- A change that leaves straps and ports leaves what is in service. -/
theorem service_of_within {parts : List Part} {s t : State} (h : Within parts s t) (k : Part.straps ∉ parts)
    (m : Part.ports ∉ parts) (d : Side) : t.inService d = s.inService d := by
  have k1 : t.straps = s.straps := h .straps k
  have k2 : t.ports = s.ports := h .ports m
  unfold State.inService State.sidePort State.portOf State.port
  rw [k1, k2]

/-! ## Forwarding (R41, R51) -/

theorem holdCheck_side (s : State) (b : Side) : (holdCheck s b).side b = s.side b := by
  unfold holdCheck
  split
  · unfold makeHold
    have := setSide_other s (otherSide b)
      { putBackPressure (s.side (otherSide b)) (linkCell s.station .hold) with
        holdRepeat := some holdRepeatMs
        counts :=
          let n := (putBackPressure (s.side (otherSide b)) (linkCell s.station .hold)).counts
          { n with holdsSent := satInc n.holdsSent } }
    simpa using this
  · rfl

/-- R41: a cell that is placed stands last in the transit queue of its class; nothing else of that side changes. -/
theorem forward_placed (s : State) (b : Side) (c : Cell) (h : transitAnswer s b c = .placed) :
    Within [.ports, .tiu] s (forwardCell s b c) ∧ (forwardCell s b c).side b = transitPush (s.side b) (hopped c) := by
  unfold forwardCell
  rw [h]
  refine ⟨((within_setSide s b _).widen.trans (within_wakeSide _ _).widen).trans (within_holdCheck _ _).widen, ?_⟩
  show (holdCheck (wakeSide (s.setSide b (transitPush (s.side b) (hopped c))) b) b).side b = _
  rw [holdCheck_side]
  unfold wakeSide
  split <;> simp

/-- R41, R44: a CALL cell other than VOICE is placed by a side that takes it. -/
theorem transit_call (s : State) (b : Side) (c : Cell) (h : takesCall s b = true) (v : c.kind ≠ .voice) :
    transitAnswer s b c = .placed := by
  simp only [takesCall, Bool.and_eq_true, decide_eq_true_eq] at h
  have k : unreserved (s.table b) c = false := by simp [unreserved, v]
  have cap : tqCallCapacity = 32 := rfl
  simp [transitAnswer, h.1, k, cap, Nat.not_le.mpr h.2]

/-- R41, R44: a VOICE is placed by a side that takes it and holds its call. -/
theorem transit_voice (s : State) (b : Side) (c : Cell) (h : takesCall s b = true)
    (k : heldIn (s.table b) (callOf c.toCellData) = true) : transitAnswer s b c = .placed := by
  simp only [takesCall, Bool.and_eq_true, decide_eq_true_eq] at h
  have v : unreserved (s.table b) c = false := by simp [unreserved, k]
  have cap : tqCallCapacity = 32 := rfl
  simp [transitAnswer, h.1, v, cap, Nat.not_le.mpr h.2]

/-! ## CALL cells (R42, R90) -/

/-- R37, R42: a granted CALL cell is shown to the CCU on the state it meets. -/
theorem call_granted (s : State) (p : Port) (k : Kind) (c : CellData) (h : cellGranted s p (cellOf k c) = true) :
    ∃ u, callArrival s p (cellOf k c) = takeCall (met s p u) (s.sideOf p) (cellOf k c) ∧ Admitted s p u :=
  transit_granted s p (cellOf k c) (fun t => takeCall t (t.sideOf p) (cellOf k c)) h

theorem call_at_path (s : State) (a : Side) (k : Kind) (c : CellData) (h : passesHere s c = true) :
    takeCall s a (cellOf k c) = takeAtPath s a (cellOf k c) := by
  simp only [passesHere, Bool.and_eq_true, Bool.not_eq_true', bne_iff_ne, ne_eq] at h
  have e : (cellOf k c).toCellData = c := rfl
  unfold takeCall
  simp only [h.1.1, e, h.1.2, h.2, Bool.false_and, Bool.false_eq_true, if_false]

/-- R8, R90: a CALL cell that a gateway does not consume is taken as a path node takes it. -/
theorem call_strays (s : State) (a : Side) (k : Kind) (c : CellData) (h : straysHere s c = true) :
    takeCall s a (cellOf k c) = takeAtPath s a (cellOf k c) := by
  simp only [straysHere, Bool.and_eq_true, bne_iff_ne, ne_eq] at h
  have e : (cellOf k c).toCellData = c := rfl
  have g : carriage s (cellOf k c) = .undelivered := by
    unfold carriage
    simp only [e, h.1.1.2, h.1.1.1.1, h.1.2, h.2, if_false, if_true, decide_false, Bool.or_self, Bool.false_eq_true]
  unfold takeCall
  simp only [g, e, h.1.1.1.2, h.1.1.2, if_false]
  simp

/-- R8: a path cell that a gateway lets continue is dropped UNDELIVERED. -/
theorem carryOn_gateway (s : State) (a : Side) (c : Cell) (h : s.isGateway = true) :
    carryOn s a c = countUndelivered { s with inHand := 0 } := by simp [carryOn, h]

/-- R41: a path cell that a node lets continue goes on. -/
theorem carryOn_node (s : State) (a : Side) (c : Cell) (h : s.isGateway = false) :
    carryOn s a c = passOn s (otherSide a) c := by simp [carryOn, h]

/-- R93 to R96, R181: the entries that the rules of path nodes change at a node and at a gateway. -/
theorem changePath_node (s : State) (id : Identity) (f : SrtEntry → SrtEntry) (h : s.isGateway = false) :
    changePath s id f = changeBoth s id f := by simp [changePath, h]
theorem changePath_gateway (s : State) (id : Identity) (f : SrtEntry → SrtEntry) (h : s.isGateway = true) :
    changePath s id f = s := by simp [changePath, h]
theorem releasePath_node (s : State) (id : Identity) (h : s.isGateway = false) : releasePath s id = releaseBoth s id := by
  simp [releasePath, h]
theorem releasePath_gateway (s : State) (id : Identity) (h : s.isGateway = true) : releasePath s id = s := by
  simp [releasePath, h]

/-- R91: a gateway's outer side is never a way on. -/
theorem outerSide_node (s : State) (d : Side) (h : s.isGateway = false) : outerSide s d = false := by simp [outerSide, h]

theorem call_at_origin (s : State) (a : Side) (k : Kind) (c : CellData) (h : endsHere s c = true) :
    takeCall s a (cellOf k c) = takeAtOrigin s a (cellOf k c) := by
  simp only [endsHere, Bool.and_eq_true, Bool.not_eq_true', beq_iff_eq] at h
  have e : (cellOf k c).toCellData = c := rfl
  unfold takeCall
  simp only [h.1.1, e, h.1.2, h.2, Bool.false_and, Bool.false_eq_true, if_false, if_true]

theorem call_at_gateway (s : State) (a : Side) (k : Kind) (c : CellData) (h : gatewayEnds s c = true) :
    takeCall s a (cellOf k c) = takeAtGateway s (cellOf k c) := by
  simp only [gatewayEnds, Bool.and_eq_true, Bool.or_eq_true, beq_iff_eq] at h
  have e : (cellOf k c).toCellData = c := rfl
  have h2 : carriage s (cellOf k c) = .consume := by
    unfold carriage
    rcases h.2 with g | g
    · simp only [e, g, if_true]
    · by_cases x : c.target = s.station
      · simp only [e, x, if_true]
      · simp only [e, h.1, if_true, g]; simp
  unfold takeCall
  simp [h.1, h2]

end Sys2Proof.Machine
end

