-- ==== Sys2Proof/Laws/Memory.lean ====
section
/-! SUPPORT. The memory of the sign pages: every write keeps the canonical form, and what a read sees after a write. -/

set_option Elab.async false

namespace Sys2Proof.Machine

/-- A bound below every address may be lowered. -/
theorem Memory.wfAbove_lower (m : Memory) (lo lower : Nat) (h : Memory.wfAbove m lo = true) (le : lower ≤ lo) :
    Memory.wfAbove m lower = true := by
  cases m with
  | nil => rfl
  | cons c m =>
    simp only [Memory.wfAbove, Bool.and_eq_true, decide_eq_true_eq] at h ⊢
    exact ⟨⟨Nat.le_trans le h.1.1, h.1.2⟩, h.2⟩

/-- An address below every listed one reads as unlisted. -/
theorem Memory.read_below (m : Memory) : ∀ (lo i : Nat), Memory.wfAbove m lo = true → i < lo → Memory.read m i = Memory.unlisted := by
  induction m with
  | nil => exact fun _ _ _ _ => rfl
  | cons c m ih =>
    intro lo i h lt
    simp only [Memory.wfAbove, Bool.and_eq_true, decide_eq_true_eq] at h
    simp only [Memory.read]
    rw [if_neg (by omega)]
    exact ih _ _ h.2 (by omega)

/-- R129: a pixel written keeps the canonical form. -/
theorem Memory.write_wfAbove (m : Memory) : ∀ (lo i : Nat) (v : Byte), Memory.wfAbove m lo = true → lo ≤ i →
    Memory.wfAbove (Memory.write m i v) lo = true := by
  induction m with
  | nil =>
    intro lo i v _ le
    simp only [Memory.write]
    split
    · rfl
    · next h => simp [Memory.wfAbove, le, h]
  | cons c m ih =>
    intro lo i v h le
    have h' := h
    simp only [Memory.wfAbove, Bool.and_eq_true, decide_eq_true_eq] at h
    simp only [Memory.write]
    split
    · split
      · exact h'
      · next lt nz =>
        simp only [Memory.wfAbove, Bool.and_eq_true, decide_eq_true_eq]
        exact ⟨⟨le, by simpa using nz⟩, ⟨by omega, h.1.2⟩, h.2⟩
    · split
      · split
        · exact Memory.wfAbove_lower _ _ _ h.2 (by omega)
        · next nz =>
          simp only [Memory.wfAbove, Bool.and_eq_true, decide_eq_true_eq]
          exact ⟨⟨h.1.1, by simpa using nz⟩, h.2⟩
      · next n1 n2 =>
        simp only [Memory.wfAbove, Bool.and_eq_true, decide_eq_true_eq]
        exact ⟨h.1, ih _ _ _ h.2 (by omega)⟩

theorem Memory.write_wf (m : Memory) (i : Nat) (v : Byte) (h : Memory.wf m = true) : Memory.wf (Memory.write m i v) = true :=
  Memory.write_wfAbove m 0 i v h (Nat.zero_le _)

/-- A write is seen at its own address and at no other. -/
theorem Memory.read_write_above (m : Memory) : ∀ (lo i j : Nat) (v : Byte), Memory.wfAbove m lo = true → lo ≤ i →
    Memory.read (Memory.write m i v) j = if j = i then v else Memory.read m j := by
  induction m with
  | nil =>
    intro lo i j v _ _
    by_cases hv : v = Memory.unlisted
    · subst hv
      simp [Memory.write, Memory.read]
    · simp only [Memory.write, if_neg hv, Memory.read]
      by_cases hj : j = i
      · simp [hj]
      · rw [if_neg (fun h => hj h.symm), if_neg hj]
  | cons c m ih =>
    intro lo i j v h le
    obtain ⟨a, w⟩ := c
    simp only [Memory.wfAbove, Bool.and_eq_true, decide_eq_true_eq] at h
    simp only [Memory.write]
    split
    · next lt =>
      split
      · next z =>
        by_cases hj : j = i
        · subst hj
          rw [if_pos rfl, z]
          exact Memory.read_below _ a _ (by simp [Memory.wfAbove, h.2]; simpa using h.1.2) lt
        · rw [if_neg hj]
      · by_cases hj : j = i
        · subst hj; simp [Memory.read]
        · rw [if_neg hj]; simp only [Memory.read]; rw [if_neg (fun e => hj e.symm)]
    · split
      · next eq =>
        subst eq
        split
        · next z =>
          by_cases hj : j = i
          · subst hj
            rw [if_pos rfl, z]
            exact Memory.read_below _ _ _ h.2 (Nat.lt_succ_self _)
          · rw [if_neg hj]; simp only [Memory.read]; rw [if_neg (fun e => hj e.symm)]
        · by_cases hj : j = i
          · subst hj; simp [Memory.read]
          · rw [if_neg hj]; simp only [Memory.read]; rw [if_neg (fun e => hj e.symm), if_neg (fun e => hj e.symm)]
      · next n1 n2 =>
        simp only [Memory.read]
        by_cases ha : a = j
        · rw [if_pos ha, if_pos ha, if_neg (by omega)]
        · rw [if_neg ha, if_neg ha]
          exact ih _ _ _ _ h.2 (by omega)

theorem Memory.read_write (m : Memory) (i j : Nat) (v : Byte) (h : Memory.wf m = true) :
    Memory.read (Memory.write m i v) j = if j = i then v else Memory.read m j :=
  Memory.read_write_above m 0 i j v h (Nat.zero_le _)

theorem Memory.blank_wf : Memory.wf Memory.blank = true := rfl

/-- The pages of the machine right after reset have the canonical form. -/
theorem reset_pages_wf : Memory.wf State.reset.sps.pages = true := rfl

end Sys2Proof.Machine
end

