-- ==== Sys2Proof/WellFormed.lean ====
section
/-! DEFINITION. Which commands are well formed: the operand ranges the spec gives, as decidable checks. A cell has 52
payload bytes (chapter 01, Cell layout), a VOICE period has 32 samples (R79), a call identity names a station 1 to 250. -/

namespace Sys2Proof

/-- Chapter 01, Cell layout: the payload part of a cell has 52 bytes. -/
def cellFits (c : CellData) : Bool := decide (c.payload.length ≤ 52)

/-- R79: one voice period holds 32 samples. -/
def samplesFit (samples : List Byte) : Bool := decide (samples.length = 32)

/-- R1, R81: a call identity names a calling station 1 to 250. -/
def identityFits (id : Identity) : Bool := id.station != 0 && decide (id.station.toNat ≤ 250)

/-- A command's operands are ones the part can meet. -/
def wellFormed : Instr → Bool
  | .hello _ c => cellFits c
  | .dozeReq _ c => cellFits c
  | .dozeAck _ c => cellFits c
  | .wakeAck _ c => cellFits c
  | .hold _ c => cellFits c
  | .resume _ c => cellFits c
  | .beacon _ c => cellFits c
  | .callSetup _ c => cellFits c
  | .callAccept _ c => cellFits c
  | .callRefuse _ c => cellFits c
  | .callRelease _ c => cellFits c
  | .callBroken _ c => cellFits c
  | .callUpgrade _ c => cellFits c
  | .voice _ c => cellFits c
  | .tollRecord _ c => cellFits c
  | .tollAck _ c => cellFits c
  | .signCommandConsumed _ _ c => cellFits c
  | .signReply _ c => cellFits c
  | .weatherReport _ c => cellFits c
  | .nodeStatus _ c => cellFits c
  | .weatherPoll _ c => cellFits c
  | .nodeQuery _ c => cellFits c
  | .fromOfficeTransferComplete c _ => cellFits c.toCellData
  | .voicePackPeriod _ samples => samplesFit samples
  | .pathEntryTimerExpiry id => identityFits id
  | .gatewayVoiceWatchExpiry id => identityFits id
  | _ => true

end Sys2Proof
end

