-- ==== Sys2Proof/Laws/PerInstr.lean ====
section
/-! SUPPORT. The family OperandsFit, constructor by constructor: a command is well formed exactly when every cell it
carries has at most 52 payload bytes, a period of samples has 32, and a call identity names a station 1 to 250. -/

set_option Elab.async false

namespace Sys2Proof.Laws.OperandsFit

/-- The cells a command carries. -/
def cellsIn : Instr → List CellData
  | .hello _ c => [c]
  | .dozeReq _ c => [c]
  | .dozeAck _ c => [c]
  | .wakeAck _ c => [c]
  | .hold _ c => [c]
  | .resume _ c => [c]
  | .beacon _ c => [c]
  | .callSetup _ c => [c]
  | .callAccept _ c => [c]
  | .callRefuse _ c => [c]
  | .callRelease _ c => [c]
  | .callBroken _ c => [c]
  | .callUpgrade _ c => [c]
  | .voice _ c => [c]
  | .tollRecord _ c => [c]
  | .tollAck _ c => [c]
  | .signCommandConsumed _ _ c => [c]
  | .signReply _ c => [c]
  | .weatherReport _ c => [c]
  | .nodeStatus _ c => [c]
  | .weatherPoll _ c => [c]
  | .nodeQuery _ c => [c]
  | .fromOfficeTransferComplete c _ => [c.toCellData]
  | _ => []

/-- The periods of samples a command carries. -/
def samplesIn : Instr → List (List Byte)
  | .voicePackPeriod _ samples => [samples]
  | _ => []

/-- The call identities a command names. -/
def identitiesIn : Instr → List Identity
  | .pathEntryTimerExpiry id => [id]
  | .gatewayVoiceWatchExpiry id => [id]
  | _ => []

/-- Well-formedness is the operand ranges and nothing else (chapter 01, Cell layout; R79; R1 and R81). -/
def Statement (i : Instr) : Prop :=
  wellFormed i = true ↔
    (∀ c ∈ cellsIn i, c.payload.length ≤ 52) ∧ (∀ x ∈ samplesIn i, x.length = 32)
      ∧ ∀ id ∈ identitiesIn i, 1 ≤ id.station.toNat ∧ id.station.toNat ≤ 250

/-- A command without ranged operands is well formed. -/
theorem of_plain {i : Instr} (h : wellFormed i = true) (hc : cellsIn i = []) (hx : samplesIn i = [])
    (hi : identitiesIn i = []) : Statement i := by
  simp [Statement, h, hc, hx, hi]

/-- A command whose one ranged operand is a cell. -/
theorem of_cell {i : Instr} {c : CellData} (h : wellFormed i = cellFits c) (hc : cellsIn i = [c]) (hx : samplesIn i = [])
    (hi : identitiesIn i = []) : Statement i := by
  simp [Statement, h, hc, hx, hi, cellFits]

/-- A command whose one ranged operand is a call identity. -/
theorem of_identity {i : Instr} {id : Identity} (h : wellFormed i = identityFits id) (hc : cellsIn i = [])
    (hx : samplesIn i = []) (hi : identitiesIn i = [id]) : Statement i := by
  have key : ((!decide (id.station = 0)) = true ↔ 1 ≤ id.station.toNat) := by
    have := BitVec.toNat_inj (x := id.station) (y := 0)
    simp at this
    simp [← this]
    omega
  simp only [Statement, h, hc, hx, hi, identityFits, bne, Bool.and_eq_true, decide_eq_true_eq]
  simpa using fun _ => key

theorem resetAssert : Statement (.resetAssert) := of_plain rfl rfl rfl rfl
theorem mainSupplyFall : Statement (.mainSupplyFall) := of_plain rfl rfl rfl rfl
theorem vretLoss : Statement (.vretLoss) := of_plain rfl rfl rfl rfl
theorem resetEnd (straps : Straps) : Statement (.resetEnd straps) := of_plain rfl rfl rfl rfl
theorem darkPeriodEnd : Statement (.darkPeriodEnd) := of_plain rfl rfl rfl rfl
theorem lightFound (p : Port) : Statement (.lightFound p) := of_plain rfl rfl rfl rfl
theorem lightDisappears (p : Port) : Statement (.lightDisappears p) := of_plain rfl rfl rfl rfl
theorem lightReturns (p : Port) : Statement (.lightReturns p) := of_plain rfl rfl rfl rfl
theorem lossDebounceExpiry (p : Port) : Statement (.lossDebounceExpiry p) := of_plain rfl rfl rfl rfl
theorem lockGained (p : Port) : Statement (.lockGained p) := of_plain rfl rfl rfl rfl
theorem markerWatchExpiry (p : Port) : Statement (.markerWatchExpiry p) := of_plain rfl rfl rfl rfl
theorem badCheckCell (p : Port) : Statement (.badCheckCell p) := of_plain rfl rfl rfl rfl
theorem malformedCell (p : Port) : Statement (.malformedCell p) := of_plain rfl rfl rfl rfl
theorem hello (p : Port) (c : CellData) : Statement (.hello p c) := of_cell rfl rfl rfl rfl
theorem helloPeriod (p : Port) : Statement (.helloPeriod p) := of_plain rfl rfl rfl rfl
theorem helloWatchExpiry (p : Port) : Statement (.helloWatchExpiry p) := of_plain rfl rfl rfl rfl
theorem idleTimerExpiry (p : Port) : Statement (.idleTimerExpiry p) := of_plain rfl rfl rfl rfl
theorem dozeRetryExpiry (p : Port) : Statement (.dozeRetryExpiry p) := of_plain rfl rfl rfl rfl
theorem dozeReq (p : Port) (c : CellData) : Statement (.dozeReq p c) := of_cell rfl rfl rfl rfl
theorem dozeAck (p : Port) (c : CellData) : Statement (.dozeAck p c) := of_cell rfl rfl rfl rfl
theorem answerWindowExpiry (p : Port) : Statement (.answerWindowExpiry p) := of_plain rfl rfl rfl rfl
theorem wakeTimerExpiry (p : Port) : Statement (.wakeTimerExpiry p) := of_plain rfl rfl rfl rfl
theorem wakeBurst (p : Port) : Statement (.wakeBurst p) := of_plain rfl rfl rfl rfl
theorem wakeAck (p : Port) (c : CellData) : Statement (.wakeAck p c) := of_cell rfl rfl rfl rfl
theorem hold (p : Port) (c : CellData) : Statement (.hold p c) := of_cell rfl rfl rfl rfl
theorem resume (p : Port) (c : CellData) : Statement (.resume p c) := of_cell rfl rfl rfl rfl
theorem holdExpiry (d : Side) : Statement (.holdExpiry d) := of_plain rfl rfl rfl rfl
theorem holdRepeatExpiry (d : Side) : Statement (.holdRepeatExpiry d) := of_plain rfl rfl rfl rfl
theorem beacon (p : Port) (c : CellData) : Statement (.beacon p c) := of_cell rfl rfl rfl rfl
theorem reachLapse (d : Side) : Statement (.reachLapse d) := of_plain rfl rfl rfl rfl
theorem transmitSlot (p : Port) : Statement (.transmitSlot p) := of_plain rfl rfl rfl rfl
theorem transmissionComplete (p : Port) : Statement (.transmissionComplete p) := of_plain rfl rfl rfl rfl
theorem callSetup (p : Port) (c : CellData) : Statement (.callSetup p c) := of_cell rfl rfl rfl rfl
theorem callAccept (p : Port) (c : CellData) : Statement (.callAccept p c) := of_cell rfl rfl rfl rfl
theorem callRefuse (p : Port) (c : CellData) : Statement (.callRefuse p c) := of_cell rfl rfl rfl rfl
theorem callRelease (p : Port) (c : CellData) : Statement (.callRelease p c) := of_cell rfl rfl rfl rfl
theorem callBroken (p : Port) (c : CellData) : Statement (.callBroken p c) := of_cell rfl rfl rfl rfl
theorem callUpgrade (p : Port) (c : CellData) : Statement (.callUpgrade p c) := of_cell rfl rfl rfl rfl
theorem voice (p : Port) (c : CellData) : Statement (.voice p c) := of_cell rfl rfl rfl rfl
theorem tollRecord (p : Port) (c : CellData) : Statement (.tollRecord p c) := of_cell rfl rfl rfl rfl
theorem tollAck (p : Port) (c : CellData) : Statement (.tollAck p c) := of_cell rfl rfl rfl rfl
theorem signCommandConsumed (p : Port) (k : SignCommand) (c : CellData) : Statement (.signCommandConsumed p k c) :=
  of_cell rfl rfl rfl rfl
theorem signReply (p : Port) (c : CellData) : Statement (.signReply p c) := of_cell rfl rfl rfl rfl
theorem weatherReport (p : Port) (c : CellData) : Statement (.weatherReport p c) := of_cell rfl rfl rfl rfl
theorem nodeStatus (p : Port) (c : CellData) : Statement (.nodeStatus p c) := of_cell rfl rfl rfl rfl
theorem weatherPoll (p : Port) (c : CellData) : Statement (.weatherPoll p c) := of_cell rfl rfl rfl rfl
theorem nodeQuery (p : Port) (c : CellData) : Statement (.nodeQuery p c) := of_cell rfl rfl rfl rfl
theorem hookOffHook (l : Line) : Statement (.hookOffHook l) := of_plain rfl rfl rfl rfl
theorem hookOnHook (l : Line) : Statement (.hookOnHook l) := of_plain rfl rfl rfl rfl
theorem offhookDebounceExpiry (l : Line) : Statement (.offhookDebounceExpiry l) := of_plain rfl rfl rfl rfl
theorem onhookDebounceExpiry (l : Line) : Statement (.onhookDebounceExpiry l) := of_plain rfl rfl rfl rfl
theorem keyClose (l : Line) : Statement (.keyClose l) := of_plain rfl rfl rfl rfl
theorem keyOpen (l : Line) (closedUs : Nat) : Statement (.keyOpen l closedUs) := of_plain rfl rfl rfl rfl
theorem keyStuck (l : Line) : Statement (.keyStuck l) := of_plain rfl rfl rfl rfl
theorem voicePackPeriod (l : Line) (samples : List Byte) : Statement (.voicePackPeriod l samples) := by
  simp [Statement, wellFormed, cellsIn, samplesIn, identitiesIn, samplesFit]
theorem playoutPeriod (l : Line) : Statement (.playoutPeriod l) := of_plain rfl rfl rfl rfl
theorem setupTimerExpiry (l : Line) : Statement (.setupTimerExpiry l) := of_plain rfl rfl rfl rfl
theorem callRetryTimerExpiry (l : Line) : Statement (.callRetryTimerExpiry l) := of_plain rfl rfl rfl rfl
theorem originVoiceWatchExpiry (l : Line) : Statement (.originVoiceWatchExpiry l) := of_plain rfl rfl rfl rfl
theorem pathEntryTimerExpiry (id : Identity) : Statement (.pathEntryTimerExpiry id) := of_identity rfl rfl rfl rfl
theorem staleAnswerHoldExpiry (l : Line) : Statement (.staleAnswerHoldExpiry l) := of_plain rfl rfl rfl rfl
theorem gatewayVoiceWatchExpiry (id : Identity) : Statement (.gatewayVoiceWatchExpiry id) :=
  of_identity rfl rfl rfl rfl
theorem localVoiceWatchExpiry (l : Line) : Statement (.localVoiceWatchExpiry l) := of_plain rfl rfl rfl rfl
theorem characterReceived (value : Byte) (parityBit : Bool) (stopBit : Bool) : Statement (.characterReceived value parityBit stopBit) :=
  of_plain rfl rfl rfl rfl
theorem breakDetected : Statement (.breakDetected) := of_plain rfl rfl rfl rfl
theorem breakEnd : Statement (.breakEnd) := of_plain rfl rfl rfl rfl
theorem assemblerTakeCharacter : Statement (.assemblerTakeCharacter) := of_plain rfl rfl rfl rfl
theorem storeWriteComplete : Statement (.storeWriteComplete) := of_plain rfl rfl rfl rfl
theorem transmitControlCharacter : Statement (.transmitControlCharacter) := of_plain rfl rfl rfl rfl
theorem dispatchTimerExpiry : Statement (.dispatchTimerExpiry) := of_plain rfl rfl rfl rfl
theorem custodyRetryExpiry (sequence : Half) : Statement (.custodyRetryExpiry sequence) := of_plain rfl rfl rfl rfl
theorem signWindow : Statement (.signWindow) := of_plain rfl rfl rfl rfl
theorem signPixels : Statement (.signPixels) := of_plain rfl rfl rfl rfl
theorem pixelWrite : Statement (.pixelWrite) := of_plain rfl rfl rfl rfl
theorem signShow : Statement (.signShow) := of_plain rfl rfl rfl rfl
theorem signClear : Statement (.signClear) := of_plain rfl rfl rfl rfl
theorem signDim : Statement (.signDim) := of_plain rfl rfl rfl rfl
theorem hazardHoldExpiry : Statement (.hazardHoldExpiry) := of_plain rfl rfl rfl rfl
theorem refreshBoundary : Statement (.refreshBoundary) := of_plain rfl rfl rfl rfl
theorem rowPeriod : Statement (.rowPeriod) := of_plain rfl rfl rfl rfl
theorem brightnessSlew : Statement (.brightnessSlew) := of_plain rfl rfl rfl rfl
theorem sweepStart : Statement (.sweepStart) := of_plain rfl rfl rfl rfl
theorem settleExpiry : Statement (.settleExpiry) := of_plain rfl rfl rfl rfl
theorem endOfConversion (result : BitVec 12) : Statement (.endOfConversion result) := of_plain rfl rfl rfl rfl
theorem windPulse : Statement (.windPulse) := of_plain rfl rfl rfl rfl
theorem windWindowStart : Statement (.windWindowStart) := of_plain rfl rfl rfl rfl
theorem rainTip : Statement (.rainTip) := of_plain rfl rfl rfl rfl
theorem intervalTimerStop : Statement (.intervalTimerStop) := of_plain rfl rfl rfl rfl
theorem surfaceRaceStart : Statement (.surfaceRaceStart) := of_plain rfl rfl rfl rfl
theorem referenceOverflow (surface : Half) : Statement (.referenceOverflow surface) := of_plain rfl rfl rfl rfl
theorem surfaceOverflow : Statement (.surfaceOverflow) := of_plain rfl rfl rfl rfl
theorem reportPeriodEnd : Statement (.reportPeriodEnd) := of_plain rfl rfl rfl rfl
theorem beaconPeriod : Statement (.beaconPeriod) := of_plain rfl rfl rfl rfl
theorem toOfficeTransferStart (ordy : Bool) : Statement (.toOfficeTransferStart ordy) := of_plain rfl rfl rfl rfl
theorem toOfficeTransferComplete : Statement (.toOfficeTransferComplete) := of_plain rfl rfl rfl rfl
theorem fromOfficeTransferStart : Statement (.fromOfficeTransferStart) := of_plain rfl rfl rfl rfl
theorem fromOfficeTransferComplete (c : RawCell) (check : Half) : Statement (.fromOfficeTransferComplete c check) :=
  of_cell rfl rfl rfl rfl
theorem officeSignOrReportCell : Statement (.officeSignOrReportCell) := of_plain rfl rfl rfl rfl
theorem officeVoice : Statement (.officeVoice) := of_plain rfl rfl rfl rfl
theorem officeCallRelease : Statement (.officeCallRelease) := of_plain rfl rfl rfl rfl
theorem officeCellRejected : Statement (.officeCellRejected) := of_plain rfl rfl rfl rfl
theorem officeOfferRetry : Statement (.officeOfferRetry) := of_plain rfl rfl rfl rfl
theorem pointerWrite (value : Byte) : Statement (.pointerWrite value) := of_plain rfl rfl rfl rfl
theorem counterClear : Statement (.counterClear) := of_plain rfl rfl rfl rfl
theorem ignoredWriteByte (value : Byte) : Statement (.ignoredWriteByte value) := of_plain rfl rfl rfl rfl
theorem statusByteRead : Statement (.statusByteRead) := of_plain rfl rfl rfl rfl

end Sys2Proof.Laws.OperandsFit
end

