-- ==== Sys2Proof/Tests/Slice0.lean ====
section
/-! SUPPORT. Tests: the well-formedness checks, values the spec works out, and, for every obligation with hypotheses, a
state and operands that meet them (the hypotheses of each clause, at boundary values), with what the command then leaves. -/

set_option Elab.async false

namespace Sys2Proof.Tests

open Sys2Proof Sys2Proof.Machine

/-! ## Small states -/

/-- The state a command leaves. -/
def after (c : Instr) (s : State) : State :=
  match exec c s with
  | .next t => t
  | .fault _ => s
  | .refused _ => s

/-- A port in service with a neighbour. -/
def served (n : Byte) : PortUnit :=
  { state := .up, light := true, lock := true, neighbour := some ⟨n, .node⟩, helloPeriod := some 1000, helloWatch := some 3000,
    idle := some 5000 }

/-- Station 45, a NODE with every job fitted, SP1 DOWNROAD. -/
def kAll : Straps := { exampleStraps with fit1 := .vcc }

/-- The same board as GATEWAY-U: SP1 serves its inner side. -/
def kGate : Straps := { exampleStraps with role := .lowR }

/-- A node with both spans in service. -/
def node : State := { State.reset with straps := kAll, dark := none, ports := ⟨served 46, served 44⟩ }

/-- A gateway with its inner span in service. -/
def gate : State := { State.reset with straps := kGate, dark := none, ports := ⟨served 46, {}⟩ }

/-- The node with its reset held. -/
def held : State := { node with power := { resetLow := true } }

def cd (hops origin target : Byte) (r : Half) : CellData :=
  { hops := hops, origin := origin, target := target, reference := r, aux6 := 0, aux7 := 0, length := 0, flags := 0, payload := [] }

/-- A TOLL-RECORD from station 46 for the office. -/
def tollCell : Cell := cellOf .tollRecord (cd 1 46 254 0)

/-- The HELLO data of a node that names the station it heard. -/
def helloFrom (origin heard : Byte) : CellData := { cd 0 origin 255 0 with length := 2, payload := [0, heard] }

/-- A VALID entry. -/
def reachTo (gateway hops : Byte) : ReachEntry := { held := true, gateway := gateway, hops := hops, valid := true }

/-- The call of station 10, phone 0, serial 3: reference 0x0A03. -/
def call10 : Identity := ⟨10, .line0, 3⟩
/-- The first call of this node's phone 0. -/
def own : Identity := ⟨45, .line0, 0⟩

def pathEntry (id : Identity) (g : Grade) (isHeld : Bool) (f : Faces) : SrtEntry :=
  { identity := id, grade := g, held := isHeld, place := .path, faces := f, timer := some 3000 }

/-- `n` PATH entries of calls of station 12. -/
def filled (n : Nat) (g : Grade) : List SrtEntry :=
  (List.range n).map (fun i => pathEntry ⟨12, .line0, BitVec.ofNat 4 i⟩ g false .gateway)

def recordOf (st : RecordState) : CallRecord :=
  { identity := some own, grade := .breakdown, state := st, direction := some .up, timer := some 2000 }

/-- The node with a record of phone 0 in a state, its line in a state, its entry in the UPROAD table. -/
def calling (st : RecordState) (ls : LineState) (isHeld : Bool) : State :=
  { node with
    srt := ⟨[{ identity := own, grade := .breakdown, held := isHeld, place := .origin, faces := .gateway,
               timer := if isHeld then some 3000 else none }], []⟩
    lines := ⟨{ state := ls, offHook := true, record := some (recordOf st), nextSerial := 1 }, {}⟩ }

/-- The gateway with the chain call of station 46 on channel 0. -/
def chained : State :=
  { gate with
    srt := ⟨[], [{ identity := ⟨46, .line0, 3⟩, grade := .breakdown, held := true, place := .gateway, faces := .origin,
                   timer := some 3000 }]⟩
    gw := { gate.gw with channels := gate.gw.channels.set 0 (.chain ⟨46, .line0, 3⟩ .breakdown) } }

/-- The gateway with its own phone on channel 0. -/
def localCalling : State :=
  { gate with
    lines := ⟨{ state := .talk, offHook := true, nextSerial := 1,
                record := some { identity := some own, state := .connected } }, {}⟩
    gw := { gate.gw with channels := gate.gw.channels.set 0 (.localCall own .breakdown (some 3000)) } }

/-! ## Well-formedness (one ill-formed term per check) -/

theorem test_wf_payload_too_long :
    wellFormed (.voice .sp1 { cd 0 44 45 0 with payload := List.replicate 53 0 }) = false
      ∧ wellFormed (.voice .sp1 { cd 0 44 45 0 with payload := List.replicate 52 0 }) = true := by decide +kernel
theorem test_wf_office_payload_too_long :
    wellFormed (.fromOfficeTransferComplete { cd 0 44 45 0 with code := 0x30, payload := List.replicate 53 0 } 0) = false := by
  decide +kernel
theorem test_wf_samples : wellFormed (.voicePackPeriod .line0 (List.replicate 31 0)) = false
    ∧ wellFormed (.voicePackPeriod .line0 (List.replicate 32 0)) = true := by decide +kernel
theorem test_wf_identity : wellFormed (.pathEntryTimerExpiry ⟨0, .line0, 0⟩) = false
    ∧ wellFormed (.pathEntryTimerExpiry ⟨251, .line0, 0⟩) = false ∧ wellFormed (.pathEntryTimerExpiry ⟨250, .line1, 15⟩) = true
    ∧ wellFormed (.gatewayVoiceWatchExpiry ⟨0, .line1, 0⟩) = false := by decide

/-! ## Values the spec works out -/

/-- R5: the check of the nine characters 1 to 9. -/
theorem test_crc : crc [0x31, 0x32, 0x33, 0x34, 0x35, 0x36, 0x37, 0x38, 0x39] = 0x29B1 := by decide +kernel
/-- Chapter 01, Worked example: reading a set of straps. -/
theorem test_strap_example : strapStation exampleStraps = 45 ∧ strapRole exampleStraps = .node
    ∧ strapSide exampleStraps .sp1 = .down ∧ strapSide exampleStraps .sp2 = .up ∧ phonesFitted exampleStraps = true
    ∧ gantryFitted exampleStraps = false ∧ signFitted exampleStraps = true ∧ weatherFitted exampleStraps = true
    ∧ windSetting exampleStraps = 6 ∧ strapGustLimit exampleStraps = 100 ∧ strapPreload exampleStraps = 156
    ∧ strapFault exampleStraps = false := by decide
theorem test_strap_faults : stationRangeFault { exampleStraps with stn3 := .vcc, stn2 := .vcc, stn1 := .vcc, stn0 := .vcc } = true
    ∧ flipLevelFault { exampleStraps with flip := .openPin } = true := by decide
/-- R14: the whole table of gust limits. -/
theorem test_gust_limits : (List.range 16).map gustLimit
    = [62, 68, 75, 81, 87, 93, 100, 106, 112, 118, 125, 131, 137, 143, 150, 156] := by decide
/-- Chapter 01: every kind code names its kind. -/
theorem test_kind_codes : allKinds.map (fun k => kindOfCode? (kindCode k)) = allKinds.map some := by decide +kernel
/-- R194: the size of each bank of the counter window. -/
theorem test_bank_sizes : (List.range 11).map (fun b => ((bankValues node b).flatten).length)
    = [64, 52, 60, 58, 52, 62, 52, 24, 64, 64, 64] := by decide +kernel
/-- A POWER-ON whose retention supply was lost ends in State.reset. -/
theorem test_reset : after (.resetEnd exampleStraps) { State.reset with
      power := { supplyUp := false, retentionLost := true, powerOnDue := true }, powerOnCount := 9, dark := none }
    = State.reset := by decide +kernel
theorem test_no_word_is_a_command : decodeTableWord 8 0 = none ∧ State.withFetchWord node 8 0 = node := by decide +kernel

/-! ## Witnesses: the machine as a whole, power and reset -/

theorem test_O2_idle : State.reset.pending = [] ∧ State.reset.running = true
    ∧ (let s := { State.reset with reach := ⟨reachTo 40 5, {}⟩ }
       (s.entry .up).held = true ∧ (s.entry .up).age.toNat < 600 ∧ s.pending = [] ∧ s.running = true)
    ∧ (let v (age : Half) := tickEntry { reachTo 40 5 with age := age }
       (v 599).age = 600 ∧ (v 600).age = 600 ∧ (tickEntry { reachTo 40 5 with age := 600, valid := false }).age = 601)
    ∧ held.running = false ∧ held.pending = [] := by decide +kernel
theorem test_O4_O7_invariants : (∃ t, step State.reset = .next t) ∧ signStoreSound State.reset ∧ tablesBounded State.reset
    ∧ poolBounded State.reset ∧ storeBounded State.reset ∧ reachInService State.reset := by
  refine ⟨⟨_, rfl⟩, ?_, ?_, ?_, ?_, ?_⟩
  · unfold signStoreSound; decide +kernel
  · unfold tablesBounded; decide
  · unfold poolBounded; decide
  · refine ⟨by decide, ?_⟩
    intro body h; cases h
  · intro d; cases d <;> decide
theorem test_O9_reset_and_supply :
    node.running = true ∧ (after .resetAssert node).running = false ∧ (after .mainSupplyFall node).power.powerOnDue = true
    ∧ ((after .resetAssert node).port .sp1).wire = .off
    ∧ ({ node with gli := { assembler := .write [0x30] } } : State).gli.assembler = .write [0x30]
    ∧ held.running = false ∧ (after .vretLoss held).power.retentionLost = true := by decide +kernel
/-- A WARM RESET keeps an entry, made QUEUED; a POWER-ON clears it. -/
theorem test_O10_retention :
    (let s := { held with csd := { store := [{ sequence := 7, body := [1], state := .sent, retry := some 5 }], nextSeq := 8 } }
     s.running = false ∧ s.power.powerOnDue = false ∧ s.power.retentionLost = false
     ∧ (after (.resetEnd kAll) s).csd.store = [{ sequence := 7, body := [1] }]
     ∧ (after (.resetEnd kAll) { s with power := { resetLow := true, powerOnDue := true } }).csd.store = []
     ∧ (after (.resetEnd kAll) { s with power := { resetLow := true, powerOnDue := true }, powerOnCount := 65535 }).powerOnCount = 65535
     ∧ (after (.resetEnd kAll) { s with power := { resetLow := true, retentionLost := true } }).powerOnCount = 1) := by
  decide +kernel
theorem test_O11_jobs : strapFault kAll = false ∧ gantryFitted kAll = true ∧ signFitted kAll = true
    ∧ weatherFitted kAll = true ∧ phonesFitted kAll = true ∧ gantryFitted exampleStraps = false
    ∧ phonesFitted { kAll with role := .vcc } = false ∧ weatherFitted { kAll with fit0 := .gnd } = false
    ∧ strapFault { kAll with flip := .lowR } = true ∧ held.running = false
    ∧ (after (.resetEnd kAll) held).gli.flowPlace = some .xon ∧ (after (.resetEnd { kAll with flip := .lowR }) held).wsu = {} := by
  decide +kernel

/-! ## Witnesses: span ports -/

/-- A port changed. -/
def withPort (s : State) (u : PortUnit) : State := s.setPort .sp1 u

theorem test_O12_light_lock :
    (let d := withPort node {}
     d.portFree .sp1 = true ∧ (d.port .sp1).state = .dark ∧ ((after (.lightFound .sp1) d).port .sp1).state = .seek
     ∧ (let k := withPort node { state := .seek, light := true }
        k.portFree .sp1 = true ∧ (k.port .sp1).state = .seek ∧ (k.port .sp1).lock = false
        ∧ ((after (.lockGained .sp1) k).port .sp1).slotHello.isSome = true)
     ∧ (node.port .sp1).helloPeriod.isSome = true ∧ (node.port .sp1).state ≠ .dark
     ∧ (let z := { d with dark := some 1, ports := ⟨{ light := true }, {}⟩ }
        z.running = true ∧ z.dark.isSome = true ∧ z.portLive .sp1 = true ∧ (z.port .sp1).light = true
        ∧ ((after .darkPeriodEnd z).port .sp1).state = .seek ∧ ((after .darkPeriodEnd z).port .sp2).state = .dark)) := by
  decide +kernel
theorem test_O13_checks :
    (let k (n : Nat) := withPort node { state := .seek, light := true, lock := true, badRun := n }
     receives (k 6) .sp1 = true ∧ ((k 6).port .sp1).badRun < 7 ∧ receives (k 7) .sp1 = true ∧ ((k 7).port .sp1).state = .seek ∧ 7 ≤ ((k 7).port .sp1).badRun
     ∧ ((after (.badCheckCell .sp1) (k 7)).port .sp1).lock = false ∧ ((after (.badCheckCell .sp1) (k 6)).port .sp1).lock = true
     ∧ headerOk (cellOf .hold (cd 0 44 255 0)) = true ∧ headerOk (cellOf .hold (cd 64 44 255 0)) = false
     ∧ headerOk (cellOf .voice (cd 0 44 45 0)) = true ∧ headerOk (cellOf .voice (cd 0 44 255 0)) = false
     ∧ (Instr.callAccept .sp1 (cd 1 44 45 0), Kind.callAccept) ∈ arrivalCommands .sp1 (cd 1 44 45 0)
     ∧ headerOk (cellOf .callAccept (cd 1 44 45 0)) = true ∧ headerOk (cellOf .callAccept (cd 64 44 45 0)) = false
     ∧ ((after (.callAccept .sp1 (cd 1 44 45 0)) (k 7)).port .sp1).counts.notInService = 1
     ∧ ((after (.weatherPoll .sp1 (cd 64 44 45 0)) (k 7)).port .sp1).counts.malformed = 1
     ∧ (let f := withPort node { state := .fault, light := true, lock := true, badRun := 3 }
        receives f .sp1 = true ∧ (f.port .sp1).state = .fault ∧ headerOk (cellOf .hello (helloFrom 46 45)) = true
        ∧ headerOk (cellOf .hello { helloFrom 46 45 with hops := 64 }) = false
        ∧ (after (.hello .sp1 (helloFrom 46 45)) f).port .sp1 = { f.port .sp1 with badRun := 0 }
        ∧ ((after (.hello .sp1 { helloFrom 46 45 with hops := 64 }) f).port .sp1).counts.malformed = 1)) := by decide +kernel
/-- R40: the receive register takes the cell and is free again when the command ends. -/
theorem test_O13_receive_register :
    (receiveCell node .sp1 (linkCell 46 .hold)).port .sp1 = { served 46 with receive := some (linkCell 46 .hold) }
    ∧ ((after (.hold .sp1 (cd 0 46 255 0)) node).port .sp1).receive = none := by decide +kernel
theorem test_O14_loss :
    (let d := withPort node { served 46 with lossDebounce := some 0 }
     d.portFree .sp1 = true ∧ inServiceState (d.port .sp1).state = true ∧ (d.port .sp1).lossDebounce.isSome = true
     ∧ ((after (.lossDebounceExpiry .sp1) d).port .sp1).state = .dark)
    ∧ (node.port .sp1).lock = true ∧ ((after (.markerWatchExpiry .sp1) node).port .sp1).state = .seek
    ∧ (let b := withPort node { served 46 with badRun := 7 }
       7 ≤ (b.port .sp1).badRun ∧ (b.port .sp1).lock = true ∧ ((after (.badCheckCell .sp1) b).port .sp1).state = .seek)
    ∧ (node.port .sp1).helloWatch.isSome = true ∧ ((after (.helloWatchExpiry .sp1) node).port .sp1).neighbour = none
    ∧ (let w := withPort node { served 46 with state := .waking, wakeTimer := some 0 }
       (w.port .sp1).state = .waking ∧ (w.port .sp1).wakeTimer.isSome = true ∧ w.portFree .sp1 = true
       ∧ ((after (.wakeTimerExpiry .sp1) w).port .sp1).counts.wakeFailures = 1) := by decide +kernel
/-- A side goes down with cells, a hold, a PATH call and an own call on it: the PATH call is broken out of the other side, and
the own call waits, or goes the other way. -/
theorem test_O14_loaded_side :
    (let k := calling .connected .talk true
     let s := ({ k with
         srt := ⟨pathEntry call10 .accident true .gateway :: k.srt.up, [pathEntry call10 .accident true .origin]⟩
         csd := { store := [{ sequence := 7, body := [5], state := .sent, lastDirection := some .up, retry := some 9 }] } } : State)
     let s := (s.setSide .up { tqData := List.replicate 40 tollCell, beaconSlot := some (linkCell 45 .beacon) }).setSide .down
       { holdRepeat := some 5, insLink := [linkCell 45 .hold] }
     let t := after (.markerWatchExpiry .sp2) s
     s.portFree .sp2 = true ∧ (s.port .sp2).lock = true ∧ s.sideOf .sp2 = .up ∧ s.isGateway = false
     ∧ (callsOf (s.table .up)).map (fun e => e.place) = [.path, .origin] ∧ (s.entry .down).valid = false
     ∧ (s.line .line0).record = some (recordOf .connected) ∧ (recordOf .connected).identity = some own
     ∧ s.inService .down = true ∧ (s.side .down).holdRepeat.isSome = true
     ∧ (t.side .down).insLink = [linkCell 45 .resume] ∧ (t.side .down).counts.resumesSent = 1
     ∧ (t.side .up).counts.flushed = 41
     ∧ (t.side .down).insCall = [makeCell 45 .callBroken 10 (referenceOf call10) 1 5 0 []] ∧ t.ccu.brokenSpanLost = 1
     ∧ t.srt = ⟨[], []⟩ ∧ (t.line .line0).record = some (waitingRecord .breakdown) ∧ (t.line .line0).state = .calling
     ∧ gantryFitted s.straps = true ∧ t.csd.store = [{ sequence := 7, body := [5], lastDirection := some .up }])
    ∧ (let s := { calling .connected .talk true with reach := ⟨{}, reachTo 60 5⟩ }
       let id : Identity := ⟨45, .line0, 1⟩
       let t := after (.markerWatchExpiry .sp2) s
       (s.table .up).length = 1 ∧ (s.entry .down).valid = true ∧ takesLocal s .down .call = true
       ∧ (t.line .line0).record = some (soughtOther id .breakdown .up) ∧ t.srt = ⟨[], [originEntry id .breakdown]⟩)
    ∧ (let x := chained.setPort .sp2 {}
       let full := { chained with gw := { chained.gw with toOffice := List.replicate 32 tollCell } }
       let t := after (.markerWatchExpiry .sp1) x
       x.isGateway = true ∧ (chained.table .down).map (fun e => e.place) = [.gateway]
       ∧ findChannel chained ⟨46, .line0, 3⟩ = some 0 ∧ channelAt t 0 = .free
       ∧ t.gw.toOffice = [{ makeCell 45 .callBroken 254 0x2E03 0 5 0 [] with hops := 0 }]
       ∧ 32 ≤ full.gw.toOffice.length ∧ (after (.markerWatchExpiry .sp1) full).gw.counts.noticesLost = 1) := by decide +kernel
theorem test_O15_hello_in_seek :
    (let k := withPort node { state := .seek, light := true, lock := true }
     receives k .sp1 = true ∧ (k.port .sp1).state = .seek ∧ headerOk (cellOf .hello (helloFrom 46 45)) = true
     ∧ roleOfCode? (payloadByte (helloFrom 46 45) 0) = some .node ∧ (46 : Byte) ≠ k.station ∧ k.sideOf .sp1 = .down
     ∧ k.station.toNat < (46 : Byte).toNat ∧ payloadByte (helloFrom 46 45) 1 = k.station
     ∧ ((after (.hello .sp1 (helloFrom 46 45)) k).port .sp1).state = .up
     ∧ ((after (.hello .sp1 (helloFrom 46 45)) k).port .sp1).slotHello = some (makeCell 45 .hello 255 0 0 0 0 [0, 46])
     ∧ ((after (.hello .sp1 (helloFrom 46 45)) k).port .sp1).counts.portUps = 1
     ∧ payloadByte (helloFrom 46 7) 1 ≠ k.station ∧ ((after (.hello .sp1 (helloFrom 46 7)) k).port .sp1).state = .seek
     ∧ (helloFrom 45 45).origin = k.station
     ∧ ((after (.hello .sp1 (helloFrom 45 45)) k).port .sp1).faultReason = some .duplicate
     ∧ (helloFrom 44 45).origin ≠ k.station ∧ ¬ k.station.toNat < (44 : Byte).toNat
     ∧ ((after (.hello .sp1 (helloFrom 44 45)) k).port .sp1).faultReason = some .misordered) := by decide +kernel
theorem test_O16_hello_in_service :
    cellTaken node .sp1 (cellOf .hello (helloFrom 46 45)) = true ∧ (node.port .sp1).neighbour = some ⟨46, .node⟩
    ∧ cellTaken node .sp1 (cellOf .hello (helloFrom 47 45)) = true
    ∧ ((after (.hello .sp1 (helloFrom 47 45)) node).port .sp1).counts.neighbourChanges = 1
    ∧ ((after (.hello .sp1 (helloFrom 46 9)) node).port .sp1).state = .seek
    ∧ cellTaken node .sp1 (cellOf .hello (helloFrom 44 45)) = true
    ∧ ((after (.hello .sp1 (helloFrom 44 45)) node).port .sp1).state = .fault := by decide +kernel
theorem test_O17_doze :
    node.portFree .sp1 = true ∧ (node.port .sp1).state = .up ∧ (node.port .sp1).idle.isSome = true
    ∧ (node.port .sp1).idle ≠ some 0 ∧ node.table (node.sideOf .sp1) = [] ∧ tiuQuiet (node.side (node.sideOf .sp1)) = true
    ∧ (node.port .sp1).dozeRetry = none ∧ ((after (.idleTimerExpiry .sp1) node).port .sp1).dozeRetry = some 5000
    ∧ (let q := withPort node { served 46 with idle := some 0, dozeRetry := some 1 }
       q.portFree .sp1 = true ∧ (q.port .sp1).dozeRetry.isSome = true ∧ q.dozeCondition .sp1 = true
       ∧ cellTaken q .sp1 (cellOf .dozeReq (cd 0 46 255 0)) = true ∧ cellTaken q .sp1 (cellOf .dozeAck (cd 0 46 255 0)) = true
       ∧ ((after (.dozeReq .sp1 (cd 0 46 255 0)) q).port .sp1).state = .doze
       ∧ ((after (.dozeAck .sp1 (cd 0 46 255 0)) q).port .sp1).state = .doze)
    ∧ (let z := withPort node { served 46 with state := .doze }
       cellTaken z .sp1 (cellOf .dozeReq (cd 0 46 255 0)) = true ∧ (z.port .sp1).state = .doze) := by decide +kernel
theorem test_O18_wake :
    (let w := withPort node { served 46 with state := .waking, wakeTimer := some 9, answerWindow := some 0, idle := none }
     w.portFree .sp1 = true ∧ (w.port .sp1).state = .waking ∧ (w.port .sp1).answerWindow.isSome = true
     ∧ (w.port .sp1).wakeTimer.isSome = true ∧ (w.port .sp1).lock = true
     ∧ cellTaken w .sp1 (cellOf .wakeAck (cd 0 46 255 0)) = true
     ∧ ((after (.wakeAck .sp1 (cd 0 46 255 0)) w).port .sp1).state = .up
     ∧ ((after (.wakeBurst .sp1) w).port .sp1).counts.portUps = 1)
    ∧ ((after (.wakeBurst .sp1) (withPort node { served 46 with state := .doze })).port .sp1).state = .up
    ∧ ((after (.wakeBurst .sp1) node).port .sp1).slotWakeAck.isSome = true := by decide +kernel

/-! ## Witnesses: transit and insertion -/

/-- The node with the TIU of a side changed. -/
def withTiu (d : Side) (t : Tiu) : State := node.setSide d t

theorem test_O19_back_pressure :
    cellTaken node .sp1 (cellOf .hold (cd 0 46 255 0)) = true ∧ cellTaken node .sp1 (cellOf .resume (cd 0 46 255 0)) = true
    ∧ ((after (.hold .sp1 (cd 0 46 255 0)) node).side .down).holdExpiry = some 500
    ∧ (let s := withTiu .down { holdExpiry := some 0 }
       s.live = true ∧ (s.side .down).holdExpiry.isSome = true ∧ ((after (.holdExpiry .down) s).side .down).holdExpiry = none)
    ∧ (let s := (withTiu .down { holdRepeat := some 0 }).setSide .up { tqData := List.replicate 33 tollCell }
       s.live = true ∧ s.inService .down = true ∧ (s.side .down).holdRepeat.isSome = true
       ∧ 32 < (s.side (otherSide .down)).tqData.length ∧ (s.side .down).insLink.any isBackPressure = false
       ∧ (s.side .down).insLink.length < 8 ∧ ((after (.holdRepeatExpiry .down) s).side .down).insLink.length = 1)
    ∧ (let s := (withTiu .down { holdRepeat := some 0, insLink := [linkCell 45 .hold] }).setSide .up
         { tqData := List.replicate 33 tollCell }
       (s.side .down).insLink.any isBackPressure = true ∧ (s.side .down).holdRepeat.isSome = true
       ∧ ((after (.holdRepeatExpiry .down) s).side .down).insLink.length = 1) := by decide +kernel
theorem test_O20_data_passes :
    (let c := cd 1 46 254 0
     (Instr.tollRecord .sp1 c, Kind.tollRecord) ∈ dataCommands .sp1 c ∧ node.isGateway = false ∧ c.target ≠ node.station
     ∧ c.target ≠ 255 ∧ cellGranted node .sp1 (cellOf .tollRecord c) = true ∧ node.inService (otherSide (node.sideOf .sp1)) = true
     ∧ ((after (.tollRecord .sp1 c) node).side .up).tqData = [cellOf .tollRecord (cd 2 46 254 0)]
     ∧ (let s := withTiu .up { tqData := List.replicate 95 tollCell }
        96 ≤ (s.side .up).tqData.length + 1 ∧ (s.side .down).holdRepeat = none ∧ cellGranted s .sp1 (cellOf .tollRecord c) = true
        ∧ ((after (.tollRecord .sp1 c) s).side .down).holdRepeat = some 100)
     ∧ ((withTiu .up { tqData := List.replicate 94 tollCell }).side .up).tqData.length + 1 < 96
     ∧ cellTaken node .sp1 (cellOf .tollRecord (cd 63 46 254 0)) = true
     ∧ (after (.tollRecord .sp1 (cd 63 46 254 0)) node).node.hopLimit = 1
     ∧ (let s := { node with gw := { node.gw with toOffice := List.replicate 512 tollCell } }
        s.poolFree = 0 ∧ cellTaken s .sp1 (cellOf .tollRecord c) = true ∧ (after (.tollRecord .sp1 c) s).node.transitDrop = 1)
     ∧ gate.isGateway = true ∧ cellGranted gate .sp1 (cellOf .tollRecord (cd 1 46 9 0)) = true
     ∧ (after (.tollRecord .sp1 (cd 1 46 9 0)) gate).node.undelivered = 1
     ∧ (let s := node.setPort .sp2 {}
        cellGranted s .sp1 (cellOf .tollRecord c) = true ∧ s.inService (otherSide (s.sideOf .sp1)) = false
        ∧ (after (.tollRecord .sp1 c) s).node.undelivered = 1)) := by decide +kernel
/-- A cell for ALL goes on and stays: with two buffers, with no way on, and with no buffer for the copy. -/
theorem test_O20_all_stations :
    (let c := cd 1 60 255 9
     let w (n : Nat) := { node with gw := { node.gw with toOffice := List.replicate n tollCell } }
     (Instr.signCommandConsumed .sp1 .showPage c, Kind.signShow) ∈ dataCommands .sp1 c ∧ c.target = 255
     ∧ cellGranted node .sp1 (cellOf .signShow c) = true ∧ 0 < (grantedState node).poolFree ∧ node.inService .up = true
     ∧ (let t := after (.signCommandConsumed .sp1 .showPage c) node
        (t.side .up).tqData = [cellOf .signShow (cd 2 60 255 9)]
        ∧ t.sps.waiting = [{ cell := cellOf .signShow c, side := some .down }])
     ∧ cellGranted node .sp1 (cellOf .weatherPoll c) = true ∧ takesLocal (node.holding 2) .down .report = true
     ∧ ((after (.weatherPoll .sp1 c) node).side .down).insReport.length = 1
     ∧ (let e := node.setPort .sp2 {}
        cellGranted e .sp1 (cellOf .signShow c) = true ∧ e.inService .up = false
        ∧ (after (.signCommandConsumed .sp1 .showPage c) e).node.undelivered = 1)
     ∧ (w 511).poolFree = 1 ∧ (grantedState (w 511)).poolFree = 0 ∧ cellGranted (w 511) .sp1 (cellOf .signShow c) = true
     ∧ (after (.signCommandConsumed .sp1 .showPage c) (w 511)).node.transitDrop = 1
     ∧ (after (.signCommandConsumed .sp1 .showPage c) (w 511)).sps.waiting.length = 1
     ∧ ((after (.signCommandConsumed .sp1 .showPage c) (w 510)).side .up).tqData.length = 1) := by decide +kernel
theorem test_O21_slots :
    node.portFree .sp1 = true ∧ (node.port .sp1).sending = none
    ∧ (let w := withPort node { served 46 with state := .waking, burstLeft := 1 }
       (w.port .sp1).state = .waking ∧ 0 < (w.port .sp1).burstLeft
       ∧ ((after (.transmitSlot .sp1) w).port .sp1).wire = .wakeMarker)
    ∧ (let s := withPort node { served 46 with slotWakeAck := some (linkCell 45 .wakeAck), slotDozeAck := some (linkCell 45 .dozeAck),
                                               slotDozeReq := some (linkCell 45 .dozeReq), slotHello := some (linkCell 45 .hello) }
       let s1 := { after (.transmitSlot .sp1) s with ports := ⟨{ (after (.transmitSlot .sp1) s).ports.sp1 with sending := none }, {}⟩ }
       ((after (.transmitSlot .sp1) s).port .sp1).sending = some ⟨linkCell 45 .wakeAck, .portSlot⟩
       ∧ ((after (.transmitSlot .sp1) s1).port .sp1).sending = some ⟨linkCell 45 .dozeAck, .portSlot⟩)
    ∧ ((after (.transmitSlot .sp1) (withPort node { served 46 with slotDozeReq := some (linkCell 45 .dozeReq) })).port .sp1).sending
      = some ⟨linkCell 45 .dozeReq, .portSlot⟩
    ∧ ((after (.transmitSlot .sp1) (withPort node { served 46 with slotHello := some (linkCell 45 .hello) })).port .sp1).sending
      = some ⟨linkCell 45 .hello, .portSlot⟩
    ∧ ((after (.transmitSlot .sp1) (withTiu .down { insLink := [linkCell 45 .hold] })).port .sp1).sending
      = some ⟨linkCell 45 .hold, .linkIns⟩
    ∧ ((after (.transmitSlot .sp1) (withTiu .down { beaconSlot := some (linkCell 45 .beacon) })).port .sp1).sending
      = some ⟨linkCell 45 .beacon, .beaconSlot⟩
    ∧ ((after (.transmitSlot .sp1) (withTiu .down { tqCall := [cellOf .callSetup (cd 0 10 254 0)] })).port .sp1).sending
      = some ⟨cellOf .callSetup (cd 0 10 254 0), .tqCall⟩
    ∧ ((after (.transmitSlot .sp1) (withTiu .down { insCall := [cellOf .callSetup (cd 0 10 254 0)] })).port .sp1).sending
      = some ⟨cellOf .callSetup (cd 0 10 254 0), .callIns⟩ := by decide +kernel
/-- A VOICE without a HELD entry is removed, in both queues, and the slot takes what stands behind it. -/
theorem test_O21_dead_voice :
    (let v := cellOf .voice (cd 0 10 254 0x0A03)
     let x := cellOf .callSetup (cd 0 10 254 0)
     let s (t : Tiu) := withTiu .down t
     v.kind = .voice ∧ heldIn ((s { tqCall := [v, x] }).table .down) (callOf v.toCellData) = false
     ∧ ((after (.transmitSlot .sp1) (s { tqCall := [v, x] })).port .sp1).sending = some ⟨x, .tqCall⟩
     ∧ ((after (.transmitSlot .sp1) (s { tqCall := [v, x] })).side .down).counts.voiceUnreserved = 1
     ∧ ((after (.transmitSlot .sp1) (s { insCall := [v], tqData := [tollCell] })).port .sp1).sending = some ⟨tollCell, .tqData⟩
     ∧ ((after (.transmitSlot .sp1) (s { tqCall := [v], insCall := [v] })).side .down).counts.voiceUnreserved = 2
     ∧ ((after (.transmitSlot .sp1) (s { tqCall := [v], insCall := [v] })).port .sp1).wire = .emptySlot) := by decide +kernel
theorem test_O22_data_choice :
    (let t := cellOf .tollRecord (cd 0 45 254 0)
     let g := cellOf .signReply (cd 0 45 1 0)
     let r := cellOf .weatherReport (cd 0 45 254 0)
     ((after (.transmitSlot .sp1) (withTiu .down { insToll := [t], holdExpiry := some 1 })).port .sp1).wire = .emptySlot
     ∧ ((after (.transmitSlot .sp1) (withTiu .down { insToll := [t] })).port .sp1).sending = some ⟨t, .tollIns⟩
     ∧ ((after (.transmitSlot .sp1) (withTiu .down { insSign := [g], insReport := [r] })).port .sp1).sending = some ⟨g, .signIns⟩
     ∧ ((after (.transmitSlot .sp1) (withTiu .down { insReport := [r] })).port .sp1).sending = some ⟨r, .reportIns⟩
     ∧ ((after (.transmitSlot .sp1) (withTiu .down { insToll := [t], tqData := [r], fairness := 3 })).port .sp1).sending
       = some ⟨r, .tqData⟩
     ∧ ((after (.transmitSlot .sp1) (withTiu .down { insToll := [t], tqData := [r], fairness := 4 })).port .sp1).sending
       = some ⟨t, .tollIns⟩
     ∧ ((after (.transmitSlot .sp1) (withTiu .down { tqData := [r] })).port .sp1).sending = some ⟨r, .tqData⟩) := by decide +kernel
theorem test_O23_completion :
    (let x : Sending := ⟨{ tollCell with reference := 7 }, .tollIns⟩
     let s := { withPort node { served 46 with sending := some x } with
       csd := { store := [{ sequence := 7, body := [], state := .dispatching .down }], nextSeq := 8 } }
     s.portFree .sp1 = true ∧ (s.port .sp1).sending = some x ∧ x.source = .tollIns ∧ x.cell.kind = .tollRecord
     ∧ gantryFitted s.straps = true
     ∧ (after (.transmissionComplete .sp1) s).csd.store
       = [{ sequence := 7, body := [], state := .sent, attempts := 1, sameDirection := 1, lastDirection := some .down,
            retry := some 1000 }])
    ∧ (let s := ((withPort node { served 46 with sending := some ⟨tollCell, .tqData⟩ }).setSide .down
         { tqData := List.replicate 32 tollCell }).setSide .up { holdRepeat := some 5 }
       (s.side (s.sideOf .sp1)).tqData.length ≤ 32 ∧ (s.side (otherSide (s.sideOf .sp1))).holdRepeat.isSome = true
       ∧ s.inService (otherSide (s.sideOf .sp1)) = true
       ∧ ((after (.transmissionComplete .sp1) s).side .up).counts.resumesSent = 1) := by decide +kernel

/-! ## Witnesses: gateway reach -/

theorem test_O24_beacons :
    (let b (o : Byte) (q : Half) : CellData := { cd 3 o 255 q with flags := 2 }
     let s := { node with reach := ⟨{}, { reachTo 60 4 with sequence := 10, age := 600 }⟩ }
     cellGranted s .sp1 (cellOf .beacon (b 60 11)) = true ∧ s.sideOf .sp1 = .down ∧ (b 60 11).flags.getLsbD 1 = true
     ∧ s.station.toNat < (60 : Byte).toNat
     ∧ ((after (.beacon .sp1 (b 60 11)) s).entry .down).sequence = 11
     ∧ ((after (.beacon .sp1 (b 60 11)) s).side .up).beaconSlot.isSome = true
     ∧ ((after (.beacon .sp1 (b 60 10)) s).entry .down).counts.beaconStale = 1
     ∧ ((10 + 32767 : Half) - 10).toNat = 32767 ∧ ((after (.beacon .sp1 (b 60 (10 + 32767))) s).entry .down).counts.beaconsTaken = 1
     ∧ ((after (.beacon .sp1 (b 60 (10 + 32768))) s).entry .down).counts.beaconStale = 1
     ∧ ((after (.beacon .sp1 (b 70 0)) s).entry .down).counts.reachChanges = 1
     ∧ cellGranted s .sp1 (cellOf .beacon (b 40 11)) = true
     ∧ ((after (.beacon .sp1 (b 40 11)) s).entry .down).counts.beaconMismarked = 1
     ∧ ((after (.beacon .sp1 { b 60 11 with flags := 0 }) s).entry .down).counts.beaconMismarked = 1
     ∧ s.live = true ∧ (s.entry .down).valid = true ∧ ((after (.reachLapse .down) s).entry .down).valid = false
     ∧ 600 ≤ (s.entry .down).age.toNat
     ∧ (let y := { node with reach := ⟨{}, { reachTo 60 4 with age := 599 }⟩ }
        y.live = true ∧ (y.entry .down).age.toNat < 600 ∧ ((after (.reachLapse .down) y).entry .down).valid = true)
     ∧ ((after (.reachLapse .down) (after (.beacon .sp1 (b 60 11)) s)).entry .down).valid = true) := by decide +kernel
theorem test_O25_nearest :
    (let s (u d : ReachEntry) := { node with reach := ⟨u, d⟩ }
     (s (reachTo 40 5) (reachTo 60 5)).nearest = some .up ∧ (s (reachTo 40 6) (reachTo 60 5)).nearest = some .down
     ∧ (s (reachTo 40 5) {}).nearest = some .up ∧ (s {} (reachTo 60 5)).nearest = some .down ∧ (s {} {}).nearest = none
     ∧ statusByte (s {} (reachTo 60 5)) 0x36 = 1) := by decide +kernel

/-! ## Witnesses: calls at a path node -/

/-- A cell of the call of station 10 that goes toward the office. -/
def onward : CellData := cd 1 46 254 0x0A03

theorem test_O26_setup_reserves :
    passesHere node onward = true ∧ cellGranted node .sp1 (cellOf .callSetup onward) = true
    ∧ namesCall (node.table .down) (callOf onward) = false ∧ namesCall (node.table .up) (callOf onward) = false
    ∧ (node.table .down).length < 8 ∧ takesCall node .up = true ∧ callOf onward = call10
    ∧ ((after (.callSetup .sp1 onward) node).table .up) = [pathEntry call10 .breakdown false .gateway]
    ∧ (let s := { node with srt := ⟨filled 7 .breakdown, filled 7 .breakdown⟩ }
       cellGranted s .sp1 (cellOf .callSetup onward) = true ∧ (s.table .up).length < 8 ∧ (s.table .down).length < 8
       ∧ ((after (.callSetup .sp1 onward) s).table .up).length = 8) := by decide +kernel
theorem test_O27_setup_refused :
    (let dup := { node with srt := ⟨[pathEntry call10 .breakdown false .gateway], []⟩ }
     passesHere dup onward = true ∧ cellGranted dup .sp1 (cellOf .callSetup onward) = true
     ∧ namesCall (dup.table .up) (callOf onward) = true ∧ takesLocal (dup.holding 0) .down .call = true
     ∧ (after (.callSetup .sp1 onward) dup).ccu.refusesDuplicate = 1)
    ∧ (let cut := node.setPort .sp2 {}
       cellGranted cut .sp1 (cellOf .callSetup onward) = true ∧ cut.inService .up = false
       ∧ (after (.callSetup .sp1 onward) cut).ccu.refusesNoRoute = 1)
    ∧ (let full := { node with srt := ⟨filled 8 .breakdown, []⟩ }
       cellGranted full .sp1 (cellOf .callSetup onward) = true ∧ namesCall (full.table .up) (callOf onward) = false
       ∧ full.inService .up = true ∧ 8 ≤ (full.table .up).length ∧ gradeOf onward.aux6 = .breakdown
       ∧ (after (.callSetup .sp1 onward) full).ccu.refusesSpanFull = 1)
    ∧ (let stuck := { node with srt := ⟨filled 8 .accident, []⟩ }
       youngestBreakdown (stuck.table .up) = none
       ∧ (after (.callSetup .sp1 { onward with aux6 := 1 }) stuck).ccu.refusesSpanFull = 1) := by decide +kernel
theorem test_O28_preemption :
    (let s := { node with srt := ⟨filled 8 .breakdown, []⟩ }
     let c := { onward with aux6 := 1 }
     passesHere s c = true ∧ cellGranted s .sp1 (cellOf .callSetup c) = true ∧ gradeOf c.aux6 = .accident
     ∧ (s.table .down).length < 8 ∧ 8 ≤ (s.table .up).length ∧ takesCall s .up = true
     ∧ youngestBreakdown (s.table .up) = some (pathEntry ⟨12, .line0, 7⟩ .breakdown false .gateway)
     ∧ ((after (.callSetup .sp1 c) s).table .up) = filled 7 .breakdown ++ [pathEntry call10 .accident false .gateway]
     ∧ (after (.callSetup .sp1 c) s).ccu.brokenPreempted = 2) := by decide +kernel
/-- The victim is this node's own call: its record waits, or takes the last place that the setup leaves on the other side. -/
theorem test_O28_origin_victim :
    (let c := { onward with aux6 := 1 }
     let k := calling .connected .talk true
     let s (n : Nat) (down : ReachEntry) := { k with
       srt := ⟨filled 7 .accident ++ k.srt.up, filled n .breakdown⟩, reach := ⟨{}, down⟩ }
     let s0 := s 0 {}
     passesHere s0 c = true ∧ cellGranted s0 .sp1 (cellOf .callSetup c) = true ∧ gradeOf c.aux6 = .accident
     ∧ namesCall (s0.table .down) (callOf c) = false ∧ namesCall (s0.table .up) (callOf c) = false
     ∧ 8 ≤ (s0.table .up).length ∧ takesCall s0 .up = true
     ∧ (youngestBreakdown (s0.table .up)).map (fun e => (e.place, e.identity)) = some (.origin, own)
     ∧ (s0.line .line0).record = some (recordOf .connected) ∧ (s0.entry .down).valid = false
     ∧ ((after (.callSetup .sp1 c) s0).line .line0).record = some (waitingRecord .breakdown)
     ∧ (let n : Identity := ⟨45, .line0, 1⟩
        (s 6 (reachTo 60 5)).entry .down = reachTo 60 5 ∧ ((s 6 (reachTo 60 5)).table .down).length < 7
        ∧ takesLocal (grantedState (s 6 (reachTo 60 5))) .down .call = true
        ∧ ((after (.callSetup .sp1 c) (s 6 (reachTo 60 5))).line .line0).record = some (soughtOther n .breakdown .up)
        ∧ (after (.callSetup .sp1 c) (s 6 (reachTo 60 5))).table .down
          = filled 6 .breakdown ++ [originEntry n .breakdown, pathEntry call10 .accident false .origin])
     ∧ 7 ≤ ((s 7 (reachTo 60 5)).table .down).length
     ∧ ((after (.callSetup .sp1 c) (s 7 (reachTo 60 5))).line .line0).record = some (waitingRecord .breakdown)) := by decide +kernel
theorem test_O29_accept :
    (let s := { node with srt := ⟨[pathEntry call10 .breakdown false .origin], [pathEntry call10 .breakdown false .gateway]⟩ }
     let c := cd 1 46 10 0x0A03
     passesHere s c = true ∧ cellGranted s .sp1 (cellOf .callAccept c) = true ∧ namesCall (s.table .down) (callOf c) = true
     ∧ takesCall s .up = true ∧ heldIn ((after (.callAccept .sp1 c) s).table .up) call10 = true
     ∧ cellGranted node .sp1 (cellOf .callAccept c) = true ∧ namesCall (node.table .down) (callOf c) = false
     ∧ namesCall (node.table .up) (callOf c) = false ∧ takesLocal (node.holding 0) .down .call = true
     ∧ takesLocal (node.holding 1) .up .call = true ∧ (after (.callAccept .sp1 c) node).ccu.brokenLost = 2) := by decide +kernel
theorem test_O30_path_cells :
    (let s := { node with srt := ⟨[pathEntry call10 .breakdown true .gateway], [pathEntry call10 .breakdown true .origin]⟩ }
     passesHere s onward = true ∧ takesCall s .up = true ∧ cellGranted s .sp1 (cellOf .callRelease onward) = true
     ∧ cellGranted s .sp1 (cellOf .callRefuse (cd 1 46 10 0x0A03)) = true ∧ passesHere s (cd 1 46 10 0x0A03) = true
     ∧ cellGranted s .sp1 (cellOf .callBroken onward) = true
     ∧ (after (.callRelease .sp1 onward) s).srt = ⟨[], []⟩ ∧ (after (.callBroken .sp1 onward) s).srt = ⟨[], []⟩
     ∧ (after (.callRefuse .sp1 (cd 1 46 10 0x0A03)) s).srt = ⟨[], []⟩
     ∧ cellGranted s .sp1 (cellOf .callUpgrade onward) = true ∧ namesCall (s.table .up) (callOf onward) = true
     ∧ ((after (.callUpgrade .sp1 onward) s).table .up) = [pathEntry call10 .accident true .gateway]
     ∧ cellGranted node .sp1 (cellOf .callUpgrade onward) = true ∧ namesCall (node.table .up) (callOf onward) = false
     ∧ (after (.callUpgrade .sp1 onward) node).ccu.upgradeDropped = 1
     ∧ cellGranted s .sp1 (cellOf .voice onward) = true ∧ heldIn (s.table .up) (callOf onward) = true
     ∧ ((after (.voice .sp1 onward) s).side .up).tqCall.length = 1 ∧ heldIn (node.table .up) (callOf onward) = false
     ∧ ((after (.voice .sp1 onward) node).side .up).counts.voiceUnreserved = 1
     ∧ s.live = true ∧ timedPathEntry s call10 = some (pathEntry call10 .breakdown true .gateway)
     ∧ (after (.pathEntryTimerExpiry call10) s).ccu.voiceWatchExpiries = 1)
    ∧ (let stray := cd 1 46 254 0x2D00
       (Instr.voice .sp1 stray, Kind.voice) ∈ callCommands .sp1 stray ∧ cellGranted node .sp1 (cellOf .voice stray) = true
       ∧ (callOf stray).station = node.station ∧ stray.target ≠ node.station
       ∧ (after (.voice .sp1 stray) node).ccu.callMisdirected = 1
       ∧ (let other := cd 1 46 45 0x0A03
          cellGranted node .sp1 (cellOf .callAccept other) = true ∧ (callOf other).station ≠ node.station ∧ other.target = node.station
          ∧ (after (.callAccept .sp1 other) node).ccu.callMisdirected = 1)) := by decide +kernel

/-- A gateway takes a cell that it does not consume as a path node does: station 12's call, toward station 60. -/
theorem test_O27_O29_O30_at_a_gateway :
    (let c := cd 1 46 60 0x0C03
     let id : Identity := ⟨12, .line0, 3⟩
     let refusal (n : Byte) := [makeCell 45 .callRefuse 12 0x0C03 0 n 0 []]
     let dup := { gate with srt := ⟨[], [pathEntry id .breakdown false .origin]⟩ }
     straysHere gate c = true ∧ callCommands .sp1 c = (callCommands .sp1 c).filter (fun x => cellGranted gate .sp1 (cellOf x.2 c))
     ∧ namesCall (gate.table .up) (callOf c) = false ∧ namesCall (gate.table .down) (callOf c) = false
     ∧ otherSide (gate.sideOf .sp1) = otherSide gate.inner ∧ takesLocal (gate.holding 0) .down .call = true
     ∧ ((after (.callSetup .sp1 c) gate).side .down).insCall = refusal 3
     ∧ (after (.callSetup .sp1 c) gate).ccu.refusesNoRoute = 1
     ∧ straysHere dup c = true ∧ namesCall (dup.table .down) (callOf c) = true
     ∧ ((after (.callSetup .sp1 c) dup).side .down).insCall = refusal 4
     ∧ (after (.callAccept .sp1 c) gate).ccu.brokenLost = 2 ∧ (after (.callUpgrade .sp1 c) gate).ccu.upgradeDropped = 1
     ∧ [Instr.callRefuse .sp1 c, .callRelease .sp1 c, .callBroken .sp1 c, .voice .sp1 c].map
         (fun i => (after i gate).node.undelivered) = [1, 1, 1, 1])
    ∧ (let own := cd 1 46 60 0x2D00
       cellGranted gate .sp1 (cellOf .callSetup own) = true ∧ (callOf own).station = gate.station ∧ own.target ≠ gate.station
       ∧ own.target ≠ 254 ∧ (after (.callSetup .sp1 own) gate).ccu.callMisdirected = 1
       ∧ (after (.callSetup .sp1 own) gate).ccu.refusesNoRoute = 0) := by decide +kernel

/-! ## Witnesses: phone lines -/

/-- The node with line 0 in a state. -/
def lineIn (x : PhoneLine) : State := { node with lines := ⟨x, {}⟩ }

theorem test_O31_levels :
    node.phonesWork = true ∧ (node.line .line0).state = .idle ∧ ((after (.hookOffHook .line0) node).line .line0).state = .offhookCheck
    ∧ (let s := lineIn { state := .offhookCheck, offHook := true, hookDebounce := some 3 }
       s.phonesWork = true ∧ (s.line .line0).state = .offhookCheck ∧ ((after (.hookOnHook .line0) s).line .line0).state = .idle)
    ∧ (let s := calling .seeking .calling false
       s.phonesWork = true ∧ (s.line .line0).state = .calling ∧ ((after (.keyClose .line0) s).line .line0).keyMeasuring = true
       ∧ (let t := after (.keyClose .line0) s
          (t.line .line0).keyClosed = true ∧ (t.line .line0).keyTimer.isSome = true
          ∧ ((after (.keyStuck .line0) t).line .line0).keyStuck = true)) := by decide +kernel
theorem test_O32_off_hook :
    (let c := { lineIn { state := .offhookCheck, offHook := true, hookDebounce := some 0 } with reach := ⟨reachTo 40 5, {}⟩ }
     c.phonesWork = true ∧ (c.line .line0).state = .offhookCheck ∧ (c.line .line0).hookDebounce.isSome = true
     ∧ c.isGateway = false ∧ c.nearest = some .up ∧ (c.table .up).length < 8 ∧ takesLocal c .up .call = true
     ∧ ((after (.offhookDebounceExpiry .line0) c).line .line0).record = some (recordOf .seeking)
     ∧ (after (.offhookDebounceExpiry .line0) c).sps.incident = true)
    ∧ (let c := lineIn { state := .offhookCheck, offHook := true, hookDebounce := some 0 }
       c.nearest = none
       ∧ ((after (.offhookDebounceExpiry .line0) c).line .line0).record = some { state := .waiting, timer := some 3000 })
    ∧ (let g := { gate with lines := ⟨{ state := .offhookCheck, offHook := true, hookDebounce := some 0 }, {}⟩ }
       g.phonesWork = true ∧ g.isGateway = true ∧ freeChannel g = some 0 ∧ g.gw.toOffice.length < 32 ∧ 16 ≤ g.poolFree
       ∧ ((after (.offhookDebounceExpiry .line0) g).line .line0).state = .talk
       ∧ ((after (.offhookDebounceExpiry .line0) g).line .line0).counts.playoutUnderrun = 1
       ∧ channelAt (after (.offhookDebounceExpiry .line0) g) 0 = .localCall own .breakdown (some 3000)) := by decide +kernel
theorem test_O33_on_hook :
    (let s := (calling .connected .talk true).setLine .line0
       { (calling .connected .talk true).line .line0 with offHook := false, hookDebounce := some 0 }
     s.phonesWork = true ∧ (s.line .line0).state = .talk ∧ (s.line .line0).hookDebounce.isSome = true ∧ s.isGateway = false
     ∧ (s.line .line0).record = some (recordOf .connected) ∧ takesLocal s .up .call = true
     ∧ (after (.onhookDebounceExpiry .line0) s).srt = ⟨[], []⟩
     ∧ ((after (.onhookDebounceExpiry .line0) s).side .up).insCall = [makeCell 45 .callRelease 254 (referenceOf own) 0 0 0 []])
    ∧ (let g := localCalling.setLine .line0 { localCalling.line .line0 with offHook := false, hookDebounce := some 0 }
       g.phonesWork = true ∧ g.isGateway = true ∧ findChannel g own = some 0
       ∧ channelAt g 0 = .localCall own .breakdown (some 3000)
       ∧ channelAt (after (.onhookDebounceExpiry .line0) g) 0 = .free) := by decide +kernel
theorem test_O34_key :
    (let s := (calling .connected .talk true).setLine .line0
       { (calling .connected .talk true).line .line0 with keyClosed := true, keyTimer := some 1, keyMeasuring := true }
     s.phonesWork = true ∧ (s.line .line0).keyMeasuring = true ∧ (s.line .line0).record = some (recordOf .connected)
     ∧ takesLocal s .up .call = true
     ∧ ((after (.keyOpen .line0 299999) s).line .line0).record = some (recordOf .connected)
     ∧ ((after (.keyOpen .line0 300000) s).line .line0).record = some { recordOf .connected with grade := .accident }
     ∧ ((after (.keyOpen .line0 3000000) s).line .line0).record = some { recordOf .connected with grade := .accident }
     ∧ ((after (.keyOpen .line0 3000001) s).line .line0).record = some (recordOf .connected)
     ∧ ((after (.keyOpen .line0 300000) s).side .up).insCall = [makeCell 45 .callUpgrade 254 (referenceOf own) 1 0 0 []])
    ∧ (let g := localCalling.setLine .line0 { localCalling.line .line0 with keyClosed := true, keyMeasuring := true }
       channelAt (after (.keyOpen .line0 300000) g) 0 = .localCall own .accident (some 3000)) := by decide +kernel
theorem test_O35_talk :
    (let s := calling .connected .talk true
     s.phonesWork = true ∧ (s.line .line0).state = .talk ∧ heldIn (s.table .up) own = true ∧ takesLocal s .up .call = true
     ∧ ((after (.voicePackPeriod .line0 (List.replicate 32 1)) s).side .up).insCall
       = [makeCell 45 .voice 254 (referenceOf own) 0 0 0 (List.replicate 32 1)]
     ∧ (let n := s.setPort .sp2 {}
        n.phonesWork = true ∧ n.inService .up = false
        ∧ (after (.voicePackPeriod .line0 (List.replicate 32 1)) n).node.noSideCall = 1)
     ∧ (let b := s.setLine .line0 { s.line .line0 with playout := [[1], [2]] }
        ((after (.playoutPeriod .line0) b).line .line0).playing = .samples [1])
     ∧ (s.line .line0).playout = [] ∧ ((after (.playoutPeriod .line0) s).line .line0).playing = .silence) := by decide +kernel
/-- What refuses a VOICE offer, and the VOICE of a gateway's own phone. -/
theorem test_O35_refusals :
    (let k := calling .connected .talk true
     let v : Instr := .voicePackPeriod .line0 (List.replicate 32 1)
     let q := k.setSide .up { insCall := List.replicate 16 tollCell }
     let full (s : State) (n : Nat) : State := { s with node := s.node, gw := { s.gw with toOffice := List.replicate n tollCell } }
     q.inService .up = true ∧ 16 ≤ (q.side .up).insCall.length ∧ ((after v q).side .up).counts.queueRefusedCall = 1
     ∧ (let u := calling .connected .talk false
        u.phonesWork = true ∧ heldIn (u.table .up) own = false ∧ ((after v u).side .up).counts.voiceUnreserved = 1)
     ∧ (full k 497).poolFree = 15 ∧ (k.side .up).insCall.length < 16 ∧ (after v (full k 497)).node.poolRefusedCall = 1
     ∧ takesLocal (full k 496) .up .call = true
     ∧ (let g := localCalling
        g.phonesWork = true ∧ (g.line .line0).state = .talk ∧ findChannel g own = some 0
        ∧ channelAt g 0 = .localCall own .breakdown (some 3000) ∧ 16 ≤ (full g 31).poolFree
        ∧ ((after v (full g 31)).gw.toOffice.drop 31).map (fun c => c.payload) = [List.replicate 32 1]
        ∧ 32 ≤ (full g 32).gw.toOffice.length ∧ ((after v (full g 32)).line .line0).counts.voiceDropped = 1
        ∧ (let p := g.setSide .down { tqData := List.replicate 497 tollCell }
           p.poolFree < 16 ∧ p.gw.toOffice.length < 32 ∧ (after v p).node.poolRefusedCall = 1))) := by decide +kernel
theorem test_O36_record_timers :
    (let w (u : ReachEntry) := { lineIn { state := .calling, offHook := true, staleHold := some 0, nextSerial := 5,
                                          record := some { state := .waiting, timer := some 0 } } with reach := ⟨u, {}⟩ }
     (w {}).phonesWork = true ∧ ((w {}).line .line0).staleHold.isSome = true
     ∧ ((after (.staleAnswerHoldExpiry .line0) (w {})).line .line0).staleHold = none
     ∧ (w {}).nearest = none ∧ ((after (.callRetryTimerExpiry .line0) (w {})).line .line0).record
       = some { state := .waiting, timer := some 3000 }
     ∧ (w (reachTo 40 5)).nearest = some .up ∧ takesLocal (w (reachTo 40 5)) .up .call = true
     ∧ ((after (.callRetryTimerExpiry .line0) (w (reachTo 40 5))).line .line0).record
       = some { recordOf .seeking with identity := some ⟨45, .line0, 5⟩ })
    ∧ (let s := calling .seeking .calling false
       s.isGateway = false ∧ (s.line .line0).record = some (recordOf .seeking) ∧ (s.entry .down).valid = false
       ∧ takesLocal s .up .call = true ∧ (after (.setupTimerExpiry .line0) s).srt = ⟨[], []⟩
       ∧ ((after (.setupTimerExpiry .line0) s).line .line0).record = some { state := .waiting, timer := some 3000 })
    ∧ (let s := calling .connected .talk true
       (s.table .up).any (fun e => e.identity == own && e.held && e.timer.isSome) = true ∧ (s.entry .down).valid = false
       ∧ (after (.originVoiceWatchExpiry .line0) s).ccu.voiceWatchExpiries = 1
       ∧ ((after (.originVoiceWatchExpiry .line0) s).line .line0).state = .calling) := by decide +kernel
/-- The other side is VALID: a setup and a silent call go that way; an ACCIDENT attempt preempts. -/
theorem test_O36_other_way :
    (let n : Identity := ⟨45, .line0, 1⟩
     let down (s : State) : State := { s with reach := ⟨{}, reachTo 60 5⟩ }
     let s := down (calling .seeking .calling false)
     let v := down (calling .connected .talk true)
     (s.entry .down).valid = true ∧ hasTried (recordOf .seeking) .down = false ∧ (s.table .down).length < 8
     ∧ takesLocal (s.holding (s.inHand + 1)) .down .call = true
     ∧ ((after (.setupTimerExpiry .line0) s).line .line0).record = some (soughtOther n .breakdown .up)
     ∧ takesLocal (v.holding (v.inHand + 1)) .down .call = true
     ∧ ((after (.originVoiceWatchExpiry .line0) v).line .line0).record = some (soughtOther n .breakdown .up)
     ∧ (after (.originVoiceWatchExpiry .line0) v).srt = ⟨[], [originEntry n .breakdown]⟩)
    ∧ (let w := { lineIn { state := .calling, offHook := true, nextSerial := 5,
                           record := some { state := .waiting, grade := .accident, timer := some 0 } } with
         reach := ⟨reachTo 40 5, {}⟩, srt := ⟨filled 8 .breakdown, []⟩ }
       w.nearest = some .up ∧ 8 ≤ (w.table .up).length ∧ (youngestBreakdown (w.table .up)).map (fun e => e.place) = some .path
       ∧ w.inService .up = true ∧ (w.side .up).insCall.length + 1 < 16 ∧ 18 ≤ w.poolFree
       ∧ (after (.callRetryTimerExpiry .line0) w).ccu.preemptions = 1
       ∧ (after (.callRetryTimerExpiry .line0) w).table .up
         = filled 7 .breakdown ++ [originEntry ⟨45, .line0, 5⟩ .accident])
    ∧ (let k := calling .seeking .calling false
       let w := (({ k with reach := ⟨reachTo 40 5, {}⟩, srt := ⟨filled 7 .accident ++ k.srt.up, []⟩ } : State).setLine .line1
         { state := .calling, offHook := true, record := some { state := .waiting, grade := .accident, timer := some 0 } })
       w.nearest = some .up ∧ (youngestBreakdown (w.table .up)).map (fun e => e.identity) = some own
       ∧ (w.entry .down).valid = false ∧ takesLocal w .up .call = true
       ∧ ((after (.callRetryTimerExpiry .line1) w).line .line0).record = some (waitingRecord .breakdown)
       ∧ (after (.callRetryTimerExpiry .line1) w).ccu.preemptions = 1) := by decide +kernel
theorem test_O37_origin :
    (let c := cd 1 44 45 0x2D00
     let s := calling .seeking .calling false
     endsHere s c = true ∧ callOf c = own ∧ (s.line .line0).record = some (recordOf .seeking)
     ∧ cellGranted s .sp2 (cellOf .callAccept c) = true ∧ ((after (.callAccept .sp2 c) s).line .line0).state = .talk
     ∧ cellGranted s .sp2 (cellOf .callRelease c) = true ∧ ((after (.callRelease .sp2 c) s).line .line0).state = .cleared
     ∧ cellGranted s .sp2 (cellOf .callRefuse c) = true ∧ (s.entry (otherSide .up)).valid = false
     ∧ ((after (.callRefuse .sp2 c) s).line .line0).record = some { state := .waiting, timer := some 3000 }
     ∧ (let t := calling .connected .talk true
        cellGranted t .sp2 (cellOf .callBroken c) = true ∧ ((after (.callBroken .sp2 c) t).line .line0).state = .calling
        ∧ cellGranted t .sp2 (cellOf .voice c) = true ∧ ((after (.voice .sp2 c) t).line .line0).playout = [List.replicate 32 0]
        ∧ (let f := t.setLine .line0 { t.line .line0 with playout := [[1], [2], [3], [4]] }
           ((after (.voice .sp2 c) f).line .line0).playout = [[2], [3], [4], List.replicate 32 0]))) := by decide +kernel

/-- A refused and a broken call go the other way; stale answers are released once in 500 ms. -/
theorem test_O37_other_way_and_stale :
    (let c := cd 1 44 45 0x2D00
     let n : Identity := ⟨45, .line0, 1⟩
     let s := { calling .seeking .calling false with reach := ⟨{}, reachTo 60 5⟩ }
     (s.entry .down).valid = true ∧ (s.table .down).length < 8 ∧ hasTried (recordOf .seeking) .down = false
     ∧ takesLocal (grantedState s) .down .call = true ∧ cellGranted s .sp2 (cellOf .callRefuse c) = true
     ∧ ((after (.callRefuse .sp2 c) s).line .line0).record = some (soughtOther n .breakdown .up)
     ∧ cellGranted s .sp2 (cellOf .callBroken c) = true
     ∧ ((after (.callBroken .sp2 c) s).line .line0).record = some (soughtOther n .breakdown .up)
     ∧ (s.line .line0).playout = [] ∧ ((after (.callAccept .sp2 c) s).line .line0).playPeriod = some 4
     ∧ ((after (.callAccept .sp2 c) s).line .line0).counts.playoutUnderrun = 1)
    ∧ (let c := cd 1 44 45 0x2D07
       let s := calling .seeking .calling false
       endsHere s c = true ∧ (s.line .line0).record.map (fun r => r.identity) = some (some own) ∧ callOf c ≠ own
       ∧ cellGranted s .sp2 (cellOf .voice c) = true ∧ (s.line .line0).staleHold = none
       ∧ takesLocal (grantedState s) .up .call = true
       ∧ ((after (.voice .sp2 c) s).side .up).insCall = [makeCell 45 .callRelease 44 0x2D07 0 0 0 []]
       ∧ ((after (.callAccept .sp2 c) (after (.voice .sp2 c) s)).side .up).insCall.length = 1
       ∧ cellGranted s .sp2 (cellOf .callRelease c) = true ∧ ((after (.callRelease .sp2 c) s).side .up).insCall = []) := by
  decide +kernel

/-! ## Witnesses: the gateway end -/

theorem test_O38_gateway_setup :
    (let c := cd 1 46 254 0x2E03
     gatewayEnds gate c = true ∧ cellGranted gate .sp1 (cellOf .callSetup c) = true ∧ findChannel gate (callOf c) = none
     ∧ namesCall (gate.table gate.inner) (callOf c) = false ∧ freeChannel gate = some 0 ∧ gate.gw.toOffice.length < 32
     ∧ (gate.table gate.inner).length < 8 ∧ takesLocal (grantedState gate) gate.inner .call = true
     ∧ channelAt (after (.callSetup .sp1 c) gate) 0 = .chain ⟨46, .line0, 3⟩ .breakdown
     ∧ ((after (.callSetup .sp1 c) gate).side .down).insCall
       = [makeCell 45 .callAccept 46 0x2E03 0 0 0 []]) := by decide +kernel
/-- The reasons of a refusal, and the preemption of the youngest BREAKDOWN call. -/
theorem test_O38_refusals_and_preemption :
    (let c := { cd 1 46 254 0x2E03 with aux6 := 7 }
     let other : Identity := ⟨50, .line1, 2⟩
     let entry (id : Identity) (g : Grade) : SrtEntry :=
       { identity := id, grade := g, held := true, place := .gateway, faces := .origin, timer := some 3000 }
     let tableOf (g : Grade) := (List.range 7).map (fun i => entry ⟨12, .line0, BitVec.ofNat 4 i⟩ .accident) ++ [entry other g]
     let s (g : Grade) (office : Nat) := { gate with
       srt := ⟨[], tableOf g⟩
       gw := { gate.gw with
         toOffice := List.replicate office tollCell, channels := gate.gw.channels.set 5 (.chain other .breakdown) } }
     let last (t : State) := ((t.side .down).insCall.getLast?).map (fun x => (x.kind, x.aux6, x.aux7))
     cellGranted chained .sp1 (cellOf .callSetup c) = true ∧ (findChannel chained (callOf c)).isSome = true
     ∧ takesLocal (grantedState chained) .down .call = true
     ∧ last (after (.callSetup .sp1 c) chained) = some (.callRefuse, 7, 4)
     ∧ (s .breakdown 32).gw.toOffice.length = 32 ∧ last (after (.callSetup .sp1 c) (s .breakdown 32)) = some (.callRefuse, 7, 2)
     ∧ last (after (.callSetup .sp1 c) (s .breakdown 31)) = some (.callRefuse, 7, 1)
     ∧ (let a := { c with aux6 := 1 }
        let p := after (.callSetup .sp1 a) (s .breakdown 30)
        gatewayEnds (s .breakdown 30) a = true ∧ cellGranted (s .breakdown 30) .sp1 (cellOf .callSetup a) = true
        ∧ youngestBreakdown ((s .breakdown 30).table .down) = some (entry other .breakdown)
        ∧ findChannel (s .breakdown 30) other = some 5 ∧ 16 ≤ ((s .breakdown 30).holding 2).poolFree
        ∧ freeChannel (setChannel (s .breakdown 30) 5 .free) = some 0
        ∧ channelAt p 0 = .chain ⟨46, .line0, 3⟩ .accident ∧ channelAt p 5 = .free
        ∧ (p.gw.toOffice.drop 30).map (fun x => (x.kind, x.hops)) = [(.callBroken, 5), (.callSetup, 0)]
        ∧ (p.side .down).insCall.map (fun x => x.kind) = [.callBroken, .callAccept] ∧ p.ccu.preemptions = 1
        ∧ last (after (.callSetup .sp1 a) (s .breakdown 31)) = some (.callRefuse, 1, 2)
        ∧ last (after (.callSetup .sp1 a) (s .accident 30)) = some (.callRefuse, 1, 1))) := by decide +kernel
theorem test_O39_gateway_calls :
    (let c := cd 1 46 254 0x2E03
     let id : Identity := ⟨46, .line0, 3⟩
     gatewayEnds chained c = true ∧ findChannel chained id = some 0 ∧ channelAt chained 0 = .chain id .breakdown
     ∧ chained.gw.toOffice.length < 32 ∧ cellGranted chained .sp1 (cellOf .callRelease c) = true
     ∧ cellGranted chained .sp1 (cellOf .callBroken c) = true ∧ channelAt (after (.callRelease .sp1 c) chained) 0 = .free
     ∧ channelAt (after (.callBroken .sp1 c) chained) 0 = .free
     ∧ cellGranted chained .sp1 (cellOf .callUpgrade c) = true
     ∧ channelAt (after (.callUpgrade .sp1 c) chained) 0 = .chain id .accident
     ∧ cellGranted chained .sp1 (cellOf .voice c) = true ∧ (after (.voice .sp1 c) chained).gw.toOffice.length = 1
     ∧ chained.gatewayWorks = true ∧ (watchedGatewayEntry chained id).isSome = true
     ∧ takesLocal chained chained.inner .call = true ∧ channelAt (after (.gatewayVoiceWatchExpiry id) chained) 0 = .free
     ∧ (let g := { localCalling with gw := { localCalling.gw with toOffice := List.replicate 32 tollCell } }
        g.gatewayWorks = true ∧ findChannel g own = some 0 ∧ channelAt g 0 = .localCall own .breakdown (some 3000)
        ∧ 32 ≤ g.gw.toOffice.length ∧ (after (.localVoiceWatchExpiry .line0) g).gw.counts.noticesLost = 1
        ∧ ((after (.localVoiceWatchExpiry .line0) g).line .line0).state = .calling)) := by decide +kernel

/-- The voice watch of a local call, with room for both notices, for one, and without a buffer. -/
theorem test_O39_local_watch :
    (let s (n : Nat) := { localCalling with gw := { localCalling.gw with toOffice := List.replicate n tollCell } }
     let pad (x : State) (n : Nat) := x.setSide .up { tqData := List.replicate n tollCell }
     let w : Instr := .localVoiceWatchExpiry .line0
     let k := s 30
     k.gatewayWorks = true ∧ (k.line .line0).record.map (fun r => r.state) = some .connected ∧ (k.line .line0).nextSerial = 1
     ∧ findChannel k own = some 0 ∧ freeChannel (setChannel k 0 .free) = some 0 ∧ 17 ≤ k.poolFree
     ∧ ((after w k).line .line0).state = .talk ∧ channelAt (after w k) 0 = .localCall ⟨45, .line0, 1⟩ .breakdown (some 3000)
     ∧ ((after w k).line .line0).record = some { identity := some ⟨45, .line0, 1⟩, state := .connected }
     ∧ ((after w k).gw.toOffice.drop 30).map (fun c => (c.kind, c.aux7)) = [(.callBroken, 7), (.callSetup, 0)]
     ∧ (s 31).gw.toOffice.length = 31 ∧ 16 ≤ (s 31).poolFree ∧ ((after w (s 31)).line .line0).state = .calling
     ∧ (after w (s 31)).gw.toOffice.length = 32 ∧ (after w (s 31)).ccu.refusesOfficeFull = 1
     ∧ (pad (s 0) 496).poolFree = 16 ∧ (after w (pad (s 0) 496)).gw.toOffice.length = 1
     ∧ (pad (s 0) 497).poolFree < 16 ∧ (after w (pad (s 0) 497)).gw.counts.noticesLost = 1) := by decide +kernel

/-! ## Witnesses: gantry line and custody -/

/-- The node with its gantry line changed. -/
def withGli (g : Gli) : State := { node with gli := g }
def char (v : Byte) : FifoChar := { value := v, parity := false, framing := false, brk := false, overrun := false }

theorem test_O40_gantry_line :
    node.gantryWorks = true ∧ node.gli.lineBreak = false
    ∧ (after (.characterReceived 0x1C true true) node).gli.fifo = [{ char 0x1C with parity := parityOdd 0x1C true }]
    ∧ (withGli { fifo := List.replicate 64 (char 0) }).gli.fifo.length = 64
    ∧ (after (.characterReceived 1 true true) (withGli { fifo := List.replicate 64 (char 0) })).gli.lossPending = true
    ∧ (after (.characterReceived 1 true true) (withGli { fifo := List.replicate 63 (char 0) })).gli.lossPending = false
    ∧ (after .breakDetected node).gli.lineBreak = true ∧ (after .breakEnd (after .breakDetected node)).gli.lineBreak = false
    ∧ (after .transmitControlCharacter (withGli { flowPlace := some .xoff, answers := [.ack] })).gli.txChar = some 0x13
    ∧ (let s := withGli { answers := List.replicate 7 .ack, heldAnswer := some .nak }
       s.gli.flowPlace = none ∧ s.gli.answers.length ≤ 7
       ∧ (after .transmitControlCharacter s).gli.answers = List.replicate 6 .ack ++ [.nak])
    ∧ (after .transmitControlCharacter node).gli.txChar = none := by decide +kernel
/-- A good record: twenty characters 0x30, whose sum is 0xC0 modulo 256, so that the check is 0x40. -/
theorem test_O41_assembler :
    (let s (a : Assembler) (c : FifoChar) := withGli { assembler := a, fifo := [c] }
     (s .hunt (char 0x1C)).gantryWorks = true ∧ (s .hunt (char 0x1C)).gli.heldAnswer = none
     ∧ (after .assemblerTakeCharacter (s .hunt (char 0x1C))).gli.assembler = .assemble [] false
     ∧ (after .assemblerTakeCharacter (s .hunt (char 0x1B))).gli.assembler = .hunt
     ∧ (after .assemblerTakeCharacter (s (.assemble [1] false) (char 0x1C))).gli.counts.recordsTruncated = 1
     ∧ (after .assemblerTakeCharacter (s (.assemble [1] false) { char 0 with brk := true })).gli.counts.recordsBroken = 1
     ∧ (after .assemblerTakeCharacter (s (.assemble (List.replicate 19 0x30) false) (char 0x30))).gli.assembler
       = .assemble (List.replicate 20 0x30) false
     ∧ (after .assemblerTakeCharacter (s (.assemble [] false) (char 0x1F))).gli.assembler = .assemble [0x1F] true
     ∧ (after .assemblerTakeCharacter (s (.assemble [] false) (char 0x7E))).gli.assembler = .assemble [0x7E] false
     ∧ (after .assemblerTakeCharacter (s (.assemble [] false) (char 0x7F))).gli.assembler = .assemble [0x7F] true
     ∧ (after .assemblerTakeCharacter (s (.assemble (List.replicate 20 0x30) false) (char 0x40))).gli.assembler
       = .write (List.replicate 20 0x30)
     ∧ (let t := after .assemblerTakeCharacter (s (.assemble (List.replicate 20 0x30) false) (char 0x41))
        t.gli.assembler = .hunt ∧ t.gli.answers = [.nak] ∧ t.gli.counts.recordsDamaged = 1)) := by decide +kernel
theorem test_O41_assembler_store :
    (let full := { withGli { assembler := .assemble (List.replicate 20 0x30) false, fifo := [char 0x40] } with
       csd := { store := List.replicate 256 { sequence := 1, body := [] } } }
     256 ≤ full.csd.store.length ∧ (after .assemblerTakeCharacter full).gli.counts.recordsFull = 1)
    ∧ (let used := { withGli { assembler := .assemble (List.replicate 20 0x30) false, fifo := [char 0x40] } with
         csd := { store := [{ sequence := 0, body := [] }] } }
       used.csd.store.length < 256 ∧ findEntry used used.csd.nextSeq ≠ none
       ∧ (after .assemblerTakeCharacter used).gli.counts.sequenceHeld = 1) := by decide +kernel
theorem test_O42_store_write :
    (let s (n : Nat) (g : Gli) := { withGli { g with assembler := .write [5] } with
       csd := { store := List.replicate n { sequence := 1, body := [] }, nextSeq := 2 } }
     (s 0 {}).gantryWorks = true ∧ (after .storeWriteComplete (s 0 {})).csd.store = [{ sequence := 2, body := [5] }]
     ∧ (after .storeWriteComplete (s 0 {})).gli.answers = [.ack]
     ∧ (after .storeWriteComplete (s 0 { answers := List.replicate 7 .nak })).gli.heldAnswer = some .ack
     ∧ (after .storeWriteComplete (s 239 {})).gli.flowPlace = some .xoff
     ∧ (after .storeWriteComplete (s 238 {})).gli.flowStopped = false) := by decide +kernel
theorem test_O43_custody :
    (let e : CustodyEntry := { sequence := 7, body := [5] }
     let s := { node with reach := ⟨reachTo 40 5, {}⟩, csd := { store := [e], nextSeq := 8, dispatchTimer := some 0 } }
     s.gantryWorks = true ∧ s.csd.dispatchTimer.isSome = true ∧ inFlight s.csd.store < 16
     ∧ oldestQueued s.csd.store = some e ∧ switchSide s e = none ∧ s.nearest = some .up ∧ takesLocal s .up .toll = true
     ∧ ((after .dispatchTimerExpiry s).side .up).insToll = [makeCell 45 .tollRecord 254 7 0 0 0 [5]]
     ∧ (after .dispatchTimerExpiry s).csd.store = [{ e with state := .dispatching .up }]
     ∧ (let n := s.setPort .sp2 {}
        n.inService .up = false ∧ n.nearest = some .up ∧ (after .dispatchTimerExpiry n).csd.counts.dispatchRefused = 1)
     ∧ (let q := s.setSide .up { insToll := List.replicate 16 tollCell }
        q.inService .up = true ∧ 16 ≤ (q.side .up).insToll.length ∧ q.nearest = some .up
        ∧ ((after .dispatchTimerExpiry q).side .up).counts.queueRefusedToll = 1
        ∧ (after .dispatchTimerExpiry q).csd.store = [e])
     ∧ (let p := s.setSide .down { tqData := List.replicate 449 tollCell }
        p.poolFree = 63 ∧ (p.side .up).insToll.length < 16 ∧ p.inService .up = true
        ∧ (after .dispatchTimerExpiry p).node.poolRefusedToll = 1)
     ∧ (let w : CustodyEntry := { e with lastDirection := some .up, sameDirection := 4, attempts := 4 }
        let z := { s with
          reach := ⟨reachTo 40 5, reachTo 60 5⟩
          csd := { s.csd with
            store := w :: (List.range 15).map (fun i => { sequence := BitVec.ofNat 16 (50 + i), body := [], state := .sent }) } }
        inFlight z.csd.store = 15 ∧ oldestQueued z.csd.store = some w ∧ (z.entry .down).valid = true
        ∧ takesLocal z .down .toll = true ∧ (after .dispatchTimerExpiry z).csd.counts.directionSwitches = 1
        ∧ (findEntry (after .dispatchTimerExpiry z) 7).map (fun x => (x.state, x.sameDirection))
          = some (.dispatching .down, 0)))
    ∧ (let e : CustodyEntry := { sequence := 7, body := [5], state := .sent, attempts := 1, retry := some 0 }
       let s := { node with csd := { store := [e], nextSeq := 8 } }
       findEntry s 7 = some e ∧ e.retry.isSome = true ∧ (s.entry .up).valid = false ∧ (s.entry .down).valid = false
       ∧ (after (.custodyRetryExpiry 7) s).csd.store = [{ e with state := .queued, retry := none }]
       ∧ cellGranted s .sp1 (cellOf .tollAck (cd 1 60 45 7)) = true ∧ gantryFitted s.straps = true
       ∧ (after (.tollAck .sp1 (cd 1 60 45 7)) s).csd.store = [] ∧ findEntry s 9 = none
       ∧ (after (.tollAck .sp1 (cd 1 60 45 9)) s).csd.counts.lateAck = 1
       ∧ (let g := { s with straps := exampleStraps }
          gantryFitted g.straps = false ∧ cellGranted g .sp1 (cellOf .tollAck (cd 1 60 45 7)) = true
          ∧ (after (.tollAck .sp1 (cd 1 60 45 7)) g).node.noConsumer = 1)) := by decide +kernel
theorem test_O44_toll_once :
    (let c (q : Half) := cd 1 46 254 q
     let s := { gate with gw := { gate.gw with acceptance := [{ station := 46, base := 100, flags := 4 }] } }
     gate.isGateway = true ∧ cellGranted gate .sp1 (cellOf .tollRecord (c 9)) = true ∧ acceptanceOf gate 46 = none
     ∧ gate.gw.toOffice.length < 32 ∧ takesLocal (grantedState gate) (gate.sideOf .sp1) .toll = true
     ∧ (after (.tollRecord .sp1 (c 9)) gate).gw.acceptance = [{ station := 46, base := 10, flags := 0 }]
     ∧ acceptanceOf s 46 = some { station := 46, base := 100, flags := 4 }
     ∧ acceptanceOf (after (.tollRecord .sp1 (c 101)) s) 46 = some { station := 46, base := 100, flags := 6 }
     ∧ acceptanceOf (after (.tollRecord .sp1 (c 131)) s) 46 = some { station := 46, base := 100, flags := 0x80000004 }
     ∧ (after (.tollRecord .sp1 (c 102)) s).gw.counts.tollDuplicates = 1
     ∧ (after (.tollRecord .sp1 (c 99)) s).gw.counts.tollDuplicates = 1
     ∧ ((99 : Half) - 100).toNat = 65535 ∧ (after (.tollRecord .sp1 (c (100 + 32768))) s).gw.counts.tollDuplicates = 1
     ∧ (let f := { gate with gw := { gate.gw with toOffice := List.replicate 32 tollCell } }
        32 ≤ f.gw.toOffice.length ∧ acceptanceOf f 46 = none
        ∧ (after (.tollRecord .sp1 (c 9)) f).gw.counts.tollOfficeFull = 1)
     ∧ acceptanceOf (after (.tollRecord .sp1 (c 100)) s) 46 = some { station := 46, base := 101, flags := 2 }
     ∧ (let r := { s with gw := { s.gw with acceptance := [{ station := 46, base := 65535, flags := 0xFFFFFFFE }] } }
        acceptanceOf (after (.tollRecord .sp1 (c 65535)) r) 46 = some { station := 46, base := 31, flags := 0 }
        ∧ (after (.tollRecord .sp1 (c 31)) r).gw.counts.windowSkipped = 1)
     ∧ acceptanceOf (after (.tollRecord .sp1 (c 132)) s) 46 = some { station := 46, base := 101, flags := 0x80000002 }
     ∧ (after (.tollRecord .sp1 (c 132)) s).gw.counts.windowSkipped = 1
     ∧ ((100 + 32767 : Half) - 100).toNat < 32768
     ∧ acceptanceOf (after (.tollRecord .sp1 (c (100 + 32767))) s) 46
       = some { station := 46, base := 100 + 32736, flags := 0x80000000 }
     ∧ (after (.tollRecord .sp1 (c (100 + 32767))) s).gw.counts.windowSkipped = 32735
     ∧ (after (.tollRecord .sp1 (c (100 + 32767))) s).gw.counts.windowSlides = 1
     ∧ (let f := { s with gw := { s.gw with toOffice := List.replicate 32 tollCell } }
        acceptanceOf f 46 = some { station := 46, base := 100, flags := 4 }
        ∧ (after (.tollRecord .sp1 (c 101)) f).gw.counts.tollOfficeFull = 1
        ∧ (after (.tollRecord .sp1 (c 132)) f).gw.counts.tollOfficeFull = 1
        ∧ (after (.tollRecord .sp1 (c 102)) f).gw.counts.tollDuplicates = 1)) := by decide +kernel

/-! ## Witnesses: sign -/

/-- A SIGN command from the gateway of station 60 that came from the DOWNROAD side. -/
def task (k : Kind) (a6 a7 : Byte) (payload : List Byte) : SignTask :=
  { cell := makeCell 60 k 45 5 a6 a7 0 payload, side := some .down }
/-- The node with a sign command at the head. -/
def signing (x : SignTask) : State := { node with sps := { node.sps with waiting := [x] } }

theorem test_O45_sign_window :
    cellGranted node .sp1 (cellOf .signShow (cd 1 60 45 0)) = true ∧ signFitted node.straps = true
    ∧ (after (.signCommandConsumed .sp1 .showPage (cd 1 60 45 0)) node).sps.waiting
      = [{ cell := cellOf .signShow (cd 1 60 45 0), side := some .down }]
    ∧ (let n := { node with straps := { kAll with fit0 := .gnd } }
       signFitted n.straps = false ∧ cellGranted n .sp1 (cellOf .signShow (cd 1 60 45 0)) = true
       ∧ (after (.signCommandConsumed .sp1 .showPage (cd 1 60 45 0)) n).node.noConsumer = 1)
    ∧ (let s := signing (task .signWindow 0 3 [127, 127, 31, 31])
       s.signWorks = true ∧ s.sps.job = none ∧ (after .signWindow s).sps.curCol = 127 ∧ (after .signWindow s).sps.winPage = 3
       ∧ takesLocal s .down .sign = true ∧ ((after .signWindow s).side .down).insSign.length = 1)
    ∧ (after .signWindow (signing (task .signWindow 0 4 [0, 1, 0, 1]))).sps.counts.badWindow = 1
    ∧ (after .signWindow (signing (task .signWindow 0 0 [2, 1, 0, 1]))).sps.counts.badWindow = 1
    ∧ (after .signWindow (signing (task .signWindow 0 0 [0, 128, 0, 1]))).sps.counts.badWindow = 1
    ∧ (after .signWindow (signing (task .signWindow 0 0 [0, 1, 0]))).sps.counts.badWindow = 1
    ∧ (after .signPixels (signing (task .signPixels 0 192 (List.replicate 48 0)))).sps.job = some 0
    ∧ (after .signPixels (signing (task .signPixels 0 193 (List.replicate 49 0)))).sps.counts.badWindow = 1
    ∧ (after .signPixels (signing (task .signPixels 0 0 [0]))).sps.counts.badWindow = 1
    ∧ (after .signPixels (signing (task .signPixels 0 5 [0]))).sps.counts.badWindow = 1
    ∧ consumedHere gate 255 = true ∧ signFitted gate.straps = true ∧ consumedHere node 255 = false
    ∧ cellGranted gate .sp1 (cellOf .signShow (cd 1 60 255 0)) = true
    ∧ (after (.signCommandConsumed .sp1 .showPage (cd 1 60 255 0)) gate).sps.waiting.length = 1 := by decide +kernel
/-- Two pixels, 3 and 2, at the end of page 1: the second wraps to the window's first corner. -/
theorem test_O46_pixels :
    (let s := { signing (task .signPixels 0 2 [0xE0]) with
       sps := { (signing (task .signPixels 0 2 [0xE0])).sps with job := some 0, winPage := 1, curCol := 127, curRow := 31 } }
     s.signWorks = true ∧ s.sps.job = some 0 ∧ Memory.wf s.sps.pages = true ∧ s.sps.scanned ≠ some s.sps.winPage
     ∧ targetPage s.sps ≠ some s.sps.winPage
     ∧ (after .pixelWrite s).sps.pages = [(8191, 3)] ∧ (after .pixelWrite s).sps.curCol = 0
     ∧ (let t := after .pixelWrite s
        t.sps.job = some 1 ∧ (after .pixelWrite t).sps.pages = [(4096, 2), (8191, 3)] ∧ (after .pixelWrite t).sps.waiting = []
        ∧ takesLocal t .down .sign = true ∧ ((after .pixelWrite t).side .down).insSign.length = 1)
     ∧ (let shown := { s with sps := { s.sps with scanned := some 1 } }
        (after .pixelWrite shown).sps.counts.shown = 1 ∧ (after .pixelWrite shown).sps.pages = [])) := by decide +kernel
theorem test_O47_answers :
    (after .signShow (signing (task .signShow 0 1 []))).sps.remote = some .page1
    ∧ (signing (task .signShow 0 1 [])).signWorks = true ∧ (signing (task .signShow 0 1 [])).sps.job = none
    ∧ (after .signShow (signing (task .signShow 0 255 []))).sps.remote = some .noPage
    ∧ (after .signShow (signing (task .signShow 0 2 []))).sps.remote = none
    ∧ (after .signShow (signing (task .signShow 0 2 []))).sps.counts.badPage = 1
    ∧ (let s := signing (task .signClear 0 2 [])
       let a := { s with sps := { s.sps with hazard := true, reasonsActive := true } }
       hazardEnabled a.straps = true ∧ (after .signClear a).sps.hazard = true ∧ (after .signClear a).sps.counts.active = 1
       ∧ (let b := { s with sps := { s.sps with hazard := true, hazardHold := some 9 } }
          (after .signClear b).sps.hazard = false ∧ (after .signClear b).sps.hazardHold = none))
    ∧ (after .signClear (signing (task .signClear 0 4 []))).sps.counts.badPage = 1
    ∧ (after .signDim (signing (task .signDim 0 0 [77]))).sps.level = 77
    ∧ (after .signDim (signing (task .signDim 0 0 []))).sps.counts.badPage = 1
    ∧ (after .signDim (signing (task .signDim 0 1 []))).sps.dim = .auto
    ∧ (after .signDim (signing (task .signDim 0 2 [1]))).sps.counts.badPage = 1
    ∧ (after .signShow (signing (task .signShow 0 1 []))).sps.counts = { signCommands := 1 }
    ∧ (let s := signing { cell := makeCell 60 .signClear 45 5 0 9 0 [], side := none }
       let f := { s with gw := { s.gw with toOffice := List.replicate 32 tollCell } }
       replyTaken s none = true ∧ replyTaken f none = false
       ∧ (after .signClear f).sps.counts = { signCommands := 1, badPage := 1, repliesLost := 1 }) := by decide +kernel
theorem test_O48_target : (let s (x : Sps) := targetPage x
    s { incident := true, hazard := true } = some 2 ∧ s { hazard := true, remote := some .page0 } = some 3
    ∧ s { remote := some .page0 } = some 0 ∧ s { remote := some .page1 } = some 1 ∧ s { remote := some .noPage } = none
    ∧ s {} = none ∧ statusByte node 0x7D = 4) := by decide +kernel
theorem test_O49_refresh :
    (let s := { node with sps := { node.sps with incident := true, nextRow := 32, scanned := some 0 } }
     s.signWorks = true ∧ targetPage s.sps ≠ s.sps.scanned ∧ (after .refreshBoundary s).sps.flash = some 0
     ∧ (let t := { s with sps := { s.sps with scanned := some 2, flash := some 99 } }
        targetPage t.sps = t.sps.scanned ∧ (after .refreshBoundary t).sps.flash = some 0)
     ∧ (let r (k : Nat) := { s with sps := { s.sps with scanned := some 2, flash := some k, nextRow := 31, level := 255,
                                                         pages := [(4096 * 2 + 128 * 31 + 127, 3)] } }
        (r 49).sps.nextRow < 32 ∧ (after .rowPeriod (r 49)).sps.drivers.getD 127 0 = 3
        ∧ (after .rowPeriod (r 50)).sps.drivers.getD 127 0 = 0 ∧ (after .rowPeriod (r 49)).sps.duty1 = 63)
     ∧ (let h := { node with sps := { node.sps with hazard := true, hazardHold := some 0 } }
        h.sps.hazardHold.isSome = true ∧ (after .hazardHoldExpiry h).sps.hazard = false)) := by decide +kernel
theorem test_O50_slew :
    (let s (l t : Byte) := { node with sps := { node.sps with level := l, dim := .fixed t } }
     (s 0 3).signWorks = true ∧ (after .brightnessSlew (s 0 3)).sps.level = 3 ∧ (after .brightnessSlew (s 0 4)).sps.level = 4
     ∧ (after .brightnessSlew (s 0 5)).sps.level = 4 ∧ (after .brightnessSlew (s 9 4)).sps.level = 5
     ∧ (after .brightnessSlew (s 7 7)).sps.level = 7) ∧ held.running = false ∧ strapFault kAll = false
    ∧ signFitted kAll = true
    ∧ (signing (task .signDim 0 0 [77])).sps.waiting = [task .signDim 0 0 [77]] ∧ (task .signDim 0 0 [77]).cell.length ≠ 0 := by
  decide +kernel

/-! ## Witnesses: weather -/

/-- The node with its weather unit changed. -/
def withWsu (w : Wsu) : State := { node with wsu := w }

theorem test_O51_sweep :
    node.weatherWorks = true ∧ node.wsu.converter = .idle ∧ (after .sweepStart node).wsu.converter = .settling 1
    ∧ (after .sweepStart (withWsu { converter := .settling 3 })).wsu.counts.sweepsSkipped = 1
    ∧ (after .settleExpiry (withWsu { converter := .settling 3 })).wsu.converter = .converting 3
    ∧ (after (.endOfConversion 9) (withWsu { converter := .converting 11 })).wsu.converter = .settling 12
    ∧ (after (.endOfConversion 9) (withWsu { converter := .converting 12 })).wsu.counts.sweeps = 1
    ∧ (after (.endOfConversion 600) (withWsu { converter := .converting 4 })).sps.autoTarget = 48 := by decide +kernel
theorem test_O52_results :
    (let s := withWsu { converter := .converting 12 }
     let f (r : BitVec 12) := (after (.endOfConversion r) s).wsu.channels.getD 11 {}
     s.weatherWorks = true ∧ s.wsu.channels.length = 12 ∧ (f 8).lastFault = some .openLead ∧ (f 9).ring = [9]
     ∧ (f 4086).ring = [4086] ∧ (f 4087).lastFault = some .short ∧ (f 4095).faultedRun = 1 ∧ (f 0).ring = [])
    ∧ (let s (c : Channel) := withWsu { converter := .converting 12, channels := (List.replicate 11 {}) ++ [c] }
       let f (c : Channel) (r : BitVec 12) := (after (.endOfConversion r) (s c)).wsu.channels.getD 11 {}
       (f { faultedRun := 1, ring := [9] } 0).fault = false ∧ (f { faultedRun := 1, ring := [9] } 0).ring = [9]
       ∧ (f { faultedRun := 2, ring := [9] } 0).fault = true ∧ (f { faultedRun := 2, ring := [9] } 0).ring = []
       ∧ (f { faultedRun := 2 } 0).faultEntries = 1 ∧ (f { fault := true, faultedRun := 2, ring := [9] } 0).ring = [9]
       ∧ (f { fault := true, validRun := 1 } 9).fault = true ∧ (f { fault := true, validRun := 2 } 9).fault = false
       ∧ channelHalf { fault := true, validRun := 1, ring := [9] } = 0xC000) := by decide +kernel
theorem test_O53_wind :
    (let s := withWsu { windCounter := 255 }
     s.weatherWorks = true ∧ s.wsu.overflows = 0 ∧ windActive s.wsu = false ∧ iceActive s.wsu = false
     ∧ (after .windPulse s).wsu.windCounter = 156 ∧ (after .windPulse s).sps.hazard = true
     ∧ (after .windPulse (withWsu { windCounter := 254 })).wsu.windCounter = 255
     ∧ (after .windPulse (withWsu { windCounter := 255, overflows := 255 })).wsu.overflows = 255
     ∧ (after .windWindowStart (withWsu { windCounter := 160, overflows := 2, gustMark := true })).wsu.latestWindow = 204
     ∧ (after .windWindowStart (withWsu { windCounter := 160, periodMax := some 4 })).wsu.periodMax = some 4
     ∧ (after .windWindowStart (withWsu { windCounter := 161, periodMax := some 4 })).wsu.periodMax = some 5
     ∧ (let h := { withWsu { windCounter := 156, windMemory := true :: List.replicate 19 false } with
          sps := { node.sps with hazard := true, reasonsActive := true } }
        reasonsActive h.wsu = true ∧ reasonsActive (after .windWindowStart h).wsu = false
        ∧ (after .windWindowStart h).sps.hazardHold = some 600000)) := by decide +kernel
theorem test_O54_rain :
    (after .rainTip (withWsu { tips := 65535 })).wsu.tips = 65535 ∧ (withWsu {}).weatherWorks = true
    ∧ (after .rainTip (withWsu {})).wsu.interval = .running 0 0 ∧ (withWsu {}).wsu.interval = .unarmed
    ∧ (after .rainTip (withWsu { interval := .running 0 5 })).wsu.lastInterval = some 1
    ∧ (after .rainTip (withWsu { interval := .running 9 5 })).wsu.lastInterval = some 9
    ∧ (after .rainTip (withWsu { interval := .stopped, lastInterval := some 3 })).wsu.lastInterval = some 3
    ∧ (after .reportPeriodEnd (withWsu { tips := 9 })).wsu.tips = 0 := by decide +kernel
theorem test_O55_race :
    (after .intervalTimerStop (withWsu { interval := .running 65534 9 })).wsu.interval = .stopped
    ∧ (after .surfaceRaceStart node).wsu.refCounter = 55536
    ∧ (let r := withWsu { racing := true }
       r.weatherWorks = true ∧ r.wsu.racing = true ∧ (channelOf r.wsu 2).fault = false ∧ average (channelOf r.wsu 2) = none
       ∧ (after (.referenceOverflow 0) r).wsu.race = some .stopped ∧ (after (.referenceOverflow 4000) r).wsu.road = .dry
       ∧ (after (.referenceOverflow 3999) r).wsu.road = .wet ∧ (after .surfaceOverflow r).wsu.race = some .fast
       ∧ (let m := withWsu { racing := true, road := .ice }
          iceActive m.wsu = true ∧ windActive m.wsu = false ∧ reasonsActive (after .surfaceOverflow m).wsu = false
          ∧ (let h := { m with sps := { m.sps with reasonsActive := true, hazard := true } }
             (after .surfaceOverflow h).sps.hazardHold = some 600000)))
    ∧ (let i (t : BitVec 12) := withWsu { racing := true, channels := (List.replicate 12 {}).set 1 { ring := [t] } }
       average (channelOf (i 1365).wsu 2) = some 1365 ∧ (after (.referenceOverflow 3999) (i 1365)).wsu.road = .ice
       ∧ (after (.referenceOverflow 3999) (i 1366)).wsu.road = .wet
       ∧ reasonsActive (i 1365).wsu = false ∧ signFitted (i 1365).straps = true ∧ hazardEnabled (i 1365).straps = true
       ∧ (after (.referenceOverflow 3999) (i 1365)).sps.hazard = true
       ∧ (after (.referenceOverflow 3999) (i 1365)).wsu.counts.hazardOnsets = 1
       ∧ (after (.referenceOverflow 3999) (i 1366)).sps = (i 1366).sps) := by decide +kernel

/-! ## Witnesses: reports, office and maintenance -/

theorem test_O56_reports :
    (let s := { node with reach := ⟨reachTo 40 5, {}⟩ }
     s.weatherWorks = true ∧ s.isGateway = false ∧ s.nearest = some .up ∧ takesLocal s .up .report = true
     ∧ ((after .reportPeriodEnd s).side .up).insReport
       = [makeCell 45 .weatherReport 254 1 0 0 0 (reportPayload { s.wsu with reportNumber := 1 })]
     ∧ node.nearest = none ∧ (after .reportPeriodEnd node).wsu.counts.reportsNoReach = 1
     ∧ gate.weatherWorks = true ∧ 64 ≤ gate.poolFree ∧ gate.gw.toOffice.length < 32
     ∧ (after .reportPeriodEnd gate).gw.toOffice.length = 1)
    ∧ takesLocal (grantedState node) (node.sideOf .sp1) .report = true
    ∧ cellGranted node .sp1 (cellOf .weatherPoll (cd 1 60 45 9)) = true ∧ weatherFitted node.straps = true
    ∧ ((after (.weatherPoll .sp1 (cd 1 60 45 9)) node).side .down).insReport.length = 1
    ∧ (let n := { node with straps := { kAll with fit0 := .openPin } }
       weatherFitted n.straps = false ∧ cellGranted n .sp1 (cellOf .weatherPoll (cd 1 60 45 9)) = true
       ∧ (after (.weatherPoll .sp1 (cd 1 60 45 9)) n).node.noConsumer = 1)
    ∧ cellGranted node .sp1 (cellOf .nodeQuery (cd 1 60 45 9)) = true
    ∧ cellGranted gate .sp1 (cellOf .signReply (cd 1 60 45 9)) = true
    ∧ (after (.signReply .sp1 (cd 1 60 45 9)) gate).gw.toOffice = [cellOf .signReply (cd 0 60 45 9)]
    ∧ cellGranted gate .sp1 (cellOf .weatherReport (cd 1 60 45 9)) = true
    ∧ cellGranted node .sp1 (cellOf .nodeStatus (cd 1 60 45 9)) = true
    ∧ (after (.nodeStatus .sp1 (cd 1 60 45 9)) node).node.noConsumer = 1
    ∧ (let f := { gate with gw := { gate.gw with toOffice := List.replicate 32 tollCell } }
       32 ≤ f.gw.toOffice.length ∧ (after (.signReply .sp1 (cd 1 60 45 9)) f).gw.counts.toOfficeDroppedSign = 1
       ∧ (after (.weatherReport .sp1 (cd 1 60 45 9)) f).gw.counts.toOfficeDroppedReport = 1) := by decide +kernel
/-- R197: a query is answered with the 52 bytes that the spec lists. -/
theorem test_O56_query : ((after (.nodeQuery .sp1 (cd 1 60 45 9)) node).side .down).insReport.map (fun c => c.payload.length) = [52]
    ∧ (after (.nodeQuery .sp1 (cd 1 60 45 9)) node).maint.queriesAnswered = 1
    ∧ ((after (.nodeQuery .sp1 (cd 1 60 45 9)) node).side .down).insReport.map (fun c => c.payload.take 2) = [(List.range 2).map (statusByte node)]
    ∧ consumedHere gate 254 = true ∧ cellGranted gate .sp1 (cellOf .weatherReport (cd 1 60 254 9)) = true
    ∧ (after (.weatherReport .sp1 (cd 1 60 254 9)) gate).gw.toOffice = [cellOf .weatherReport (cd 0 60 254 9)] := by decide +kernel
theorem test_O57_office_link :
    (let b := { gate with gw := { gate.gw with beaconPeriod := some 0 } }
     b.gatewayWorks = true ∧ b.gw.beaconPeriod.isSome = true ∧ b.inService b.inner = true
     ∧ ((after .beaconPeriod b).side .down).insLink = [makeCell 45 .beacon 255 0 0 0 0 []]
     ∧ (let f := b.setSide .down { insLink := List.replicate 8 (linkCell 45 .hold) }
        8 ≤ (f.side f.inner).insLink.length ∧ (after .beaconPeriod f).gw.counts.beaconsRefused = 1))
    ∧ gate.gw.toTransfer = none
    ∧ (let q := { gate with gw := { gate.gw with toOffice := [tollCell] } }
       (after (.toOfficeTransferStart true) q).gw.toTransfer = some (cellCheck tollCell)
       ∧ (after (.toOfficeTransferStart false) q).gw.toTransfer = none
       ∧ (after .toOfficeTransferComplete (after (.toOfficeTransferStart true) q)).gw.toOffice = [])
    ∧ (after .fromOfficeTransferStart gate).gw.fromTransfer = some .kept
    ∧ (let r : RawCell := { cd 0 1 45 0 with code := 0x32 }
       let k := after .fromOfficeTransferStart gate
       (after (.fromOfficeTransferComplete r (checkOf r.code r.toCellData)) k).gw.fromOffice = [r]
       ∧ (after (.fromOfficeTransferComplete r (checkOf r.code r.toCellData + 1)) k).gw.counts.officeCheckErrors = 1
       ∧ (let f := { gate with gw := { gate.gw with fromOffice := List.replicate 32 r } }
          32 ≤ f.gw.fromOffice.length ∧ (after .fromOfficeTransferStart f).gw.fromTransfer = some .overrun
          ∧ (after (.fromOfficeTransferComplete r 0) (after .fromOfficeTransferStart f)).gw.fromTransfer = none)) := by
  decide +kernel
/-- STRAP-FAULT holds GRDY low: what the office sends there is an overrun. -/
theorem test_O57_strap_fault :
    (let f := { State.reset with straps := { kGate with flip := .openPin } }
     f.running = true ∧ f.isGateway = true ∧ strapFault f.straps = true ∧ f.gw.fromTransfer = none ∧ grdy f = false
     ∧ (after .fromOfficeTransferStart f).gw.counts.officeOverruns = 1
     ∧ (after .fromOfficeTransferStart f).gw.fromTransfer = some .overrun
     ∧ (after (.fromOfficeTransferComplete { cd 0 1 45 0 with code := 0x32 } 0) (after .fromOfficeTransferStart f)).gw.fromOffice = []
     ∧ after (.toOfficeTransferStart true) f = f
     ∧ after .fromOfficeTransferStart { f with power := { resetLow := true } } = { f with power := { resetLow := true } }) := by
  decide +kernel
theorem test_O58_office_cells :
    (let r : RawCell := { cd 0 1 46 0 with code := 0x32 }
     let s := { gate with gw := { gate.gw with fromOffice := [r] } }
     s.gatewayWorks = true ∧ cellOfRaw r = some (cellOf .signShow (cd 0 1 46 0)) ∧ isStation (46 : Byte) = true
     ∧ (46 : Byte) ≠ s.station ∧ takesLocal s s.inner .sign = true
     ∧ ((after .officeSignOrReportCell s).side .down).insSign = [cellOf .signShow (cd 0 45 46 0)]
     ∧ (let f := s.setSide .down { insSign := List.replicate 8 (linkCell 45 .signReply) }
        s.inService s.inner = true ∧ insCapacity .sign ≤ (insQueue (f.side f.inner) .sign).length
        ∧ (after .officeSignOrReportCell f).gw.headOffered = true
        ∧ (let a := { after .officeSignOrReportCell f with tiu := gate.tiu }
           a.gw.headOffered = true ∧ (after .officeOfferRetry a).gw.fromOffice = []))
     ∧ (let d := s.setPort .sp1 {}
        d.inService d.inner = false ∧ (after .officeSignOrReportCell d).gw.counts.officeUndelivered = 1))
    ∧ (let v (k : Byte) : RawCell := { cd 0 1 45 0x2E03 with code := k }
       let s (k : Byte) := { chained with gw := { chained.gw with fromOffice := [v k] } }
       channelAt (s 0x16) 0 = .chain ⟨46, .line0, 3⟩ .breakdown ∧ takesLocal (s 0x16) (s 0x16).inner .call = true
       ∧ heldIn ((s 0x16).table (s 0x16).inner) ⟨46, .line0, 3⟩ = true ∧ (s 0x16).gw.headOffered = false
       ∧ ((after .officeVoice (s 0x16)).side .down).insCall.length = 1
       ∧ channelAt (after .officeCallRelease (s 0x13)) 0 = .free
       ∧ officeKind (v 0x7F) = .reject ∧ (after .officeCellRejected (s 0x7F)).gw.counts.officeRejected = 1) := by decide +kernel
/-- An office cell for this station, for ALL, for a LOCAL channel, and for no channel. -/
theorem test_O58_own_all_and_local :
    (let r (t : Byte) : RawCell := { cd 0 1 t 0 with code := 0x32 }
     let s (t : Byte) := { gate with gw := { gate.gw with fromOffice := [r t] } }
     let pad (x : State) (n : Nat) := x.setSide .up { tqData := List.replicate n tollCell }
     cellOfRaw (r 45) = some (cellOf .signShow (cd 0 1 45 0)) ∧ signFitted (s 45).straps = true
     ∧ (pad (s 45) 448).poolFree = 64
     ∧ (after .officeSignOrReportCell (pad (s 45) 448)).sps.waiting = [{ cell := cellOf .signShow (cd 0 1 45 0), side := none }]
     ∧ (pad (s 45) 449).poolFree < 64 ∧ (after .officeSignOrReportCell (pad (s 45) 449)).gw.headOffered = true
     ∧ takesLocal ((s 255).holding 1) .down .sign = true
     ∧ (let t := after .officeSignOrReportCell (s 255)
        t.sps.waiting.length = 1 ∧ (t.side .down).insSign = [cellOf .signShow (cd 0 45 255 0)] ∧ t.gw.fromOffice = [])
     ∧ (let f := (s 255).setSide .down { insSign := List.replicate 8 (linkCell 45 .signReply) }
        let t := after .officeSignOrReportCell f
        insCapacity .sign ≤ (insQueue (f.side .down) .sign).length ∧ 64 ≤ f.poolFree
        ∧ t.gw.headOffered = true ∧ t.gw.headHandedOver = true ∧ t.sps.waiting.length = 1
        ∧ (let u := { t with tiu := gate.tiu }
           takesLocal u .down .sign = true ∧ (after .officeOfferRetry u).sps.waiting.length = 1
           ∧ (after .officeOfferRetry u).gw.fromOffice = [])))
    ∧ (let v (k : Byte) : RawCell := { cd 0 1 45 0x2D00 with code := k }
       let s (k : Byte) := { localCalling with gw := { localCalling.gw with fromOffice := [v k] } }
       (cellOfRaw (v 0x16)).map (fun c => c.kind) = some .voice ∧ (cellOfRaw (v 0x13)).map (fun c => c.kind) = some .callRelease
       ∧ channelAt (s 0x16) 0 = .localCall own .breakdown (some 3000)
       ∧ ((after .officeVoice (s 0x16)).line .line0).playout = [List.replicate 32 0]
       ∧ ((after .officeCallRelease (s 0x13)).line .line0).state = .cleared
       ∧ channelAt (after .officeCallRelease (s 0x13)) 0 = .free
       ∧ (let x (k : Byte) := { gate with gw := { gate.gw with fromOffice := [v k] } }
          channelHolds own (channelAt (x 0x16) 0) = false ∧ (after .officeVoice (x 0x16)).gw.counts.officeRejected = 1
          ∧ (after .officeCallRelease (x 0x13)).gw.counts.officeRejected = 1)) := by decide +kernel
theorem test_O59_maintenance :
    node.running = true ∧ (after (.pointerWrite 3) node).maint.readPtr = 3
    ∧ (after (.ignoredWriteByte 9) (after (.pointerWrite 3) node)).maint.justSet = false
    ∧ (let r := after .statusByteRead (after (.pointerWrite 3) node)
       r.maint.driven = some 0 ∧ r.maint.latch = some ⟨4, [1]⟩ ∧ (after .statusByteRead r).maint.driven = some 1
       ∧ (after .statusByteRead r).maint.latch = none)
    ∧ fieldAt node 0xFF = none ∧ node.maint.latch = none
    ∧ (after .statusByteRead (after (.pointerWrite 0xEF) node)).maint.bank = 1
    ∧ (after .statusByteRead { after (.pointerWrite 0xEF) node with maint := { readPtr := 0xEF, bank := 10 } }).maint.bank = 0
    ∧ alertAsserted node = false ∧ alertAsserted (node.setPort .sp1 { state := .fault }) = true
    ∧ statusByte (withGli { flowStopped := true }) 0x14 = 0x84 ∧ statusByte node 0x53 = 0
    ∧ (let c := { after (.pointerWrite 0xF0) node with node := { transitDrop := 5 } }
       c.maint.justSet = true ∧ c.maint.readPtr = 0xF0 ∧ (after (.ignoredWriteByte 0xA5) c).node.transitDrop = 0
       ∧ (after (.ignoredWriteByte 0xA4) c).node.transitDrop = 5
       ∧ (after (.ignoredWriteByte 0xA5) (after (.ignoredWriteByte 0xA4) c)).node.transitDrop = 5) := by decide +kernel
theorem test_O60_clear :
    (let s := after (.pointerWrite 0xF0) { node with node := { transitDrop := 5 } }
     s.maint.justSet = true ∧ s.maint.readPtr = 0xF0 ∧ s.running = true ∧ (after .counterClear s).node.transitDrop = 0
     ∧ (after .counterClear s).powerOnCount = 1) ∧ satInc (65535 : Half) = 65535 ∧ satInc (65534 : Half) = 65535 := by
  decide +kernel

end Sys2Proof.Tests
end

section
/-! PROOFS. The direction answers (R67), case by case on which entries are VALID, and the status byte that shows the
answer to NEAREST (R196, offset 0x36). -/

namespace Sys2Proof.Machine

/-! ## The answer to NEAREST, one equation per row of R67's table -/

section
variable {s : State}

theorem entry_up : s.entry .up = s.reach.up := rfl
theorem entry_down : s.entry .down = s.reach.down := rfl

/-- The tie goes to UPROAD: the model tests that DOWNROAD is strictly nearer. -/
theorem nearest_of_both_valid (hu : (s.entry .up).valid = true) (hd : (s.entry .down).valid = true) :
    s.nearest = if (s.entry .up).hops.toNat ≤ (s.entry .down).hops.toNat then some .up else some .down := by
  rw [entry_up] at hu ⊢
  rw [entry_down] at hd ⊢
  simp only [State.nearest, hu, hd]
  by_cases h : s.reach.up.hops.toNat ≤ s.reach.down.hops.toNat
  · rw [if_pos h, if_neg (Nat.not_lt.mpr h)]
  · rw [if_neg h, if_pos (Nat.lt_of_not_le h)]

theorem nearest_of_only_up_valid (hu : (s.entry .up).valid = true) (hd : (s.entry .down).valid = false) :
    s.nearest = some .up := by
  rw [entry_up] at hu
  rw [entry_down] at hd
  simp only [State.nearest, hu, hd]

theorem nearest_of_only_down_valid (hu : (s.entry .up).valid = false) (hd : (s.entry .down).valid = true) :
    s.nearest = some .down := by
  rw [entry_up] at hu
  rw [entry_down] at hd
  simp only [State.nearest, hu, hd]

theorem nearest_of_none_valid (hu : (s.entry .up).valid = false) (hd : (s.entry .down).valid = false) :
    s.nearest = none := by
  rw [entry_up] at hu
  rw [entry_down] at hd
  simp only [State.nearest, hu, hd]

theorem nearestExcluding_eq (d : Side) :
    s.nearestExcluding d = if (s.entry (otherSide d)).valid then some (otherSide d) else none := rfl

/-! ## The status byte at 0x36 -/

theorem nearestCode_of_nearest_some {d : Side} (hg : s.isGateway = false) (h : s.nearest = some d) :
    nearestCode s = sideCode d := by
  simp [nearestCode, hg, h]

theorem nearestCode_of_nearest_none (hg : s.isGateway = false) (h : s.nearest = none) : nearestCode s = 2 := by
  simp [nearestCode, hg, h]

end

theorem nearestField_mem_statusFields (s : State) : fieldNat1 0x36 (nearestCode s) ∈ statusFields s := by
  simp only [statusFields, List.mem_append, List.mem_cons, true_or, or_true]

@[simp] theorem fieldNat1_off (off n : Nat) : (fieldNat1 off n).off = off := rfl
@[simp] theorem fieldNat1_bytes (off n : Nat) : (fieldNat1 off n).bytes = [BitVec.ofNat 8 n] := rfl

/-- Settles O25: the answers row by row of R67's table, and the field at 0x36 as the witness of the status byte. -/
theorem nearestGatewayIsAnswered : Obligations.NearestGatewayIsAnswered := by
  intro s
  refine ⟨nearest_of_both_valid, nearest_of_only_up_valid, nearest_of_only_down_valid, nearest_of_none_valid,
    fun _ => nearestExcluding_eq _, fieldNat1 0x36 (nearestCode s), nearestField_mem_statusFields s,
    fieldNat1_off _ _, fun hg => ?_⟩
  rw [fieldNat1_bytes]
  rcases h : s.nearest with _ | _ | _
  · rw [nearestCode_of_nearest_none hg h]; rfl
  · rw [nearestCode_of_nearest_some hg h]; rfl
  · rw [nearestCode_of_nearest_some hg h]; rfl

end Sys2Proof.Machine
end

section
/-! PROOFS. The target page (R142): one equation per rank of the claim set, and the two places that show it: the byte of
the status table at 0x7D (R196) and byte 2 of a SIGN-REPLY (R131). -/

namespace Sys2Proof.Machine

/-! ## The target page, rank by rank -/

section
variable {x : Sps}

theorem targetPage_of_incident (hi : x.incident = true) : targetPage x = some 2 := by
  simp only [targetPage, hi, if_true]

theorem targetPage_of_hazard (hi : x.incident = false) (hh : x.hazard = true) : targetPage x = some 3 := by
  simp only [targetPage, hi, hh, Bool.false_eq_true, if_false, if_true]

/-- Without INCIDENT and HAZARD the target is that of REMOTE alone, which evaluates for each of its pages. -/
theorem targetPage_of_remote {r : Option RemotePage} (hi : x.incident = false) (hh : x.hazard = false)
    (hr : x.remote = r) : targetPage x = targetPage { remote := r } := by
  simp only [targetPage, hi, hh, hr]

/-! ## The page shown, where the target is BLANK (R135) -/

theorem pageShown_iff : pageShown x = true ↔ x.scanned = some x.winPage ∨ targetPage x = some x.winPage := by
  simp only [pageShown, Bool.or_eq_true, beq_iff_eq]

theorem pageShown_iff_of_blank_target (h : targetPage x = none) :
    pageShown x = true ↔ x.scanned = some x.winPage := by
  rw [pageShown_iff, h]
  exact or_iff_left (Option.some_ne_none _).symm

end

/-! ## Where the target page is shown -/

theorem mem_statusFields_of_mem_signFields {s : State} {f : Field} (h : f ∈ signFields s.sps) : f ∈ statusFields s := by
  simp only [statusFields, List.mem_append, h, true_or, or_true]

theorem targetField_mem_signFields (x : Sps) : field1 0x7D (pageCode (targetPage x)) ∈ signFields x := by
  simp only [signFields, List.mem_cons, true_or, or_true]

theorem replyPayload_getD_two (x : Sps) (k : Kind) (n : Nat) :
    (replyPayload x k n).getD 2 0 = pageCode (targetPage x) := rfl

/-- Settles O48: the ranks of R142 from the highest down, then the BLANK target, the status table and the reply. -/
theorem targetPageFollowsTheClaims : Obligations.TargetPageFollowsTheClaims := by
  intro s
  refine ⟨targetPage_of_incident, targetPage_of_hazard, fun hi hh => ⟨?page0, ?page1, ?blank⟩,
    pageShown_iff_of_blank_target, ?table, replyPayload_getD_two s.sps⟩
  case page0 => exact targetPage_of_remote hi hh
  case page1 => exact targetPage_of_remote hi hh
  case blank =>
    rintro (hr | hr)
    · exact targetPage_of_remote hi hh hr
    · exact targetPage_of_remote hi hh hr
  case table =>
    exact ⟨_, mem_statusFields_of_mem_signFields (targetField_mem_signFields s.sps), rfl, rfl⟩

end Sys2Proof.Machine
end

section
/-! PROOFS. The brightness slew (R148): one slew step as arithmetic on the level, a rise of many periods in closed form,
and the level and target that RESET-END and SIGN-DIM leave (R146). -/

namespace Sys2Proof.Machine

/-! ## One slew step -/

section
variable {level target : Byte}

theorem toNat_slewed_of_lt (h : level.toNat < target.toNat) :
    (slewed level target).toNat = min (level.toNat + 4) target.toNat := by
  have ht := target.isLt
  rw [slewed, if_pos h, BitVec.toNat_ofNat, Nat.mod_eq_of_lt (by omega)]

theorem toNat_slewed_of_gt (h : target.toNat < level.toNat) :
    (slewed level target).toNat = max (level.toNat - 4) target.toNat := by
  have hl := level.isLt
  rw [slewed, if_neg (by omega), if_pos h, BitVec.toNat_ofNat, Nat.mod_eq_of_lt (by omega)]

theorem slewed_self (l : Byte) : slewed l l = l := by
  rw [slewed, if_neg (Nat.lt_irrefl _), if_neg (Nat.lt_irrefl _)]

/-- At the target the step stays there, which the closed form of a rise covers as well. -/
theorem toNat_slewed_of_le (h : level.toNat ≤ target.toNat) :
    (slewed level target).toNat = min (level.toNat + 4) target.toNat := by
  rcases Nat.lt_or_eq_of_le h with hlt | heq
  · exact toNat_slewed_of_lt hlt
  · obtain rfl := BitVec.eq_of_toNat_eq heq
    rw [slewed_self]
    omega

/-! ## Many slew steps toward one target -/

/-- A rise gains 4 a period until it meets the target. -/
theorem toNat_foldl_slewed (h : level.toNat ≤ target.toNat) (n : Nat) :
    ((List.range n).foldl (fun b _ => slewed b target) level).toNat = min (level.toNat + 4 * n) target.toNat := by
  induction n with
  | zero => rw [List.range_zero, List.foldl_nil, Nat.mul_zero, Nat.add_zero, Nat.min_eq_left h]
  | succ n ih =>
    rw [List.range_succ, List.foldl_append, List.foldl_cons, List.foldl_nil, toNat_slewed_of_le (by omega), ih]
    omega

/-- A rise from 0 has met its target after `n` periods exactly when 4 a period suffice. -/
theorem foldl_slewed_eq_iff (n : Nat) :
    (List.range n).foldl (fun b _ => slewed b target) 0 = target ↔ target.toNat ≤ 4 * n := by
  have h0 : (0 : Byte).toNat = 0 := rfl
  rw [← BitVec.toNat_inj, toNat_foldl_slewed (Nat.zero_le _), h0]
  omega

end

/-! ## The slew period -/

theorem exec_brightnessSlew {s : State} (h : s.signWorks = true) :
    exec .brightnessSlew s
      = .next { s with sps := { s.sps with
          level := slewed s.sps.level (brightnessTarget s.sps), slewPeriod := some slewMs } } := by
  change execBrightnessSlew s = _
  rw [execBrightnessSlew, if_pos h]

/-! ## What stays over a change of other parts -/

theorem sps_of_within {parts : List Part} {s t : State} (h : Within parts s t) (k : Part.sps ∉ parts) : t.sps = s.sps :=
  h .sps k

theorem straps_of_within {parts : List Part} {s t : State} (h : Within parts s t) (k : Part.straps ∉ parts) :
    t.straps = s.straps :=
  h .straps k

/-! ## The start-up of the sign -/

theorem within_startFlow (s : State) : Within [.gli] s (startFlow s) := by
  unfold startFlow
  split
  · exact within_withGli _ _
  · exact within_withGli _ _

theorem within_startGantry (s : State) : Within (.gli :: dispatchParts) s (startGantry s) := by
  unfold startGantry
  split
  · exact (within_startFlow s).seq (within_dispatchPass _)
  · exact Within.refl _ _

theorem within_startPhones (s : State) : Within [.lines] s (startPhones s) := by
  unfold startPhones
  split
  · intro q hq
    cases q with
    | lines => exact absurd (List.mem_singleton_self _) hq
    | _ => rfl
  · exact Within.refl _ _

theorem within_startWeather (s : State) : Within [.wsu] s (startWeather s) := by
  unfold startWeather
  split
  · exact within_withWsu _ _
  · exact Within.refl _ _

theorem startSign_sps {s : State} (h : signFitted s.straps = true) :
    (startSign s).sps = { s.sps with slewPeriod := some slewMs } := by
  rw [startSign, if_pos h]

/-- Of the jobs that start up, the sign alone acts on the sign's part. -/
theorem startUp_sps {s : State} (hf : strapFault s.straps = false) (hs : signFitted s.straps = true) :
    (startUp s).sps = { s.sps with slewPeriod := some slewMs } := by
  have w : Within (.gli :: .lines :: dispatchParts) s (startPhones (startGantry s)) :=
    (within_startGantry s).seq (within_startPhones _)
  have hk : signFitted (startPhones (startGantry s)).straps = true := by
    rw [straps_of_within w (by decide)]; exact hs
  rw [startUp, if_neg (Bool.eq_false_iff.mp hf), sps_of_within (within_startWeather _) (by decide), startSign_sps hk,
    sps_of_within w (by decide)]

theorem exec_resetEnd {s : State} (k : Straps) (h : s.running = false) :
    exec (.resetEnd k) s = .next (startUp (resetValues s k)) := by
  change execResetEnd k s = _
  rw [execResetEnd, if_neg (Bool.eq_false_iff.mp h)]

/-- R17, R151: of the sign store a WARM RESET keeps the pages alone. -/
theorem signAfterReset_eq (p : Power) (x : Sps) : ∃ m, signAfterReset p x = { pages := m } := by
  unfold signAfterReset
  split
  · exact ⟨[], rfl⟩
  · exact ⟨x.pages, rfl⟩

/-- R17, R148: a fitted sign leaves RESET-END with its slew period running and all but its pages at the reset values. -/
theorem startUp_resetValues_sps (s : State) {k : Straps} (hf : strapFault k = false) (hs : signFitted k = true) :
    ∃ m, (startUp (resetValues s k)).sps = { pages := m, slewPeriod := some slewMs } := by
  obtain ⟨m, hm⟩ := signAfterReset_eq s.power s.sps
  refine ⟨m, ?_⟩
  rw [startUp_sps (s := resetValues s k) hf hs]
  simp only [resetValues, hm]

/-! ## SIGN-DIM -/

/-- A reply that is not taken is counted; the rest of the sign stays. -/
theorem offerReply_sps (s : State) (side : Option Side) (c : Cell) :
    ∃ n, (offerReply s side c).sps = { s.sps with counts := n } := by
  have hcell (d : Side) : (offerEffect s d c).sps = s.sps := sps_of_within (within_offerEffect s d c) (by decide)
  have hoffice : (answerToOffice s c).sps = s.sps := sps_of_within (within_answerToOffice s c) (by decide)
  unfold offerReply
  split
  · split
    · exact ⟨_, hcell _⟩
    · exact ⟨_, by rw [countReplyLost, State.countSps, hcell]⟩
  · split
    · exact ⟨_, hoffice⟩
    · exact ⟨_, by rw [countReplyLost, State.countSps, hoffice]⟩

/-- The end of a SIGN command takes it from the queue and counts; the rest of the sign stays. -/
theorem finishTask_sps (s : State) (t : SignTask) (r : SignReason) (written : Nat) :
    ∃ n, (finishTask s t r written).sps
      = { s.sps with waiting := s.sps.waiting.drop 1, job := none, counts := n } := by
  obtain ⟨n, hn⟩ := offerReply_sps (s.countSps (fun n => countReason n r)) t.side
    (replyCell (s.countSps (fun n => countReason n r)) t.cell r written)
  refine ⟨n, ?_⟩
  dsimp only [finishTask]
  rw [hn]
  rfl

theorem takeTask_head {s : State} {k : Kind} {act : State → SignTask → State} {t : SignTask} {rest : List SignTask}
    (hs : s.signWorks = true) (hj : s.sps.job = none) (hw : s.sps.waiting = t :: rest) (hk : t.cell.kind = k) :
    takeTask s k act = done s (act (s.countSps (fun n => { n with signCommands := satInc n.signCommands })) t) := by
  simp only [takeTask, hs, hj, hw, hk, Option.isNone_none, Bool.and_self, if_true, beq_self_eq_true]

/-- R146: the sign FIXED at a level. -/
def dimmedTo (s : State) (l : Byte) : State := { s with sps := { s.sps with dim := .fixed l, level := l } }

theorem takeDim_fixed (s : State) {t : SignTask} (h0 : t.cell.aux7 = 0) (hl : t.cell.length ≠ 0) :
    takeDim s t = finishTask (dimmedTo s (payloadByte t.cell.toCellData 0)) t .ok 0 := by
  rw [takeDim, if_pos (by rw [Bool.and_eq_true, decide_eq_true_eq, bne_iff_ne]; exact ⟨h0, hl⟩), dimmedTo]

theorem exec_signDim {s : State} {t : SignTask} {rest : List SignTask} (hs : s.signWorks = true)
    (hj : s.sps.job = none) (hw : s.sps.waiting = t :: rest) (hk : t.cell.kind = .signDim) :
    exec .signDim s
      = done s (takeDim (s.countSps (fun n => { n with signCommands := satInc n.signCommands })) t) := by
  change takeTask s .signDim takeDim = _
  exact takeTask_head hs hj hw hk

/-- R146: SIGN-DIM FIXED sets the level and the target together. -/
theorem takeDim_fixed_level (s : State) {t : SignTask} (h0 : t.cell.aux7 = 0) (hl : t.cell.length ≠ 0) :
    (takeDim s t).sps.level = payloadByte t.cell.toCellData 0
      ∧ brightnessTarget (takeDim s t).sps = payloadByte t.cell.toCellData 0 := by
  rw [takeDim_fixed s h0 hl]
  obtain ⟨n, hn⟩ := finishTask_sps (dimmedTo s (payloadByte t.cell.toCellData 0)) t .ok 0
  rw [hn]
  exact ⟨rfl, rfl⟩

/-- Settles O50: the three directions of a slew period, the start at RESET-END and at SIGN-DIM, and the closed form of a
rise from 0 for the period counts. -/
theorem levelSlewsTowardTheTarget : Obligations.LevelSlewsTowardTheTarget := by
  refine ⟨fun s hs => ?slew, fun k s hr hf hs => ?resetEnd, fun _ => rfl, fun x rest s hs hj hw hk h0 hl => ?signDim,
    ?rises⟩
  case slew =>
    have stays (h : s.sps.level = brightnessTarget s.sps) : slewed s.sps.level (brightnessTarget s.sps) = s.sps.level := by
      rw [← h, slewed_self]
    exact ⟨_, exec_brightnessSlew hs, rfl, toNat_slewed_of_lt, toNat_slewed_of_gt, stays⟩
  case resetEnd =>
    obtain ⟨m, hm⟩ := startUp_resetValues_sps s hf hs
    refine ⟨_, exec_resetEnd k hr, ?_⟩
    rw [hm]
    exact ⟨rfl, rfl, rfl⟩
  case signDim =>
    obtain ⟨hlevel, htarget⟩ :=
      takeDim_fixed_level (s.countSps (fun n => { n with signCommands := satInc n.signCommands })) h0 hl
    refine ⟨_, (exec_signDim hs hj hw hk).trans (done_eq _ _), ?_⟩
    exact ⟨hlevel.trans htarget.symm, htarget⟩
  case rises =>
    simp only [ne_eq, foldl_slewed_eq_iff]
    decide

end Sys2Proof.Machine
end

section
/-! PROOFS. The results of the converter: the class of a result (R155), what a channel makes of a valid and of a faulted
one (R156, R157), and what an end of conversion makes of the channel and of FAULTED-SAMPLES. -/

namespace Sys2Proof.Machine

/-! ## The class of a result (R155) -/

section
variable {r : BitVec 12}

theorem resultFault_of_open (h : r.toNat ≤ 8) : resultFault r = some .openLead := by
  rw [resultFault, if_pos h]

theorem resultFault_of_short (h : 4087 ≤ r.toNat) : resultFault r = some .short := by
  rw [resultFault, if_neg (by omega), if_pos h]

theorem resultFault_of_valid (lo : 9 ≤ r.toNat) (hi : r.toNat ≤ 4086) : resultFault r = none := by
  rw [resultFault, if_neg (by omega), if_neg (by omega)]

theorem exists_resultFault_of_faulted (h : r.toNat ≤ 8 ∨ 4087 ≤ r.toNat) : ∃ k, resultFault r = some k := by
  rcases h with hopen | hshort
  · exact ⟨_, resultFault_of_open hopen⟩
  · exact ⟨_, resultFault_of_short hshort⟩

/-! ## What a channel makes of a result (R156, R157) -/

theorem ringPush_eq (ring : List (BitVec 12)) :
    ringPush ring r = (if 10 ≤ ring.length then ring.drop 1 else ring) ++ [r] := by
  unfold ringPush ringCapacity
  split
  · rfl
  · rfl

variable {c : Channel} {k : SampleFault}

/-- The valid run reaches 3, and so ends a FAULT, where it stood at 2 or more. -/
theorem channelTakes_valid (h : resultFault r = none) :
    channelTakes c r
      = { c with
          ring := ringPush c.ring r, faultedRun := 0, validRun := min 3 (c.validRun + 1)
          fault := c.fault && decide (c.validRun < 2) } := by
  have hrun : min 3 (c.validRun + 1) < 3 ↔ c.validRun < 2 := by omega
  simp only [channelTakes, h, hrun]

theorem channelTakes_faulted_entry (h : resultFault r = some k) (hok : c.fault = false) (hrun : 2 ≤ c.faultedRun) :
    channelTakes c r
      = { c with
          ring := [], faultedRun := min 3 (c.faultedRun + 1), validRun := 0, lastFault := some k, fault := true
          faultEntries := satInc c.faultEntries } := by
  have hthird : min 3 (c.faultedRun + 1) = 3 := by omega
  simp only [channelTakes, h, hok, hthird, Bool.not_false, decide_true, Bool.and_self, if_true]

theorem channelTakes_faulted_keeps (h : resultFault r = some k) (hkeep : c.fault = true ∨ c.faultedRun < 2) :
    channelTakes c r
      = { c with faultedRun := min 3 (c.faultedRun + 1), validRun := 0, lastFault := some k } := by
  have hno : ¬ ((!c.fault && decide (min 3 (c.faultedRun + 1) = 3)) = true) := by
    rw [Bool.and_eq_true, Bool.not_eq_true', decide_eq_true_eq]
    rintro ⟨hok, hthird⟩
    rcases hkeep with hfault | hrun
    · exact Bool.noConfusion (hok.symm.trans hfault)
    · omega
  simp only [channelTakes, h, if_neg hno]

/-- The runs and the kind of the latest fault take a faulted sample in the same way in either status. -/
theorem channelTakes_faulted_runs (h : resultFault r = some k) :
    (channelTakes c r).faultedRun = min 3 (c.faultedRun + 1) ∧ (channelTakes c r).validRun = 0
      ∧ (channelTakes c r).lastFault = some k := by
  by_cases hkeep : c.fault = true ∨ c.faultedRun < 2
  · rw [channelTakes_faulted_keeps h hkeep]
    exact ⟨rfl, rfl, rfl⟩
  · obtain ⟨hok, hrun⟩ := not_or.mp hkeep
    rw [channelTakes_faulted_entry h (Bool.eq_false_iff.mpr hok) (Nat.le_of_not_lt hrun)]
    exact ⟨rfl, rfl, rfl⟩

theorem average_of_ring_nil (h : c.ring = []) : average c = none := by
  rw [average, h, List.isEmpty_nil, if_pos rfl]

end

/-! ## The end of a conversion (R153 to R158) -/

@[simp] theorem handLight_wsu (s : State) : (handLight s).wsu = s.wsu := by
  unfold handLight
  split
  · rfl
  · rfl

@[simp] theorem sweepOn_channels (w : Wsu) (n : Nat) : (sweepOn w n).channels = w.channels := by
  unfold sweepOn
  split
  · rfl
  · rfl

@[simp] theorem sweepOn_faultedSamples (w : Wsu) (n : Nat) :
    (sweepOn w n).counts.faultedSamples = w.counts.faultedSamples := by
  unfold sweepOn
  split
  · rfl
  · rfl

/-- Only AN4 acts outside the WSU, and there on the sign alone. -/
theorem conversionEnded_wsu (s : State) (n : Nat) (r : BitVec 12) :
    (conversionEnded s n r).wsu = sweepOn (sampleTaken s.wsu n r) n := by
  by_cases h : n = 4
  · simp only [conversionEnded, if_pos h, handLight_wsu]
  · simp only [conversionEnded, if_neg h]

section
variable {s : State} {n : Nat} {r : BitVec 12}

theorem conversionEnded_channel (h : n - 1 < s.wsu.channels.length) :
    (conversionEnded s n r).wsu.channels.getD (n - 1) {} = channelTakes (s.wsu.channels.getD (n - 1) {}) r := by
  rw [conversionEnded_wsu, sweepOn_channels, sampleTaken, channelOf, List.getD_eq_getElem?_getD,
    List.getElem?_set_self h, Option.getD_some]

theorem conversionEnded_faultedSamples_of_valid (h : resultFault r = none) :
    (conversionEnded s n r).wsu.counts.faultedSamples = s.wsu.counts.faultedSamples := by
  rw [conversionEnded_wsu, sweepOn_faultedSamples, sampleTaken, countSample, h]
  rfl

theorem conversionEnded_faultedSamples_of_faulted {k : SampleFault} (h : resultFault r = some k) :
    (conversionEnded s n r).wsu.counts.faultedSamples = satInc s.wsu.counts.faultedSamples := by
  rw [conversionEnded_wsu, sweepOn_faultedSamples, sampleTaken, countSample, h]
  rfl

theorem exec_endOfConversion (hw : s.weatherWorks = true) (hc : s.wsu.converter = .converting n) :
    exec (.endOfConversion r) s = .next (conversionEnded s n r) := by
  change execEndOfConversion r s = _
  simp only [execEndOfConversion, hw, if_true, hc]

end

/-- Settles O52: the channel after the command is `channelTakes` of the channel before, so each clause is read off the
equation of its class of result. -/
theorem resultsAreClassified : Obligations.ResultsAreClassified := by
  intro n r s hw hc _ hn12 hlen before
  refine ⟨_, exec_endOfConversion hw hc, ?_⟩
  have hchannel := conversionEnded_channel (s := s) (n := n) (r := r) (by omega)
  rw [hchannel]
  refine ⟨fun lo hi => ?valid, fun hfaulted => ?faulted, fun hopen => ?openLead, fun hshort => ?short⟩
  case valid =>
    have hr := resultFault_of_valid lo hi
    rw [channelTakes_valid hr, conversionEnded_faultedSamples_of_valid hr]
    exact ⟨ringPush_eq _, rfl, rfl, rfl, rfl, rfl, rfl⟩
  case faulted =>
    obtain ⟨k, hr⟩ := exists_resultFault_of_faulted hfaulted
    obtain ⟨hfaultedRun, hvalidRun, -⟩ := channelTakes_faulted_runs (c := before) hr
    refine ⟨fun hok hrun => ?entry, fun hkeep => ?keeps, hfaultedRun, hvalidRun,
      conversionEnded_faultedSamples_of_faulted hr⟩
    case entry =>
      rw [channelTakes_faulted_entry hr hok hrun]
      exact ⟨rfl, rfl, average_of_ring_nil rfl, rfl⟩
    case keeps =>
      rw [channelTakes_faulted_keeps hr hkeep]
      exact ⟨rfl, rfl, rfl⟩
  case openLead =>
    obtain ⟨-, -, hlast⟩ := channelTakes_faulted_runs (c := before) (resultFault_of_open hopen)
    exact hlast
  case short =>
    obtain ⟨-, -, hlast⟩ := channelTakes_faulted_runs (c := before) (resultFault_of_short hshort)
    exact hlast

end Sys2Proof.Machine
end

section
/-! PROOFS. Rain: the tip counter and TIPS (R163), the interval timer in each of its states (R164), and the tip counter
cleared by the report period end (R169). -/

namespace Sys2Proof.Machine

/-! ## A tip -/

theorem satInc_half (x : Half) : satInc x = if x.toNat = 65535 then x else x + 1 := by
  have htop : x = BitVec.allOnes 16 ↔ x.toNat = 65535 := by
    rw [← BitVec.toNat_inj, BitVec.toNat_allOnes]
  simp only [satInc, htop]

/-- Whatever its state, the interval timer is armed anew; of the rest only the last interval can change. -/
theorem intervalTip_eq (w : Wsu) :
    intervalTip w = { w with interval := .running 0 0, lastInterval := (intervalTip w).lastInterval } := by
  unfold intervalTip
  cases w.interval with
  | unarmed => rfl
  | running ticks subMs => rfl
  | stopped => rfl

section
variable {w : Wsu}

theorem rainTipped_lastInterval_of_unarmed (h : w.interval = .unarmed) :
    (rainTipped w).lastInterval = w.lastInterval := by
  simp only [rainTipped, intervalTip, h]

/-- R164: an interval shorter than one tick counts as one. -/
theorem rainTipped_lastInterval_of_running {ticks subMs : Nat} (h : w.interval = .running ticks subMs) :
    (rainTipped w).lastInterval = some (BitVec.ofNat 16 (if ticks = 0 then 1 else ticks)) := by
  have hmax : max 1 ticks = if ticks = 0 then 1 else ticks := by split <;> omega
  simp only [rainTipped, intervalTip, h, hmax]

theorem rainTipped_lastInterval_of_stopped (h : w.interval = .stopped) :
    (rainTipped w).lastInterval = w.lastInterval := by
  simp only [rainTipped, intervalTip, h]

end

theorem rainTipped_eq (w : Wsu) :
    rainTipped w
      = { w with
          tips := if w.tips.toNat = 65535 then w.tips else w.tips + 1
          interval := .running 0 0, lastInterval := (rainTipped w).lastInterval
          counts := { w.counts with tips := satInc w.counts.tips } } := by
  rw [← satInc_half]
  exact intervalTip_eq _

theorem exec_rainTip {s : State} (h : s.weatherWorks = true) :
    exec .rainTip s = .next { s with wsu := rainTipped s.wsu } := by
  change execRainTip s = _
  rw [execRainTip, if_pos h]

/-! ## The end of a report period -/

theorem reportEnded_tips (s : State) : (reportEnded s).wsu.tips = 0 := rfl

theorem exec_reportPeriodEnd {s : State} (h : s.weatherWorks = true) :
    exec .reportPeriodEnd s = done s (reportEnded s) := by
  change execReportPeriodEnd s = _
  rw [execReportPeriodEnd, if_pos h]

/-- Settles O54: the tip as one equation of the WSU, the last interval by the state of the timer, and the report period
end through the restart of the period. -/
theorem rainTipsAreCounted : Obligations.RainTipsAreCounted := by
  intro s hw
  refine ⟨⟨_, exec_rainTip hw, ?tip, rainTipped_lastInterval_of_unarmed,
    fun _ _ => rainTipped_lastInterval_of_running, rainTipped_lastInterval_of_stopped⟩, ?report⟩
  case tip => exact congrArg (fun w => { s with wsu := w }) (rainTipped_eq s.wsu)
  case report => exact ⟨_, (exec_reportPeriodEnd hw).trans (done_eq _ _), reportEnded_tips s⟩

end Sys2Proof.Machine
end

section
/-! PROOFS. The machine as a whole: the front command of a step, the five invariants at reset,
and the frame of every command: it answers a next state within the parts listed for it. -/

set_option Elab.async false

namespace Sys2Proof.Machine

/-- Settles O1: the queue's front decides the branch of `step`. -/
theorem stepRunsTheFrontCommand : Obligations.StepRunsTheFrontCommand := fun _ _ _ => rfl

/-- Settles O8: each invariant is evaluated at the reset state; no store write is under way there. -/
theorem resetMeetsTheInvariants : Obligations.ResetMeetsTheInvariants := by
  refine ⟨?signStore, ?tables, ?pool, ?reach, ?store⟩
  case signStore => unfold signStoreSound; decide
  case tables => unfold tablesBounded; decide
  case pool => unfold poolBounded; decide
  case reach =>
    intro d hvalid
    cases d with
    | up => exact absurd hvalid (by decide)
    | down => exact absurd hvalid (by decide)
  case store => exact ⟨by decide, fun _ hwrite => Assembler.noConfusion hwrite⟩

/-! ## What a command answers -/

/-- The outcome is a next state, within the parts. -/
def Answers (parts : List Part) (s : State) (o : Host.Outcome State Fault Refusal) : Prop :=
  ∃ t, o = .next t ∧ Within parts s t

section
variable {parts more : List Part} {s t : State}

theorem Answers.next (h : Within parts s t) (sub : parts.all (fun q => more.contains q) = true := by rfl) :
    Answers more s (.next t) :=
  ⟨t, rfl, h.widen sub⟩

theorem Answers.stay : Answers more s (.next s) := ⟨s, rfl, Within.refl _ _⟩

theorem Answers.done (h : Within parts s t) (sub : parts.all (fun q => more.contains q) = true := by rfl)
    (h1 : more.contains .inHand = true := by rfl) (h2 : more.contains .ports = true := by rfl) :
    Answers more s (done s t) :=
  ⟨_, done_eq s t, within_ended h sub h1 h2⟩

theorem Answers.ite {c : Prop} [Decidable c] {a b : Host.Outcome State Fault Refusal} (ha : Answers parts s a)
    (hb : Answers parts s b) : Answers parts s (if c then a else b) := by
  split
  · exact ha
  · exact hb

end

/-! ## Power and reset -/

theorem within_withPower (s : State) (x : Power) : Within [.power] s { s with power := x } := by
  intro q hq
  cases q with
  | power => exact absurd (List.mem_singleton.mpr rfl) hq
  | _ => rfl

theorem within_withDark (s : State) (x : Timer) : Within [.dark] s { s with dark := x } := by
  intro q hq
  cases q with
  | dark => exact absurd (List.mem_singleton.mpr rfl) hq
  | _ => rfl

theorem within_transmittersOff (s : State) : Within [.ports] s (transmittersOff s) := by
  intro q hq
  cases q with
  | ports => exact absurd (List.mem_singleton.mpr rfl) hq
  | _ => rfl

theorem within_interruptWrite (s : State) : Within [.gli, .csd, .freeUses] s (interruptWrite s) := by
  unfold interruptWrite
  split
  · intro q hq
    cases q with
    | gli => exact absurd (by decide) hq
    | csd => exact absurd (by decide) hq
    | freeUses => exact absurd (by decide) hq
    | _ => rfl
  · exact Within.refl _ _

theorem within_intoReset (s : State) : Within [.ports, .gli, .csd, .freeUses] s (intoReset s) := by
  unfold intoReset
  split
  · exact (within_interruptWrite s).seq (within_transmittersOff _)
  · exact Within.refl _ _

theorem intoReset_power (s : State) : (intoReset s).power = s.power := within_intoReset s .power (by decide)

/-- What the end of a reset can change. -/
def resetParts : List Part :=
  [.power, .straps, .powerOnCount, .dark, .ports, .inHand, .node, .tiu, .reach, .srt, .lines, .ccu, .gli, .csd, .sps, .wsu,
   .gw, .maint]

theorem within_resetValues (s : State) (k : Straps) : Within resetParts s (resetValues s k) := by
  intro q hq
  cases q with
  | pending => rfl
  | freeUses => rfl
  | _ => exact absurd (by decide) hq

theorem within_startSign (s : State) : Within [.sps] s (startSign s) := by
  unfold startSign
  split
  · exact within_withSps _ _
  · exact Within.refl _ _

/-- What start-up can change. -/
def startParts : List Part := [.ports, .node, .tiu, .lines, .gli, .csd, .sps, .wsu]

theorem within_startUp (s : State) : Within startParts s (startUp s) := by
  unfold startUp
  split
  · exact Within.refl _ _
  · exact (((within_startGantry s).seq (within_startPhones _) : Within startParts _ _).seq (within_startSign _) :
      Within startParts _ _).seq (within_startWeather _)

theorem within_leaveDark (s : State) (p : Port) : Within [.ports] s (leaveDark s p) := by
  unfold leaveDark
  split
  · exact within_setPort _ _ _
  · exact Within.refl _ _

/-! ## Ports, TIUs and the transmitter -/

theorem within_lightOn (s : State) (p : Port) : Within [.ports] s (lightOn s p) := by
  unfold lightOn
  dsimp only
  split
  · exact within_setPort _ _ _
  · split
    · exact within_setPort _ _ _
    · exact within_setPort _ _ _

theorem within_lightLost (s : State) (p : Port) : Within downParts s (lightLost s p) := by
  unfold lightLost
  dsimp only
  split
  · exact (within_setPort _ _ _).seq (within_portDown _ _)
  · exact (within_setPort _ _ _).widen

theorem within_badCell (s : State) (p : Port) : Within downParts s (badCell s p) := by
  unfold badCell
  dsimp only
  split
  · exact (within_setPort _ _ _).seq (within_loseLock _ _)
  · exact (within_setPort _ _ _).widen

theorem within_goodCell (s : State) (p : Port) : Within [.ports] s (goodCell s p) := within_setPort _ _ _

theorem within_askDoze (s : State) (p : Port) : Within [.ports] s (askDoze s p) := within_setPort _ _ _

theorem within_takeDozeReq (b : Bool) (s : State) (p : Port) : Within [.ports] s (takeDozeReq b s p) := by
  unfold takeDozeReq
  dsimp only
  split
  · split
    · exact within_setPort _ _ _
    · exact Within.refl _ _
  · exact within_setPort _ _ _
  · exact Within.refl _ _

theorem within_takeDozeAck (s : State) (p : Port) : Within [.ports] s (takeDozeAck s p) := by
  unfold takeDozeAck
  dsimp only
  split
  · split
    · exact within_setPort _ _ _
    · exact within_setPort _ _ _
  · exact Within.refl _ _

theorem within_takeWakeBurst (s : State) (p : Port) : Within (.gw :: dispatchParts) s (takeWakeBurst s p) := by
  unfold takeWakeBurst
  dsimp only
  split
  · exact (within_setPort _ _ _).widen
  · exact (within_setPort _ _ _).seq (within_portUp _ _ _)
  · exact (within_setPort _ _ _).widen
  · exact Within.refl _ _

theorem within_takeWakeAck (s : State) (p : Port) : Within (.gw :: dispatchParts) s (takeWakeAck s p) := by
  unfold takeWakeAck
  split
  · exact (within_setPort _ _ _).seq (within_portUp _ _ _)
  · exact Within.refl _ _

theorem within_tiuSlot (s : State) (p : Port) : Within [.ports, .tiu] s (tiuSlot s p) := by
  unfold tiuSlot
  dsimp only
  split
  · exact (within_setSide _ _ _).seq (within_setPort _ _ _)
  · exact (within_setSide _ _ _).seq (within_setPort _ _ _)

theorem within_openSlot (s : State) (p : Port) : Within [.ports, .tiu] s (openSlot s p) := by
  unfold openSlot
  dsimp only
  split
  · exact (within_setPort _ _ _).widen
  · split
    · exact within_tiuSlot _ _
    · exact (within_setPort _ _ _).widen

theorem within_slotBegun (s : State) (p : Port) : Within [.ports, .tiu] s (slotBegun s p) := by
  unfold slotBegun
  dsimp only
  split
  · exact (within_setPort _ _ _).widen
  · exact (within_openSlot _ _).seq (within_setPort _ _ _)

theorem within_afterSlot (s : State) (d : Side) (x : Sending) : Within [.tiu, .csd] s (afterSlot s d x) := by
  unfold afterSlot
  split
  · split
    · exact (within_completeRecord _ _ _).widen
    · exact Within.refl _ _
  · exact (within_resumeCheck _ _).widen
  · exact Within.refl _ _

theorem within_slotEnded (s : State) (p : Port) (x : Sending) : Within [.ports, .tiu, .csd] s (slotEnded s p x) :=
  (within_setPort _ _ _).seq (within_afterSlot _ _ _)

/-! ## Data cells consumed -/

/-- R37: the arrival of a TOLL, SIGN or REPORT cell whose consumption stays within some parts. -/
theorem within_dataArrival (parts : List Part) (s : State) (p : Port) (c : Cell) (consume : Side → State → State)
    (h : ∀ a t, Within parts t (consume a t)) (hp : passParts.all (fun q => parts.contains q) = true := by rfl) :
    Within parts s (transitArrival s p c (fun t => carry t (t.sideOf p) c (consume (t.sideOf p)))) := by
  have mem (q : Part) (hq : q ∈ passParts) : q ∈ parts := by
    simpa using List.all_eq_true.mp hp q hq
  exact within_transitArrival _ _ _ _ _ (mem _ (by decide)) (mem _ (by decide)) (mem _ (by decide))
    (fun t => within_carry _ _ _ _ _ hp (h _))

theorem within_countNoConsumer (s : State) : Within [.node] s (countNoConsumer s) := within_countNode _ _

theorem within_consumeForOffice (c : Cell) (s : State) :
    Within [.inHand, .ports, .node, .tiu, .gw] s (consumeForOffice c s) := by
  unfold consumeForOffice
  split
  · exact (within_passToOffice _ _).widen
  · exact (within_countNoConsumer _).widen

theorem within_makeAck (s : State) (a : Side) (c : Cell) : Within (.gw :: offerParts) s (makeAck s a c) := by
  unfold makeAck
  dsimp only
  split
  · exact (within_offerEffect _ _ _).seq (within_countGw _ _)
  · exact (within_offerEffect _ _ _).seq (within_countGw _ _)

theorem within_passRecord (s : State) (c : Cell) (k : TollClass) : Within [.inHand, .gw] s (passRecord s c k) :=
  ((within_withInHand s 0).seq (within_officePush _ _) : Within [.inHand, .gw] _ _).seq (within_withGw _ _)

theorem within_consumeRecord (a : Side) (c : Cell) (s : State) :
    Within [.inHand, .ports, .node, .tiu, .gw] s (consumeRecord a c s) := by
  unfold consumeRecord takeRecord
  dsimp only
  split
  · split
    · exact ((within_withInHand s 0).seq (within_countGw _ _) : Within [.inHand, .ports, .node, .tiu, .gw] _ _).seq
        (within_makeAck _ _ _)
    · split
      · exact (within_passRecord _ _ _).seq (within_makeAck _ _ _)
      · exact (within_withInHand s 0).seq (within_countGw _ _)
  · exact (within_countNoConsumer _).widen

theorem within_consumeAck (c : Cell) (s : State) :
    Within [.inHand, .ports, .node, .tiu, .gli, .csd] s (consumeAck c s) := by
  unfold consumeAck
  split
  · exact (within_takeAck _ _).widen
  · exact (within_countNoConsumer _).widen

theorem within_consumeSign (a : Side) (c : Cell) (s : State) :
    Within [.inHand, .ports, .node, .tiu, .sps] s (consumeSign a c s) := by
  unfold consumeSign
  split
  · exact (within_withInHand s 0).seq (within_withSps _ _)
  · exact (within_countNoConsumer _).widen

theorem within_consumePoll (a : Side) (c : Cell) (s : State) :
    Within [.inHand, .ports, .node, .tiu, .wsu, .gw] s (consumePoll a c s) := by
  unfold consumePoll
  split
  · exact (within_answerPoll _ _ _).widen
  · exact (within_countNoConsumer _).widen

/-! ## Phone lines and the timers of calls -/

theorem within_originRelease (s : State) (r : CallRecord) : Within callParts s (originRelease s r) := by
  unfold originRelease
  split
  · exact (within_offerControl _ _ _).widen
  · exact Within.refl _ _

theorem within_localRelease (s : State) (l : Line) : Within callParts s (localRelease s l) := by
  unfold localRelease
  split
  · exact (within_setChannel _ _ _).seq (within_giveNotice _ _)
  · exact Within.refl _ _

theorem within_onHookRecord (s : State) (l : Line) (r : CallRecord) : Within callParts s (onHookRecord s l r) := by
  unfold onHookRecord
  split
  · split
    · exact within_localRelease _ _
    · exact (within_originRelease _ _).seq (within_releaseOwn _ _)
  · exact Within.refl _ _

theorem within_callEnded (s : State) (l : Line) : Within callParts s (callEnded s l) := by
  unfold callEnded
  dsimp only
  split
  · exact (within_onHookRecord _ _ _).seq (within_setLine _ _ _)
  · exact (within_setLine _ _ _).widen

theorem within_callBegun (s : State) (l : Line) : Within (.sps :: callParts) s (callBegun s l) := by
  unfold callBegun
  dsimp only
  exact ((within_setLine _ _ _).seq (within_attempt _ _ _) : Within (.sps :: callParts) _ _).seq (within_raiseIncident _)

theorem within_upgradeChain (s : State) (r : CallRecord) : Within callParts s (upgradeChain s r) := by
  unfold upgradeChain
  split
  · exact (within_setTable _ _ _).seq (within_offerControl _ _ _)
  · exact Within.refl _ _

theorem within_upgradeLocal (s : State) (l : Line) : Within callParts s (upgradeLocal s l) := by
  unfold upgradeLocal
  split
  · dsimp only
    split
    · exact (within_setChannel _ _ _).seq (within_giveNotice _ _)
    · exact (within_giveNotice _ _).widen
  · exact Within.refl _ _

theorem within_gradeAccident (s : State) (l : Line) : Within callParts s (gradeAccident s l) := by
  unfold gradeAccident
  split
  · split
    · exact Within.refl _ _
    · dsimp only
      split
      · split
        · exact (within_setRecord _ _ _).seq (within_upgradeLocal _ _)
        · exact (within_setRecord _ _ _).seq (within_upgradeChain _ _)
      · exact (within_setRecord _ _ _).widen
  · exact Within.refl _ _

theorem within_countVoiceDropped (s : State) (l : Line) : Within [.lines] s (countVoiceDropped s l) :=
  within_countLine _ _ _

theorem within_countPool (s : State) (k : Class) : Within [.node] s (countPool s k) := within_countNode _ _

theorem within_packVoice (s : State) (l : Line) (r : CallRecord) (samples : List Byte) :
    Within callParts s (packVoice s l r samples) := by
  unfold packVoice
  split
  · unfold packChain
    dsimp only
    split
    · exact (within_offerEffect _ _ _).widen
    · exact (within_offerEffect _ _ _).seq (within_countVoiceDropped _ _)
  · split
    · unfold packLocal
      split
      · exact (within_countVoiceDropped _ _).widen
      · split
        · exact (within_officePush _ _).widen
        · exact (within_countVoiceDropped _ _).seq (within_countPool _ _)
    · exact Within.refl _ _

theorem within_watchExpired (s : State) (l : Line) (r : CallRecord) : Within callParts s (watchExpired s l r) :=
  ((within_originRelease _ _).seq (within_countCcu _ _) : Within callParts _ _).seq (within_recordBroken _ _)

theorem within_countPathExpiry (s : State) (b : Bool) : Within [.ccu] s (countPathExpiry s b) := within_countCcu _ _

theorem within_chainWatchExpired (s : State) (id : Identity) (g : Grade) :
    Within callParts s (chainWatchExpired s id g) := by
  unfold chainWatchExpired
  dsimp only
  split
  · exact (((within_countCcu _ _).seq (within_freeChain _ _ _) : Within callParts _ _).seq (within_offerControl _ _ _) :
      Within callParts _ _).seq (within_giveNotice _ _)
  · exact ((within_countCcu _ _).seq (within_releaseEntry _ _ _) : Within callParts _ _).seq (within_offerControl _ _ _)

/-! ## Gantry line and custody -/

theorem within_writeCompleted (s : State) (body : List Byte) :
    Within (.gli :: dispatchParts) s (writeCompleted s body) := by
  unfold writeCompleted
  dsimp only
  exact ((((within_withCsd s _).seq (within_countCsd _ _) : Within (.gli :: dispatchParts) _ _).seq (within_evalFlow _) :
    Within (.gli :: dispatchParts) _ _).seq (within_dispatchPass _) : Within (.gli :: dispatchParts) _ _).seq
      (within_withGli _ _)

theorem within_retryExpired (s : State) (q : Half) : Within dispatchParts s (retryExpired s q) :=
  ((within_changeEntry _ _ _).seq (within_countCsd _ _) : Within dispatchParts _ _).seq (within_dispatchPass _)

/-! ## Sign and weather -/

theorem within_takeWindow (s : State) (t : SignTask) : Within signParts s (takeWindow s t) := by
  unfold takeWindow
  split
  · exact (within_withSps s _).seq (within_finishTask _ _ _ _)
  · exact within_finishTask _ _ _ _

theorem within_takePixels (s : State) (t : SignTask) : Within signParts s (takePixels s t) := by
  unfold takePixels
  split
  · exact (within_withSps s _).widen
  · exact within_finishTask _ _ _ _

theorem within_pixelStep (s : State) (t : SignTask) (k : Nat) : Within signParts s (pixelStep s t k) := by
  unfold pixelStep
  split
  · exact within_finishTask _ _ _ _
  · split
    · exact (within_withSps s _).widen
    · exact (within_withSps s _).seq (within_finishTask _ _ _ _)

theorem within_takeShow (s : State) (t : SignTask) : Within signParts s (takeShow s t) := by
  unfold takeShow
  split
  · exact (within_withSps s _).seq (within_finishTask _ _ _ _)
  · exact within_finishTask _ _ _ _

theorem within_takeClear (s : State) (t : SignTask) : Within signParts s (takeClear s t) := by
  unfold takeClear
  split
  · exact (within_withSps s _).seq (within_finishTask _ _ _ _)
  · split
    · split
      · exact within_finishTask _ _ _ _
      · exact (within_withSps s _).seq (within_finishTask _ _ _ _)
    · split
      · exact (within_withSps s _).seq (within_finishTask _ _ _ _)
      · exact within_finishTask _ _ _ _

theorem within_takeDim (s : State) (t : SignTask) : Within signParts s (takeDim s t) := by
  unfold takeDim
  dsimp only
  split
  · exact (within_withSps s _).seq (within_finishTask _ _ _ _)
  · split
    · exact (within_withSps s _).seq (within_finishTask _ _ _ _)
    · exact within_finishTask _ _ _ _

theorem answers_takeTask {s : State} {k : Kind} {act : State → SignTask → State}
    (h : ∀ t x, Within signParts t (act t x)) :
    Answers [.inHand, .ports, .node, .tiu, .sps, .gw] s (takeTask s k act) := by
  unfold takeTask
  split
  · split
    · split
      · exact .done ((within_countSps s _).seq (h _ _) : Within signParts _ _)
      · exact .stay
    · exact .stay
  · exact .stay

theorem within_handLight (s : State) : Within [.sps] s (handLight s) := by
  unfold handLight
  split
  · exact within_withSps _ _
  · exact Within.refl _ _

theorem within_conversionEnded (s : State) (n : Nat) (r : BitVec 12) :
    Within [.sps, .wsu] s (conversionEnded s n r) := by
  unfold conversionEnded
  dsimp only
  split
  · exact ((within_withWsu s _).seq (within_handLight _) : Within [.sps, .wsu] _ _).seq (within_withWsu _ _)
  · exact (within_withWsu s _).seq (within_withWsu _ _)

theorem within_handReport (s : State) (c : Cell) : Within [.node, .wsu, .gw] s (handReport s c) := by
  unfold handReport
  split
  · split
    · exact (within_officePush _ _).seq (within_countWsu _ _)
    · exact (within_countGw _ _).seq (within_countWsu _ _)
  · exact (within_countPool _ _).seq (within_countWsu _ _)

theorem within_offerReport (s : State) (c : Cell) : Within (.wsu :: offerParts) s (offerReport s c) := by
  unfold offerReport
  split
  · exact (within_countWsu _ _).widen
  · split
    · exact (within_offerEffect _ _ _).seq (within_countWsu _ _)
    · exact (within_offerEffect _ _ _).seq (within_countWsu _ _)

theorem within_reportEnded (s : State) : Within (.wsu :: .gw :: offerParts) s (reportEnded s) := by
  unfold reportEnded
  dsimp only
  split
  · exact ((within_withWsu s _).seq (within_handReport _ _) : Within (.wsu :: .gw :: offerParts) _ _).seq
      (within_withWsu _ _)
  · exact ((within_withWsu s _).seq (within_offerReport _ _) : Within (.wsu :: .gw :: offerParts) _ _).seq
      (within_withWsu _ _)

/-! ## Office cells -/

theorem within_popHead (s : State) : Within [.gw] s (popHead s) := within_withGw _ _
theorem within_keepHead (s : State) : Within [.gw] s (keepHead s) := within_withGw _ _
theorem within_rejectHead (s : State) : Within [.gw] s (rejectHead s) := (within_popHead _).trans (within_countGw _ _)
theorem within_discardHead (s : State) : Within [.gw] s (discardHead s) := (within_popHead _).trans (within_countGw _ _)
theorem within_markHanded (s : State) : Within [.gw] s (markHanded s) := within_withGw _ _

/-- R187: an offer of the head, where what follows a taking stays within some parts. -/
theorem within_offerHead (parts : List Part) (s : State) (c : Cell) (taken : State → State)
    (h : ∀ t, Within parts t (taken t))
    (hp : (Part.gw :: offerParts).all (fun q => parts.contains q) = true := by rfl) :
    Within parts s (offerHead s c taken) := by
  have w {t u : State} (k : Within (.gw :: offerParts) t u) : Within parts t u := k.widen hp
  unfold offerHead
  split
  · exact (w ((within_offerEffect _ _ _).seq (within_popHead _))).trans (h _)
  · exact w ((within_offerEffect _ _ _).seq (within_keepHead _))
  · exact w ((within_offerEffect _ _ _).seq (within_keepHead _))
  · exact w ((within_offerEffect _ _ _).seq (within_discardHead _))
  · exact w ((within_offerEffect _ _ _).seq (within_discardHead _))

/-- What a cell of the office for the gateway's own block can change. -/
def ownBlockParts : List Part := [.inHand, .ports, .node, .tiu, .sps, .wsu, .gw, .maint, .freeUses]

theorem within_consumeOfficeCell (s : State) (c : Cell) : Within ownBlockParts s (consumeOfficeCell s c) := by
  unfold consumeOfficeCell
  split
  · split
    · exact ((within_withInHand s 1).seq (within_answerPoll _ _ _) : Within ownBlockParts _ _).seq (within_withInHand _ 0)
    · exact (within_countNoConsumer _).widen
  · exact ((within_withInHand s 1).seq (within_answerQuery _ _ _) : Within ownBlockParts _ _).seq (within_withInHand _ 0)
  · split
    · exact (within_withSps s _).widen
    · exact (within_countNoConsumer _).widen

theorem within_deliverHead (s : State) (c : Cell) : Within ownBlockParts s (deliverHead s c) := by
  have refused (t : State) (k : Class) : Within ownBlockParts t (keepHead (countPool t k)) :=
    (within_countPool _ _).seq (within_keepHead _)
  have offered (t : State) (x : Cell) : Within ownBlockParts t (offerHead t x (fun u => u)) :=
    within_offerHead _ _ _ _ (fun _ => Within.refl _ _)
  unfold deliverHead
  dsimp only
  split
  · split
    · exact (within_consumeOfficeCell _ _).seq (within_popHead _)
    · exact refused _ _
  · split
    · split
      · exact ((within_consumeOfficeCell _ _).seq (within_markHanded _)).trans (offered _ _)
      · exact refused _ _
    · exact offered _ _

theorem within_officeVoice (s : State) (c : Cell) : Within [.ports, .node, .tiu, .lines, .gw] s (officeVoice s c) := by
  unfold officeVoice
  split
  · exact within_offerHead _ _ _ _ (fun _ => Within.refl _ _)
  · exact (within_playLocal _ _ _ _ _).seq (within_popHead _)
  · exact (within_rejectHead _).widen

theorem recordReleased_parts (s : State) (l : Line) : Within [.srt, .lines] s (recordReleased s l) := by
  unfold recordReleased
  split
  · exact (within_releaseOwn _ _).seq (within_setLine _ _ _)
  · exact Within.refl _ _

theorem within_officeRelease (s : State) (c : Cell) :
    Within [.ports, .node, .tiu, .srt, .lines, .gw] s (officeRelease s c) := by
  unfold officeRelease
  split
  · exact within_offerHead _ _ _ _ (fun _ => (within_freeChain _ _ _).widen)
  · exact ((within_setChannel _ _ _).seq (recordReleased_parts _ _) : Within [.ports, .node, .tiu, .srt, .lines, .gw] _ _).seq
      (within_popHead _)
  · exact (within_rejectHead _).widen

theorem within_takeHead (s : State) (k : OfficeKind) :
    Within [.inHand, .ports, .node, .tiu, .srt, .lines, .sps, .wsu, .gw, .maint, .freeUses] s (takeHead s k) := by
  unfold takeHead
  cases k with
  | deliver c => exact (within_deliverHead _ _).widen
  | voice c => exact (within_officeVoice _ _).widen
  | release c => exact (within_officeRelease _ _).widen
  | reject => exact (within_rejectHead _).widen

/-! ## The Maintenance Port -/

theorem within_clearCounts (s : State) : Within (touches .counterClear) s (clearCounts s) := by
  intro q hq
  cases q with
  | pending => rfl
  | power => rfl
  | straps => rfl
  | powerOnCount => rfl
  | dark => rfl
  | inHand => rfl
  | srt => rfl
  | freeUses => rfl
  | _ => exact absurd (by decide) hq

theorem within_takeDataByte (s : State) (b : Byte) : Within (touches .counterClear) s (takeDataByte s b) := by
  unfold takeDataByte
  split
  · exact within_clearCounts _
  · exact (within_withMaint _ _).widen

theorem within_byteRead (s : State) (m : Maint) (n : Nat) :
    Within [.maint, .freeUses] s { s with freeUses := n, maint := m } := by
  intro q hq
  cases q with
  | maint => exact absurd (by decide) hq
  | freeUses => exact absurd (by decide) hq
  | _ => rfl

/-! ## Every command -/

theorem answers_darkPeriodEnd (s : State) : Answers (touches .darkPeriodEnd) s (exec .darkPeriodEnd s) :=
  .ite (.next (((within_withDark s none).seq (within_leaveDark _ _) : Within [.dark, .ports] _ _).seq
    (within_leaveDark _ _) : Within [.dark, .ports] _ _)) .stay

theorem answers_hello (s : State) (p : Port) (c : CellData) :
    Answers (touches (.hello p c)) s (exec (.hello p c) s) := by
  have received : Within [.ports] s (receiveCell s p (cellOf .hello c)) := within_receiveCell _ _ _
  refine .ite .stay (.ite (.next (received.trans (within_countMalformed _ _))) ?_)
  split
  · exact .stay
  · exact .done ((received.trans (within_goodCell _ _)).seq (within_takeHello _ _ _) : Within downParts _ _)
  · exact .next (received.trans (within_goodCell _ _))
  · exact .done ((received.trans (within_takeIn _ _)).seq (within_takeHello _ _ _) : Within downParts _ _)
  · exact .done ((received.trans (within_takeIn _ _)).seq (within_takeHello _ _ _) : Within downParts _ _)
  · exact .done ((received.trans (within_takeIn _ _)).seq (within_takeHello _ _ _) : Within downParts _ _)

theorem answers_beacon (s : State) (p : Port) (c : CellData) :
    Answers (touches (.beacon p c)) s (exec (.beacon p c) s) :=
  .done (within_arrive (.inHand :: reachParts) s p _ _ (by decide)
    (fun _ => within_admit _ _ _ _ (by decide) (by decide) (fun _ => within_takeBeacon _ _ _)))

theorem answers_transmissionComplete (s : State) (p : Port) :
    Answers (touches (.transmissionComplete p)) s (exec (.transmissionComplete p) s) := by
  refine .ite ?_ .stay
  split
  · exact .done (within_slotEnded s p _)
  · exact .stay

theorem answers_nodeQuery (s : State) (p : Port) (c : CellData) :
    Answers (touches (.nodeQuery p c)) s (exec (.nodeQuery p c) s) :=
  .done (within_dataArrival [.inHand, .ports, .node, .tiu, .gw, .maint, .freeUses] s p _
    (fun a u => answerQuery u (some a) c) (fun a _ => (within_answerQuery _ _ _).widen))

theorem answers_keyOpen (s : State) (l : Line) (us : Nat) :
    Answers (touches (.keyOpen l us)) s (exec (.keyOpen l us) s) :=
  .ite (.done ((within_setLine s l _).seq (within_gradeAccident _ _) : Within callParts _ _))
    (.next (within_setLine s l _))

theorem answers_voicePackPeriod (s : State) (l : Line) (samples : List Byte) :
    Answers (touches (.voicePackPeriod l samples)) s (exec (.voicePackPeriod l samples) s) := by
  refine .ite ?_ .stay
  split
  · exact .done ((within_setLine s l _).seq (within_packVoice _ _ _ _) : Within callParts _ _)
  · exact .next (within_setLine s l _)

theorem answers_setupTimerExpiry (s : State) (l : Line) :
    Answers (touches (.setupTimerExpiry l)) s (exec (.setupTimerExpiry l) s) := by
  refine .ite ?_ .stay
  split
  · exact .ite (.done ((within_originRelease s _).trans (within_recordRefused _ _))) .stay
  · exact .stay

theorem answers_callRetryTimerExpiry (s : State) (l : Line) :
    Answers (touches (.callRetryTimerExpiry l)) s (exec (.callRetryTimerExpiry l) s) := by
  refine .ite ?_ .stay
  split
  · exact .ite (.done (within_attempt s l _)) .stay
  · exact .stay

theorem answers_originVoiceWatchExpiry (s : State) (l : Line) :
    Answers (touches (.originVoiceWatchExpiry l)) s (exec (.originVoiceWatchExpiry l) s) := by
  refine .ite ?_ .stay
  split
  · exact .ite (.done (within_watchExpired s l _)) .stay
  · exact .stay

theorem answers_pathEntryTimerExpiry (s : State) (id : Identity) :
    Answers (touches (.pathEntryTimerExpiry id)) s (exec (.pathEntryTimerExpiry id) s) := by
  refine .ite ?_ .stay
  split
  · exact .done ((within_releaseBoth s id).seq (within_countPathExpiry _ _) : Within [.srt, .ccu] _ _)
  · exact .stay

theorem answers_gatewayVoiceWatchExpiry (s : State) (id : Identity) :
    Answers (touches (.gatewayVoiceWatchExpiry id)) s (exec (.gatewayVoiceWatchExpiry id) s) := by
  refine .ite ?_ .stay
  split
  · exact .done (within_chainWatchExpired s id _)
  · exact .stay

theorem answers_localVoiceWatchExpiry (s : State) (l : Line) :
    Answers (touches (.localVoiceWatchExpiry l)) s (exec (.localVoiceWatchExpiry l) s) := by
  refine .ite ?_ .stay
  split
  · exact .done ((((within_countCcu s _).seq (within_setChannel _ _ _) : Within callParts _ _).seq (within_giveNotice _ _) :
      Within callParts _ _).trans (within_recordBroken _ _))
  · exact .stay

theorem answers_assemblerTakeCharacter (s : State) :
    Answers (touches .assemblerTakeCharacter) s (exec .assemblerTakeCharacter s) := by
  refine .ite ?_ .stay
  split
  · exact .next (within_withGli s _)
  · exact .stay

theorem answers_storeWriteComplete (s : State) :
    Answers (touches .storeWriteComplete) s (exec .storeWriteComplete s) := by
  refine .ite ?_ .stay
  split
  · exact .done (within_writeCompleted s _)
  · exact .stay

theorem answers_custodyRetryExpiry (s : State) (q : Half) :
    Answers (touches (.custodyRetryExpiry q)) s (exec (.custodyRetryExpiry q) s) := by
  refine .ite ?_ .stay
  split
  · exact .ite (.done (within_retryExpired s q)) .stay
  · exact .stay

theorem answers_pixelWrite (s : State) : Answers (touches .pixelWrite) s (exec .pixelWrite s) := by
  refine .ite ?_ .stay
  split
  · exact .done (within_pixelStep s _ _)
  · exact .stay

theorem answers_settleExpiry (s : State) : Answers (touches .settleExpiry) s (exec .settleExpiry s) := by
  refine .ite ?_ .stay
  split
  · exact .next (within_withWsu s _)
  · exact .stay

theorem answers_endOfConversion (s : State) (r : BitVec 12) :
    Answers (touches (.endOfConversion r)) s (exec (.endOfConversion r) s) := by
  refine .ite ?_ .stay
  split
  · exact .next (within_conversionEnded s _ r)
  · exact .stay

theorem answers_intervalTimerStop (s : State) : Answers (touches .intervalTimerStop) s (exec .intervalTimerStop s) := by
  refine .ite ?_ .stay
  split
  · exact .next (within_withWsu s _)
  · exact .stay

theorem answers_fromOfficeTransferComplete (s : State) (c : RawCell) (check : Half) :
    Answers (touches (.fromOfficeTransferComplete c check)) s (exec (.fromOfficeTransferComplete c check) s) := by
  refine .ite ?_ .stay
  split
  · exact .ite (.next (within_withGw s _)) (.next (within_withGw s _))
  · exact .next (within_withGw s _)
  · exact .stay

theorem answers_officeSignOrReportCell (s : State) :
    Answers (touches .officeSignOrReportCell) s (exec .officeSignOrReportCell s) := by
  change Answers _ s (execOfficeSignOrReportCell s)
  unfold execOfficeSignOrReportCell
  split
  · exact .done (within_deliverHead s _)
  · exact .stay

theorem answers_officeVoice (s : State) : Answers (touches .officeVoice) s (exec .officeVoice s) := by
  change Answers _ s (execOfficeVoice s)
  unfold execOfficeVoice
  split
  · exact .done (within_officeVoice s _)
  · exact .stay

theorem answers_officeCallRelease (s : State) : Answers (touches .officeCallRelease) s (exec .officeCallRelease s) := by
  change Answers _ s (execOfficeCallRelease s)
  unfold execOfficeCallRelease
  split
  · exact .done (within_officeRelease s _)
  · exact .stay

theorem answers_officeCellRejected (s : State) :
    Answers (touches .officeCellRejected) s (exec .officeCellRejected s) := by
  change Answers _ s (execOfficeCellRejected s)
  unfold execOfficeCellRejected
  split
  · exact .next (within_rejectHead s)
  · exact .stay

theorem answers_officeOfferRetry (s : State) : Answers (touches .officeOfferRetry) s (exec .officeOfferRetry s) := by
  change Answers _ s (execOfficeOfferRetry s)
  unfold execOfficeOfferRetry
  split
  · exact .done (within_takeHead s _)
  · exact .stay

/-- Settles O3, command by command, each by the frame of its meaning. -/
theorem everyCommandAnswersWithinItsParts : Obligations.EveryCommandAnswersWithinItsParts := by
  intro c s
  change Answers (touches c) s (exec c s)
  cases c with
  | resetAssert => exact .next ((within_intoReset s).seq (within_withPower _ _) : Within (touches .resetAssert) _ _)
  | mainSupplyFall => exact .next ((within_intoReset s).seq (within_withPower _ _) : Within (touches .resetAssert) _ _)
  | vretLoss => exact .ite .stay (.next (within_withPower s _))
  | resetEnd k => exact .ite .stay (.next ((within_resetValues s k).trans (within_startUp _).widen : Within resetParts _ _))
  | darkPeriodEnd => exact answers_darkPeriodEnd s
  | lightFound p => exact .next (within_lightOn s p)
  | lightDisappears p => exact .ite (.next (within_setPort s p _)) (.next (within_setPort s p _))
  | lightReturns p => exact .next (within_lightOn s p)
  | lossDebounceExpiry p => exact .ite (.done (within_lightLost s p)) .stay
  | lockGained p => exact .ite (.next (within_setPort s p _)) .stay
  | markerWatchExpiry p => exact .ite (.done (within_loseLock s p)) .stay
  | badCheckCell p => exact .ite (.done (within_badCell s p)) .stay
  | malformedCell p => exact .ite (.next (within_countMalformed s p)) .stay
  | hello p c => exact answers_hello s p c
  | helloPeriod p => exact .ite (.next (within_setPort s p _)) .stay
  | helloWatchExpiry p =>
    exact .ite (.done ((within_setPort s p _).seq (within_portDown _ _) : Within downParts _ _)) .stay
  | idleTimerExpiry p => exact .ite (.done (within_setPort s p _)) .stay
  | dozeRetryExpiry p =>
    exact .ite (.ite (.next ((within_setPort s p _).trans (within_askDoze _ _))) (.next (within_setPort s p _))) .stay
  | dozeReq p c => exact .done (within_arrive [.ports] s p _ _ (by decide) (fun _ => within_takeDozeReq _ _ _))
  | dozeAck p c => exact .done (within_arrive [.ports] s p _ _ (by decide) (fun _ => within_takeDozeAck _ _))
  | answerWindowExpiry p => exact .ite (.next (within_setPort s p _)) .stay
  | wakeTimerExpiry p =>
    exact .ite (.done ((within_setPort s p _).seq (within_portDown _ _) : Within downParts _ _)) .stay
  | wakeBurst p => exact .ite (.done (within_takeWakeBurst s p)) .stay
  | wakeAck p c =>
    exact .done (within_arrive (.gw :: dispatchParts) s p _ _ (by decide) (fun _ => within_takeWakeAck _ _))
  | hold p c => exact .done (within_arrive [.ports, .tiu] s p _ _ (by decide) (fun _ => (within_setSide _ _ _).widen))
  | resume p c => exact .done (within_arrive [.ports, .tiu] s p _ _ (by decide) (fun _ => (within_setSide _ _ _).widen))
  | holdExpiry d => exact .ite (.next (within_setSide s d _)) .stay
  | holdRepeatExpiry d => exact .ite (.next (within_makeHold s d)) .stay
  | beacon p c => exact answers_beacon s p c
  | reachLapse d => exact .ite (.done (within_lapseEntry s d)) .stay
  | transmitSlot p => exact .ite (.done (within_slotBegun s p)) .stay
  | transmissionComplete p => exact answers_transmissionComplete s p
  | callSetup p c => exact .done (within_callArrival s p _)
  | callAccept p c => exact .done (within_callArrival s p _)
  | callRefuse p c => exact .done (within_callArrival s p _)
  | callRelease p c => exact .done (within_callArrival s p _)
  | callBroken p c => exact .done (within_callArrival s p _)
  | callUpgrade p c => exact .done (within_callArrival s p _)
  | voice p c => exact .done (within_callArrival s p _)
  | tollRecord p c =>
    exact .done (within_dataArrival _ s p _ (fun a => consumeRecord a _)
      (fun a _ => within_consumeRecord a _ _))
  | tollAck p c => exact .done (within_dataArrival _ s p _ (fun _ => consumeAck _) (fun _ _ => within_consumeAck _ _))
  | signCommandConsumed p k c =>
    exact .done (within_dataArrival _ s p _ (fun a => consumeSign a _)
      (fun a _ => within_consumeSign a _ _))
  | signReply p c =>
    exact .done (within_dataArrival _ s p _ (fun _ => consumeForOffice _) (fun _ _ => within_consumeForOffice _ _))
  | weatherReport p c =>
    exact .done (within_dataArrival _ s p _ (fun _ => consumeForOffice _) (fun _ _ => within_consumeForOffice _ _))
  | nodeStatus p c =>
    exact .done (within_dataArrival _ s p _ (fun _ => consumeForOffice _) (fun _ _ => within_consumeForOffice _ _))
  | weatherPoll p c =>
    exact .done (within_dataArrival _ s p _ (fun a => consumePoll a _)
      (fun a _ => within_consumePoll a _ _))
  | nodeQuery p c => exact answers_nodeQuery s p c
  | hookOffHook l => exact .next (within_setLine s l _)
  | hookOnHook l => exact .next (within_setLine s l _)
  | offhookDebounceExpiry l => exact .ite (.done (within_callBegun s l)) .stay
  | onhookDebounceExpiry l => exact .ite (.done (within_callEnded s l)) .stay
  | keyClose l => exact .next (within_setLine s l _)
  | keyOpen l us => exact answers_keyOpen s l us
  | keyStuck l => exact .ite (.next (within_setLine s l _)) .stay
  | voicePackPeriod l samples => exact answers_voicePackPeriod s l samples
  | playoutPeriod l => exact .ite (.next (within_setLine s l _)) .stay
  | setupTimerExpiry l => exact answers_setupTimerExpiry s l
  | callRetryTimerExpiry l => exact answers_callRetryTimerExpiry s l
  | originVoiceWatchExpiry l => exact answers_originVoiceWatchExpiry s l
  | pathEntryTimerExpiry id => exact answers_pathEntryTimerExpiry s id
  | staleAnswerHoldExpiry l => exact .ite (.next (within_setLine s l _)) .stay
  | gatewayVoiceWatchExpiry id => exact answers_gatewayVoiceWatchExpiry s id
  | localVoiceWatchExpiry l => exact answers_localVoiceWatchExpiry s l
  | characterReceived v a b => exact .ite (.next (within_withGli s _)) .stay
  | breakDetected => exact .ite (.next (within_withGli s _)) .stay
  | breakEnd => exact .ite (.next (within_withGli s _)) .stay
  | assemblerTakeCharacter => exact answers_assemblerTakeCharacter s
  | storeWriteComplete => exact answers_storeWriteComplete s
  | transmitControlCharacter => exact .ite (.next (within_withGli s _)) .stay
  | dispatchTimerExpiry =>
    exact .ite (.done ((within_withCsd s _).seq (within_dispatchPass _) : Within dispatchParts _ _)) .stay
  | custodyRetryExpiry q => exact answers_custodyRetryExpiry s q
  | signWindow => exact answers_takeTask within_takeWindow
  | signPixels => exact answers_takeTask within_takePixels
  | pixelWrite => exact answers_pixelWrite s
  | signShow => exact answers_takeTask within_takeShow
  | signClear => exact answers_takeTask within_takeClear
  | signDim => exact answers_takeTask within_takeDim
  | hazardHoldExpiry => exact .ite (.next (within_withSps s _)) .stay
  | refreshBoundary => exact .ite (.next (within_withSps s _)) .stay
  | rowPeriod => exact .ite (.next (within_withSps s _)) .stay
  | brightnessSlew => exact .ite (.next (within_withSps s _)) .stay
  | sweepStart => exact .ite (.next (within_withWsu s _)) .stay
  | settleExpiry => exact answers_settleExpiry s
  | endOfConversion r => exact answers_endOfConversion s r
  | windPulse =>
    exact .ite (.next ((within_withWsu s _).seq (within_settleReasons _ _) : Within [.sps, .wsu] _ _)) .stay
  | windWindowStart =>
    exact .ite (.next ((within_withWsu s _).seq (within_settleReasons _ _) : Within [.sps, .wsu] _ _)) .stay
  | rainTip => exact .ite (.next (within_withWsu s _)) .stay
  | intervalTimerStop => exact answers_intervalTimerStop s
  | surfaceRaceStart => exact .ite (.next (within_withWsu s _)) .stay
  | referenceOverflow x =>
    exact .ite (.next ((within_withWsu s _).seq (within_settleReasons _ _) : Within [.sps, .wsu] _ _)) .stay
  | surfaceOverflow =>
    exact .ite (.next ((within_withWsu s _).seq (within_settleReasons _ _) : Within [.sps, .wsu] _ _)) .stay
  | reportPeriodEnd => exact .ite (.done (within_reportEnded s)) .stay
  | beaconPeriod =>
    exact .ite (.next ((within_makeBeacon s).seq (within_withGw _ _) : Within (.gw :: offerParts) _ _)) .stay
  | toOfficeTransferStart b => exact .ite (.next (within_withGw s _)) .stay
  | toOfficeTransferComplete => exact .ite (.next (within_withGw s _)) .stay
  | fromOfficeTransferStart => exact .ite (.ite (.next (within_withGw s _)) (.next (within_withGw s _))) .stay
  | fromOfficeTransferComplete c check => exact answers_fromOfficeTransferComplete s c check
  | officeSignOrReportCell => exact answers_officeSignOrReportCell s
  | officeVoice => exact answers_officeVoice s
  | officeCallRelease => exact answers_officeCallRelease s
  | officeCellRejected => exact answers_officeCellRejected s
  | officeOfferRetry => exact answers_officeOfferRetry s
  | pointerWrite v => exact .ite (.next (within_withMaint s _)) .stay
  | counterClear => exact .ite (.next (within_takeDataByte s _)) .stay
  | ignoredWriteByte v => exact .ite (.next (within_takeDataByte s v)) .stay
  | statusByteRead =>
    exact .ite (.next (within_byteRead s _ _)) .stay

end Sys2Proof.Machine
end

section
/-! PROOFS. A millisecond of idle time (log 2): what `tick` makes of each part, read side by side or port by port. -/

set_option Elab.async false

namespace Sys2Proof.Machine

/-! ## A millisecond, part by part -/

/-- The parts that a millisecond moves. -/
def tickParts : List Part := [.dark, .ports, .tiu, .reach, .srt, .lines, .csd, .sps, .wsu, .gw]

section
variable {s : State}

theorem within_tick (s : State) : Within tickParts s (tick s) := by
  intro q hq
  unfold tick
  split
  · cases q with
    | pending => rfl
    | power => rfl
    | straps => rfl
    | powerOnCount => rfl
    | inHand => rfl
    | node => rfl
    | ccu => rfl
    | gli => rfl
    | maint => rfl
    | freeUses => rfl
    | _ => exact absurd (by decide) hq
  · exact Within.refl tickParts s q hq

theorem tick_of_stopped (h : s.running = false) : tick s = s := by
  rw [tick, if_neg (Bool.eq_false_iff.mp h)]

theorem tick_dark (h : s.running = true) : (tick s).dark = tickTimer s.dark := by
  rw [tick, if_pos h]

theorem tick_port (h : s.running = true) (p : Port) : (tick s).port p = tickPort (s.port p) := by
  rw [tick, if_pos h]
  cases p with
  | sp1 => rfl
  | sp2 => rfl

theorem tick_side (h : s.running = true) (d : Side) : (tick s).side d = tickTiu (s.side d) := by
  rw [tick, if_pos h]
  cases d with
  | up => rfl
  | down => rfl

theorem tick_entry (h : s.running = true) (d : Side) : (tick s).entry d = tickEntry (s.entry d) := by
  rw [tick, if_pos h]
  cases d with
  | up => rfl
  | down => rfl

theorem tick_table (h : s.running = true) (d : Side) : (tick s).table d = (s.table d).map tickSrt := by
  rw [tick, if_pos h]
  cases d with
  | up => rfl
  | down => rfl

end

/-- R64: a held entry ages until its lapse is due. -/
theorem tickEntry_of_aging {e : ReachEntry} (hheld : e.held = true) (hage : e.valid = true → e.age.toNat < 600) :
    tickEntry e = { e with age := satInc e.age } := by
  have hnotDue : ¬ (e.valid && decide (reachLapseMs ≤ e.age.toNat)) = true := by
    rw [Bool.and_eq_true, decide_eq_true_eq]
    rintro ⟨hvalid, hlapse⟩
    exact absurd (hage hvalid) (Nat.not_lt.mpr hlapse)
  rw [tickEntry, if_neg (by rw [hheld]; decide), if_neg hnotDue]

theorem tickEntry_of_still {e : ReachEntry} (h : e.held = false ∨ e.valid = true ∧ 600 ≤ e.age.toNat) :
    tickEntry e = e := by
  unfold tickEntry
  split
  · rfl
  · next hheld =>
    rcases h with hempty | ⟨hvalid, hlapse⟩
    · exact absurd (by rw [hempty]; rfl) hheld
    · rw [if_pos (by rw [Bool.and_eq_true, decide_eq_true_eq]; exact ⟨hvalid, hlapse⟩)]

theorem step_of_idle {s : State} (h : s.pending = []) : step s = .next (tick s) := by
  simp only [step, h]

/-- Settles O2: the timers by computation, the step through `tick` part by part. -/
theorem idleStepPassesAMillisecond : Obligations.IdleStepPassesAMillisecond := by
  refine ⟨fun n => ⟨rfl, rfl, rfl, rfl⟩, fun s hidle => ⟨fun hstopped => ?stopped, fun hrun => ?running⟩⟩
  case stopped => rw [step_of_idle hidle, tick_of_stopped hstopped]
  case running =>
    refine ⟨tick s, step_of_idle hidle, within_tick s, tick_dark hrun, fun p => ?port, tick_side hrun,
      fun d hheld hage => (tick_entry hrun d).trans (tickEntry_of_aging hheld hage),
      fun d hstill => (tick_entry hrun d).trans (tickEntry_of_still hstill), tick_table hrun⟩
    case port =>
      rw [tick_port hrun p]
      exact ⟨rfl, rfl, rfl, rfl⟩

end Sys2Proof.Machine
end

section
/-! PROOFS. The pin levels of HOOK and KEY (R75 to R78): what lifting, dropping and closing make of a line that works. -/

set_option Elab.async false

namespace Sys2Proof.Machine

section
variable {x : PhoneLine}

theorem liftHook_idle (h : x.state = .idle) :
    liftHook true x = { x with offHook := true, state := .offhookCheck, hookDebounce := some 200 } := by
  simp [liftHook, h, hookDebounceMs]

theorem dropHook_check (h : x.state = .offhookCheck) :
    dropHook true x = { x with offHook := false, state := .idle, hookDebounce := none } := by
  simp [dropHook, h]

theorem lineBusy_iff : lineBusy x = true ↔ x.state = .calling ∨ x.state = .talk ∨ x.state = .cleared := by
  simp [lineBusy, lineMeasured, or_assoc]

theorem dropHook_busy (h : lineBusy x = true) :
    dropHook true x = { x with offHook := false, hookDebounce := some 200 } := by
  have hcheck : x.state ≠ .offhookCheck := by
    rintro hcheck
    simp [lineBusy, lineMeasured, hcheck] at h
  simp [dropHook, hcheck, h, hookDebounceMs]

theorem liftHook_busy (h : lineBusy x = true) : liftHook true x = { x with offHook := true, hookDebounce := none } := by
  have hidle : x.state ≠ .idle := by
    rintro hidle
    simp [lineBusy, lineMeasured, hidle] at h
  simp [liftHook, hidle, h]

theorem lineMeasured_eq : lineMeasured x = decide (x.state = .calling ∨ x.state = .talk) := by
  rw [Bool.eq_iff_iff]
  simp [lineMeasured]

theorem closeKey_working :
    closeKey true x
      = { x with
          keyClosed := true, keyTimer := some 3000
          keyMeasuring := decide (x.state = .calling ∨ x.state = .talk) } := by
  rw [← lineMeasured_eq]
  rfl

end

/-- Settles O31: each command is the change of its line. -/
theorem hookAndKeyLevels : Obligations.HookAndKeyLevels := by
  intro l s hw
  have hook (f : Bool → PhoneLine → PhoneLine) {y : PhoneLine} (h : f true (s.line l) = y) :
      Host.Outcome.next (s.setLine l (f s.phonesWork (s.line l)))
        = (Host.Outcome.next (s.setLine l y) : Host.Outcome State Fault Refusal) := by
    rw [hw, h]
  refine ⟨fun hidle => hook liftHook (liftHook_idle hidle), fun hcheck => hook dropHook (dropHook_check hcheck),
    fun hbusy => ⟨hook dropHook (dropHook_busy (lineBusy_iff.mpr hbusy)),
      hook liftHook (liftHook_busy (lineBusy_iff.mpr hbusy))⟩,
    hook closeKey closeKey_working, fun hclosed htimer => ?stuck⟩
  case stuck =>
    change execKeyStuck l s = _
    rw [execKeyStuck, if_pos (by rw [hw, hclosed, htimer]; rfl)]

end Sys2Proof.Machine
end

section
/-! PROOFS. What a command leaves, as a predicate on outcomes, the ways an arriving cell can end, and the first invariant:
the sign pages and the window stay sound (R129, R132). -/

set_option Elab.async false

namespace Sys2Proof.Machine

/-! ## What a command leaves -/

/-- Every next state of the outcome has the property. -/
def Leaves (P : State → Prop) (o : Host.Outcome State Fault Refusal) : Prop := ∀ t, o = .next t → P t

/-- The state a command that ends by `done` leaves, `t` being what it made of `s`: doze requests may stand in the ports, and
no buffer is in hand. -/
def ended (s t : State) : State := { t with ports := (settleDoze s t).ports, inHand := 0 }

theorem done_ended (s t : State) : done s t = .next (ended s t) := by
  rw [done_eq, ended]

section
variable (s t : State)
theorem ended_srt : (ended s t).srt = t.srt := by rw [ended]
theorem ended_csd : (ended s t).csd = t.csd := by rw [ended]
theorem ended_gli : (ended s t).gli = t.gli := by rw [ended]
theorem ended_sps : (ended s t).sps = t.sps := by rw [ended]
theorem ended_port (p : Port) : (ended s t).port p = (settleDoze s t).port p := by
  change (settleDoze s t).ports.get p = _
  rfl
end

section
variable {P : State → Prop} {s t : State}

theorem Leaves.next (h : P t) : Leaves P (.next t) := by
  intro u hu
  cases hu
  exact h

theorem Leaves.done (h : P (ended s t)) : Leaves P (done s t) := by
  rw [done_ended]
  exact .next h

theorem Leaves.ite {c : Prop} [Decidable c] {a b : Host.Outcome State Fault Refusal} (ha : Leaves P a)
    (hb : Leaves P b) : Leaves P (if c then a else b) := by
  split
  · exact ha
  · exact hb

/-- Every step leaves a property that the millisecond and every command leave. -/
theorem Leaves.step (htick : P (tick s)) (hexec : ∀ c rest, s.pending = c :: rest → Leaves P (exec c { s with pending := rest })) :
    Leaves P (step s) := by
  unfold Machine.step
  split
  · exact .next htick
  · next c rest h => exact hexec c rest h

end

/-- A command leaves the parts alone that are not listed for it. -/
theorem same_of_exec {c : Instr} {s t : State} (h : exec c s = .next t) (q : Part)
    (hq : (touches c).contains q = false) : Same s t q := by
  obtain ⟨u, hu, hw⟩ := everyCommandAnswersWithinItsParts c s
  obtain rfl : u = t := by rw [h] at hu; cases hu; rfl
  refine hw q (fun hmem => ?_)
  rw [List.contains_iff_mem.mpr hmem] at hq
  cases hq

/-! ## How an arriving cell ends -/

/-- R21, R37, R40: an arriving cell is dropped by a test, or taken by `act`. -/
theorem transitArrival_cases (s : State) (p : Port) (c : Cell) (act : State → State) :
    Within [.ports, .node] s (transitArrival s p c act)
      ∨ ∃ t, Within [.inHand, .ports, .node] s t ∧ transitArrival s p c act = act t := by
  have received : Within [.ports] s (receiveCell s p c) := within_receiveCell _ _ _
  have stirred : Within [.ports] s (stir (takeIn (receiveCell s p c) p) p) :=
    (received.trans (within_takeIn _ _)).trans (within_stir _ _)
  unfold transitArrival arrive
  split
  · exact .inl (Within.refl _ _)
  · dsimp only
    split
    · exact .inl (received.seq (within_countMalformed _ _))
    · split
      · unfold admitCell
        split
        · exact .inl (stirred.seq (within_countNode _ _))
        · split
          · exact .inl (stirred.seq (within_countNode _ _))
          · exact .inr ⟨_, stirred.seq (within_withInHand _ 1), rfl⟩
      · exact .inl (received.seq (within_turnAway _ _))

/-- R8: a data cell in hand goes on or is dropped, or its local copy is consumed. -/
theorem carry_cases (s : State) (a : Side) (c : Cell) (consume : State → State) :
    Within passParts s (carry s a c consume) ∨ ∃ t, Within passParts s t ∧ carry s a c consume = consume t := by
  unfold carry
  split
  · exact .inr ⟨s, Within.refl _ _, rfl⟩
  · exact .inr ⟨_, (within_passCopy _ _ _).widen, rfl⟩
  · exact .inl (within_passOn _ _ _)
  · exact .inl ((within_withInHand s 0).seq (within_countNode _ _))

/-- R8, R37: the arrival of a TOLL, SIGN or REPORT cell consumes its local copy or touches the TIUs alone. -/
theorem dataArrival_cases (s : State) (p : Port) (c : Cell) (consume : Side → State → State) :
    let result := transitArrival s p c (fun t => carry t (t.sideOf p) c (consume (t.sideOf p)))
    Within passParts s result ∨ ∃ a t, Within passParts s t ∧ result = consume a t := by
  dsimp only
  rcases transitArrival_cases s p c (fun t => carry t (t.sideOf p) c (consume (t.sideOf p))) with h | ⟨t, ht, heq⟩
  · exact .inl h.widen
  · rw [heq]
    rcases carry_cases t (t.sideOf p) c (consume (t.sideOf p)) with k | ⟨u, hu, hcarry⟩
    · exact .inl (ht.widen.trans k)
    · exact .inr ⟨t.sideOf p, u, ht.widen.trans hu, hcarry⟩

/-! ## The sign pages, the window and the cursor -/

/-- What the invariant of the sign store reads. -/
def signStore (x : Sps) : Memory × Nat × (Nat × Nat × Nat) × Nat × Nat × Nat :=
  (x.pages, x.winPage, (x.c0, x.curCol, x.c1), x.r0, x.curRow, x.r1)

/-- `signStoreSound`, of the sign store alone. -/
def soundStore (x : Sps) : Prop :=
  Memory.wf x.pages = true ∧ x.winPage ≤ 3
    ∧ x.c0 ≤ x.curCol ∧ x.curCol ≤ x.c1 ∧ x.c1 ≤ 127
    ∧ x.r0 ≤ x.curRow ∧ x.curRow ≤ x.r1 ∧ x.r1 ≤ 31

theorem signStoreSound_iff (s : State) : signStoreSound s ↔ soundStore s.sps := Iff.rfl

theorem soundStore_congr {x y : Sps} (h : signStore y = signStore x) : soundStore x ↔ soundStore y := by
  simp only [signStore, Prod.mk.injEq] at h
  obtain ⟨hpages, hpage, ⟨hc0, hcol, hc1⟩, hr0, hrow, hr1⟩ := h
  simp only [soundStore, hpages, hpage, hc0, hcol, hc1, hr0, hrow, hr1]

theorem signStore_of_within {parts : List Part} {s t : State} (h : Within parts s t) (k : Part.sps ∉ parts) :
    signStore t.sps = signStore s.sps := by
  rw [sps_of_within h k]

theorem signStore_finishTask (s : State) (t : SignTask) (r : SignReason) (n : Nat) :
    signStore (finishTask s t r n).sps = signStore s.sps := by
  obtain ⟨k, hk⟩ := finishTask_sps s t r n
  rw [hk]
  rfl

theorem signStore_consumeSign (a : Side) (c : Cell) (s : State) :
    signStore (consumeSign a c s).sps = signStore s.sps := by
  unfold consumeSign
  split
  · rfl
  · rfl

theorem signStore_raiseIncident (s : State) : signStore (raiseIncident s).sps = signStore s.sps := by
  unfold raiseIncident
  split
  · rfl
  · rfl

theorem signStore_callBegun (s : State) (l : Line) : signStore (callBegun s l).sps = signStore s.sps :=
  (signStore_raiseIncident _).trans
    (signStore_of_within (((within_setLine s l _).seq (within_attempt _ _ _) : Within callParts _ _)) (by decide))

theorem signStore_reasonsOn (s : State) : signStore (reasonsOn s).sps = signStore s.sps := by
  unfold reasonsOn
  dsimp only
  split
  · rfl
  · split
    · rfl
    · rfl

theorem signStore_reasonsOff (s : State) : signStore (reasonsOff s).sps = signStore s.sps := by
  unfold reasonsOff
  dsimp only
  split
  · rfl
  · rfl

theorem signStore_settleReasons (a s : State) : signStore (settleReasons a s).sps = signStore s.sps := by
  unfold settleReasons
  dsimp only
  split
  · split
    · exact signStore_reasonsOn _
    · rfl
  · split
    · split
      · exact signStore_reasonsOff _
      · rfl
    · rfl

theorem signStore_handLight (s : State) : signStore (handLight s).sps = signStore s.sps := by
  unfold handLight
  split
  · rfl
  · rfl

theorem signStore_conversionEnded (s : State) (n : Nat) (r : BitVec 12) :
    signStore (conversionEnded s n r).sps = signStore s.sps := by
  unfold conversionEnded
  dsimp only
  split
  · exact signStore_handLight _
  · rfl

/-! ## SIGN commands -/

theorem signStore_takePixels (s : State) (t : SignTask) : signStore (takePixels s t).sps = signStore s.sps := by
  unfold takePixels
  split
  · rfl
  · exact signStore_finishTask _ _ _ _

theorem signStore_takeShow (s : State) (t : SignTask) : signStore (takeShow s t).sps = signStore s.sps := by
  unfold takeShow
  split
  · exact signStore_finishTask _ _ _ _
  · exact signStore_finishTask _ _ _ _

theorem signStore_takeClear (s : State) (t : SignTask) : signStore (takeClear s t).sps = signStore s.sps := by
  unfold takeClear
  split
  · exact signStore_finishTask _ _ _ _
  · split
    · split
      · exact signStore_finishTask _ _ _ _
      · exact signStore_finishTask _ _ _ _
    · split
      · exact signStore_finishTask _ _ _ _
      · exact signStore_finishTask _ _ _ _

theorem signStore_takeDim (s : State) (t : SignTask) : signStore (takeDim s t).sps = signStore s.sps := by
  unfold takeDim
  dsimp only
  split
  · exact signStore_finishTask _ _ _ _
  · split
    · exact signStore_finishTask _ _ _ _
    · exact signStore_finishTask _ _ _ _

/-- R132: an accepted SIGN-WINDOW names a window inside a page, with the cursor at its first pixel. -/
theorem soundStore_setWindow {x : Sps} {c : CellData} (h : soundStore x) (hok : windowOk c = true) :
    soundStore (setWindow x c) := by
  obtain ⟨hwf, -⟩ := h
  simp only [windowOk, Bool.and_eq_true, decide_eq_true_eq] at hok
  obtain ⟨⟨⟨⟨⟨-, hpage⟩, hcols⟩, hc1⟩, hrows⟩, hr1⟩ := hok
  exact ⟨hwf, hpage, Nat.le_refl _, hcols, hc1, Nat.le_refl _, hrows, hr1⟩

/-- R134: a pixel written keeps the pages canonical, and the cursor moves on inside the window. -/
theorem soundStore_writePixel {x : Sps} (c : CellData) (k : Nat) (h : soundStore x) : soundStore (writePixel x c k) := by
  obtain ⟨hwf, hpage, hcol, hcols, hc1, hrow, hrows, hr1⟩ := h
  have hinside : x.c0 ≤ (writeCursor x c k).1 ∧ (writeCursor x c k).1 ≤ x.c1
      ∧ x.r0 ≤ (writeCursor x c k).2 ∧ (writeCursor x c k).2 ≤ x.r1 := by
    unfold writeCursor
    split
    · exact ⟨Nat.le_refl _, by omega, Nat.le_refl _, by omega⟩
    · exact ⟨hcol, hcols, hrow, hrows⟩
  obtain ⟨hleft, hright, htop, hbottom⟩ := hinside
  have hafter : x.c0 ≤ (cursorAfter x (writeCursor x c k)).1 ∧ (cursorAfter x (writeCursor x c k)).1 ≤ x.c1
      ∧ x.r0 ≤ (cursorAfter x (writeCursor x c k)).2 ∧ (cursorAfter x (writeCursor x c k)).2 ≤ x.r1 := by
    unfold cursorAfter
    split
    · exact ⟨by omega, by omega, htop, hbottom⟩
    · split
      · exact ⟨Nat.le_refl _, by omega, by omega, by omega⟩
      · exact ⟨Nat.le_refl _, by omega, Nat.le_refl _, by omega⟩
  exact ⟨Memory.write_wf _ _ _ hwf, hpage, hafter.1, hafter.2.1, hc1, hafter.2.2.1, hafter.2.2.2, hr1⟩

theorem soundStore_takeWindow (s : State) (t : SignTask) (h : soundStore s.sps) : soundStore (takeWindow s t).sps := by
  unfold takeWindow
  split
  · next hok => exact (soundStore_congr (signStore_finishTask _ _ _ _)).mp (soundStore_setWindow h hok)
  · exact (soundStore_congr (signStore_finishTask _ _ _ _)).mp h

theorem soundStore_pixelStep (s : State) (t : SignTask) (k : Nat) (h : soundStore s.sps) :
    soundStore (pixelStep s t k).sps := by
  unfold pixelStep
  split
  · exact (soundStore_congr (signStore_finishTask _ _ _ _)).mp h
  · split
    · exact soundStore_writePixel _ _ h
    · exact (soundStore_congr (signStore_finishTask _ _ _ _)).mp (soundStore_writePixel _ _ h)

theorem leaves_takeTask {P : Sps → Prop} {s : State} {k : Kind} {act : State → SignTask → State} (h : P s.sps)
    (hact : ∀ n t, P (act (s.countSps n) t).sps) : Leaves (fun t => P t.sps) (takeTask s k act) := by
  unfold takeTask
  split
  · split
    · split
      · exact .done (hact _ _)
      · exact .next h
    · exact .next h
  · exact .next h

/-! ## Reset and office cells -/

theorem signStore_startUp (s : State) : signStore (startUp s).sps = signStore s.sps := by
  have hstart (x : State) : signStore (startSign x).sps = signStore x.sps := by
    unfold startSign
    split
    · rfl
    · rfl
  unfold startUp
  split
  · rfl
  · calc signStore (startWeather (startSign (startPhones (startGantry s)))).sps
        = signStore (startSign (startPhones (startGantry s))).sps :=
          signStore_of_within (within_startWeather _) (by decide)
      _ = signStore (startPhones (startGantry s)).sps := hstart _
      _ = signStore (startGantry s).sps := signStore_of_within (within_startPhones _) (by decide)
      _ = signStore s.sps := signStore_of_within (within_startGantry _) (by decide)

/-- R17, R151: what a reset keeps of the sign store is sound: the pages, or nothing. -/
theorem soundStore_resetEnd (s : State) (k : Straps) (h : soundStore s.sps) :
    soundStore (startUp (resetValues s k)).sps := by
  have hreset : soundStore (signAfterReset s.power s.sps) := by
    unfold signAfterReset
    split
    · unfold soundStore; decide
    · obtain ⟨hwf, -⟩ := h
      unfold soundStore
      exact ⟨hwf, by simp⟩
  exact (soundStore_congr (signStore_startUp _)).mp hreset

theorem signStore_consumeOfficeCell (s : State) (c : Cell) :
    signStore (consumeOfficeCell s c).sps = signStore s.sps := by
  unfold consumeOfficeCell
  split
  · split
    · have hpoll := sps_of_within (within_answerPoll { s with inHand := 1 } none c.toCellData) (by decide)
      exact congrArg signStore hpoll
    · rfl
  · have hquery := sps_of_within (within_answerQuery { s with inHand := 1 } none c.toCellData) (by decide)
    exact congrArg signStore hquery
  · split
    · rfl
    · rfl

theorem signStore_offerHead (s : State) (c : Cell) : signStore (offerHead s c (fun u => u)).sps = signStore s.sps :=
  signStore_of_within (within_offerHead (.gw :: offerParts) s c _ (fun _ => Within.refl _ _)) (by decide)

theorem signStore_deliverHead (s : State) (c : Cell) : signStore (deliverHead s c).sps = signStore s.sps := by
  unfold deliverHead
  dsimp only
  split
  · split
    · exact signStore_consumeOfficeCell _ _
    · rfl
  · split
    · split
      · exact (signStore_offerHead _ _).trans (signStore_consumeOfficeCell _ _)
      · rfl
    · exact signStore_offerHead _ _

theorem signStore_takeHead (s : State) (k : OfficeKind) : signStore (takeHead s k).sps = signStore s.sps := by
  unfold takeHead
  cases k with
  | deliver c => exact signStore_deliverHead _ _
  | voice c => exact signStore_of_within (within_officeVoice _ _) (by decide)
  | release c => exact signStore_of_within (within_officeRelease _ _) (by decide)
  | reject => rfl

theorem signStore_takeDataByte (s : State) (b : Byte) : signStore (takeDataByte s b).sps = signStore s.sps := by
  unfold takeDataByte
  split
  · rfl
  · rfl

theorem signStore_tick (s : State) : signStore (tick s).sps = signStore s.sps := by
  unfold tick
  split
  · rfl
  · rfl

/-! ## Every step -/

theorem exec_keeps_soundStore (c : Instr) {s : State} (h : soundStore s.sps) :
    Leaves (fun t => soundStore t.sps) (exec c s) := by
  have kept {t : State} (hstore : signStore t.sps = signStore s.sps) : soundStore t.sps := (soundStore_congr hstore).mp h
  have task {k : Kind} {act : State → SignTask → State} (hact : ∀ x t, signStore (act x t).sps = signStore x.sps) :
      Leaves (fun t => soundStore t.sps) (takeTask s k act) :=
    leaves_takeTask h (fun _ _ => kept (hact _ _))
  cases c with
  | resetEnd k => exact .ite (.next h) (.next (soundStore_resetEnd s k h))
  | signCommandConsumed p k c =>
    refine .done (kept ?_)
    rw [ended_sps]
    rcases dataArrival_cases s p (cellOf (signKind k) c) (fun a => consumeSign a (cellOf (signKind k) c)) with
      hpass | ⟨a, t, hpass, heq⟩
    · exact signStore_of_within hpass (by decide)
    · rw [heq, signStore_consumeSign]
      exact signStore_of_within hpass (by decide)
  | offhookDebounceExpiry l => exact .ite (.done (kept (signStore_callBegun s l))) (.next h)
  | signWindow => exact leaves_takeTask h (fun n t => soundStore_takeWindow (s.countSps n) t h)
  | signPixels => exact task signStore_takePixels
  | pixelWrite =>
    refine .ite ?_ (.next h)
    split
    · exact .done (soundStore_pixelStep s _ _ h)
    · exact .next h
  | signShow => exact task signStore_takeShow
  | signClear => exact task signStore_takeClear
  | signDim => exact task signStore_takeDim
  | hazardHoldExpiry => exact .ite (.next h) (.next h)
  | refreshBoundary =>
    refine .ite (.next (kept ?_)) (.next h)
    unfold boundary
    split
    · rfl
    · rfl
  | rowPeriod => exact .ite (.next h) (.next h)
  | brightnessSlew => exact .ite (.next h) (.next h)
  | endOfConversion r =>
    refine .ite ?_ (.next h)
    split
    · exact .next (kept (signStore_conversionEnded s _ r))
    · exact .next h
  | windPulse => exact .ite (.next (kept (signStore_settleReasons s _))) (.next h)
  | windWindowStart => exact .ite (.next (kept (signStore_settleReasons s _))) (.next h)
  | referenceOverflow x => exact .ite (.next (kept (signStore_settleReasons s _))) (.next h)
  | surfaceOverflow => exact .ite (.next (kept (signStore_settleReasons s _))) (.next h)
  | officeSignOrReportCell =>
    change Leaves _ (execOfficeSignOrReportCell s)
    unfold execOfficeSignOrReportCell
    split
    · exact .done (kept (signStore_deliverHead s _))
    · exact .next h
  | officeOfferRetry =>
    change Leaves _ (execOfficeOfferRetry s)
    unfold execOfficeOfferRetry
    split
    · exact .done (kept (signStore_takeHead s _))
    · exact .next h
  | counterClear => exact .ite (.next (kept (signStore_takeDataByte s _))) (.next h)
  | ignoredWriteByte b => exact .ite (.next (kept (signStore_takeDataByte s b))) (.next h)
  | _ =>
    intro t ht
    have hsps : t.sps = s.sps := same_of_exec ht .sps rfl
    exact kept (by rw [hsps])

/-- Settles O4: the store is sound after a millisecond and after every command. -/
theorem stepsKeepTheSignStoreSound : Obligations.StepsKeepTheSignStoreSound := fun s t h =>
  Leaves.step (P := signStoreSound) ((soundStore_congr (signStore_tick s)).mp h)
    (fun c _ _ => exec_keeps_soundStore c h) t

end Sys2Proof.Machine
end

section
/-! PROOFS. The second invariant: no Span Reservation Table grows past 8 entries (R89), and the custody store keeps to its
256 entries with room for the record being written (R109, R113). A reservation is the only operation that lengthens a
table; each one finds a place first, also where a preempted record makes its own attempt in between (R92). -/

set_option Elab.async false

namespace Sys2Proof.Machine

/-! ## Tables that do not grow -/

theorem table_setTable (s : State) (d x : Side) (q : List SrtEntry) :
    (s.setTable d q).table x = if x = d then q else s.table x := by
  cases d <;> cases x <;> rfl

theorem sublist_of_eq {q q' : List SrtEntry} (h : q = q') : q.Sublist q' := h ▸ List.Sublist.refl q

/-- No table of `t` holds an entry that its table of `s` does not hold. -/
def TablesShrink (s t : State) : Prop := ∀ d, (t.table d).Sublist (s.table d)

theorem TablesShrink.of_within {parts : List Part} {s t : State} (h : Within parts s t) (k : Part.srt ∉ parts) :
    TablesShrink s t := fun d => sublist_of_eq (table_of_within h k d)

theorem TablesShrink.trans {s t u : State} (h : TablesShrink s t) (k : TablesShrink t u) : TablesShrink s u :=
  fun d => (k d).trans (h d)

theorem shrink_releaseEntry (s : State) (d : Side) (id : Identity) : TablesShrink s (releaseEntry s d id) := by
  intro x
  rw [releaseEntry, table_setTable]
  split
  · next h => rw [h]; exact List.filter_sublist
  · exact List.Sublist.refl _

theorem shrink_releaseBoth (s : State) (id : Identity) : TablesShrink s (releaseBoth s id) :=
  (shrink_releaseEntry _ _ _).trans (shrink_releaseEntry _ _ _)

theorem shrink_releaseOwn (s : State) (r : CallRecord) : TablesShrink s (releaseOwn s r) := by
  unfold releaseOwn
  split
  · exact shrink_releaseEntry _ _ _
  · exact .of_within (Within.refl [] _) (by decide)

theorem shrink_makeBroken (s : State) (d : Side) (b : Byte) (id : Identity) (g : Byte) (r : BrokenReason) :
    TablesShrink s (makeBroken s d b id g r) := .of_within (within_makeBroken _ _ _ _ _ _) (by decide)

theorem shrink_preemptPath (s : State) (d : Side) (e : SrtEntry) : TablesShrink s (preemptPath s d e) :=
  (shrink_makeBroken _ _ _ _ _ _).trans (shrink_makeBroken _ _ _ _ _ _)

/-- R92: a preemption takes the victim out of the table that yields, and lengthens neither. -/
theorem shrink_preemptEntry (s : State) (d : Side) (e : SrtEntry) :
    TablesShrink (releaseEntry s d e.identity) (preemptEntry s d e) := by
  have counted (f : CcuCounts → CcuCounts) (x : Side) : (s.countCcu f).table x = s.table x := rfl
  have both (f : CcuCounts → CcuCounts) :
      TablesShrink (releaseEntry s d e.identity) (releaseBoth (s.countCcu f) e.identity) := by
    intro x
    rw [releaseBoth, releaseEntry, releaseEntry, releaseEntry, table_setTable, table_setTable, table_setTable, counted,
      table_setTable, counted]
    cases d <;> cases x <;> simp [withoutCall]
  unfold preemptEntry
  dsimp only
  split
  · exact (both _).trans (shrink_preemptPath _ _ _)
  · exact fun x => List.Sublist.refl _
  · exact fun x => List.Sublist.refl _

theorem length_releaseEntry_lt {s : State} {d : Side} {e : SrtEntry} (h : e ∈ s.table d) :
    ((releaseEntry s d e.identity).table d).length < (s.table d).length := by
  rw [releaseEntry, setTable_table, withoutCall]
  exact List.length_filter_lt_length_iff_exists.mpr ⟨e, h, by simp⟩

theorem youngestBreakdown_mem {q : List SrtEntry} {e : SrtEntry} (h : youngestBreakdown q = some e) : e ∈ q :=
  (List.mem_filter.mp (List.mem_of_getLast? h)).1

theorem length_preemptEntry_lt {s : State} {d : Side} {e : SrtEntry} (h : youngestBreakdown (s.table d) = some e) :
    ((preemptEntry s d e).table d).length < (s.table d).length :=
  Nat.lt_of_le_of_lt (shrink_preemptEntry s d e d).length_le (length_releaseEntry_lt (youngestBreakdown_mem h))

theorem shrink_preempted (s : State) (d : Side) (e : SrtEntry) : TablesShrink s (preemptEntry s d e) :=
  (shrink_releaseEntry _ _ _).trans (shrink_preemptEntry s d e)

/-! ## Attempts -/

/-- From `s` to `t` no table grows into the places that are spoken for (R92, log 8). -/
def TablesGrow (spoken : Spoken) (s t : State) : Prop :=
  ∀ d, (t.table d).Sublist (s.table d) ∨ (t.table d).length + spoken d ≤ 8

section
variable {spoken : Spoken} {s t u : State}

theorem TablesShrink.grow (h : TablesShrink s t) : TablesGrow spoken s t := fun d => .inl (h d)

theorem TablesGrow.trans (h : TablesGrow spoken s t) (k : TablesGrow spoken t u) : TablesGrow spoken s u := by
  intro d
  rcases k d with hsub | hroom
  · rcases h d with hsub' | hroom
    · exact .inl (hsub.trans hsub')
    · exact .inr (by have := hsub.length_le; omega)
  · exact .inr hroom

/-- R89: every table holds at most 8 entries. -/
def BoundedTables (s : State) : Prop := ∀ d, (s.table d).length ≤ 8

theorem tablesBounded_iff : tablesBounded s ↔ BoundedTables s := by
  refine ⟨fun ⟨hup, hdown⟩ d => ?_, fun h => ⟨h .up, h .down⟩⟩
  cases d with
  | up => exact hup
  | down => exact hdown

theorem BoundedTables.shrink (h : BoundedTables s) (k : TablesShrink s t) : BoundedTables t :=
  fun d => Nat.le_trans (k d).length_le (h d)

theorem BoundedTables.grow (h : BoundedTables s) (k : TablesGrow spoken s t) : BoundedTables t := by
  intro d
  rcases k d with hsub | hroom
  · exact Nat.le_trans hsub.length_le (h d)
  · omega

theorem BoundedTables.of_within {parts : List Part} (h : BoundedTables s) (k : Within parts s t)
    (m : Part.srt ∉ parts) : BoundedTables t := h.shrink (.of_within k m)

end

/-- What an attempt keeps is what a change of other parts, a release and a reservation in a room found keep. -/
theorem attemptSteps_keeps {P : State → Prop} {may : Bool} {spoken : Spoken} {broken : Spoken → State → Line → State}
    (hother : ∀ parts s t, Part.srt ∉ parts → Within parts s t → P s → P t)
    (hrelease : ∀ s d id, P s → P (releaseEntry s d id))
    (hreserve : ∀ s d r t v l, P s → ownRoom may spoken s d r = some (t, v) →
      P (reserveOwn (settleVictim (broken (spokenOwn d)) t v) l d r)) (n : Nat) :
    ∀ s l r, P s → P (attemptSteps may spoken broken n s l r) := by
  induction n with
  | zero => exact fun s l r h => hother _ _ _ (by decide) (within_enterWaiting s l r) h
  | succ n ih =>
    intro s l r h
    unfold attemptSteps
    split
    · exact hother _ _ _ (by decide) (within_enterWaiting s l r) h
    · split
      · exact ih _ _ _ h
      · next d _ _ t v hroom =>
        have hreserved := hreserve s d r t v l h hroom
        dsimp only
        split
        · exact hother [.ports, .node, .tiu, .lines] _ _ (by decide)
            (((within_offerEffect _ _ _).seq (within_setRecord _ _ _) : Within [.ports, .node, .tiu, .lines] _ _).seq
              (within_countLine _ _ _)) hreserved
        · exact ih _ _ _ (hrelease _ _ _ (hother _ _ _ (by decide) (within_offerEffect _ _ _) hreserved))

theorem not_tableTaken_iff {n : Nat} {q : List SrtEntry} : (!tableTaken n q) = true ↔ q.length + n < 8 := by
  rw [tableTaken, Bool.not_eq_true', decide_eq_false_iff_not, Nat.not_le]
  rfl

theorem ownRoom_plain {spoken : Spoken} {s t : State} {d : Side} {r : CallRecord} {v : Option Line}
    (h : ownRoom false spoken s d r = some (t, v)) :
    t = s ∧ v = none ∧ (s.table d).length + spoken d < 8 := by
  unfold ownRoom at h
  split at h
  · next hroom =>
    cases h
    exact ⟨rfl, rfl, not_tableTaken_iff.mp hroom⟩
  · simp at h

/-- R82, R92: an own reservation finds its place, or makes it by a preemption. -/
theorem ownRoom_place {may : Bool} {s t : State} {d : Side} {r : CallRecord} {v : Option Line} (hs : BoundedTables s)
    (h : ownRoom may unspoken s d r = some (t, v)) : BoundedTables t ∧ (t.table d).length < 8 := by
  unfold ownRoom at h
  split at h
  · next hroom =>
    cases h
    exact ⟨hs, not_tableTaken_iff.mp hroom⟩
  · split at h
    · split at h
      · next e hyoungest =>
        cases h
        exact ⟨hs.shrink (shrink_preempted _ _ _), Nat.lt_of_lt_of_le (length_preemptEntry_lt hyoungest) (hs d)⟩
      · cases h
    · cases h

theorem table_reserveOwn (s : State) (l : Line) (d x : Side) (r : CallRecord) :
    (reserveOwn s l d r).table x = if x = d then s.table d ++ [originEntry (nextIdentity s l) r.grade] else s.table x := by
  have h : (reserveOwn s l d r).table x = (s.setTable d (s.table d ++ [originEntry (nextIdentity s l) r.grade])).table x :=
    table_of_within (within_takeSerial _ _ _) (by decide) x
  rw [h, table_setTable]

/-- R83, R184: an attempt at a gateway reserves no side. -/
theorem officeAttempt_parts (s : State) (l : Line) (r : CallRecord) :
    Within [.node, .lines, .ccu, .gw] s (officeAttempt s l r) := by
  have hserial : Within [.node, .lines, .ccu, .gw] s (countAttempt (takeSerial s l r) l) :=
    (within_takeSerial _ _ _).seq (within_countLine _ _ _)
  have hrefused (t : State) : Within [.node, .lines, .ccu, .gw] t (channelRefusal t) := by
    unfold channelRefusal
    dsimp only
    split
    · exact (within_countCcu _ _).seq (within_countNode _ _)
    · exact (within_countCcu _ _).widen
  unfold officeAttempt
  dsimp only
  split
  · refine hserial.trans ?_
    unfold grantChannel
    exact ((((within_setChannel _ _ _).seq (within_officePush _ _) : Within [.node, .lines, .ccu, .gw] _ _).seq
      (within_countGw _ _) : Within [.node, .lines, .ccu, .gw] _ _).seq (within_setLine _ _ _) :
      Within [.node, .lines, .ccu, .gw] _ _).seq (within_countLine _ _ _)
  · exact hserial.trans ((hrefused _).trans (within_enterWaiting _ _ _).widen)

theorem grow_attemptPlain (spoken : Spoken) (s : State) (l : Line) (r : CallRecord) :
    TablesGrow spoken s (attemptPlain spoken s l r) := by
  unfold attemptPlain
  split
  · exact (TablesShrink.of_within (officeAttempt_parts s l r) (by decide)).grow
  · refine attemptSteps_keeps (P := TablesGrow spoken s) (fun _ _ _ hm hw h => h.trans (TablesShrink.of_within hw hm).grow)
      (fun _ _ _ h => h.trans (shrink_releaseEntry _ _ _).grow) ?_ 3 s l r (fun d => .inl (List.Sublist.refl _))
    intro x d r t v l h hroom
    obtain ⟨rfl, rfl, hplace⟩ := ownRoom_plain hroom
    refine h.trans (fun y => ?_)
    change ((reserveOwn t l d r).table y).Sublist _ ∨ ((reserveOwn t l d r).table y).length + spoken y ≤ 8
    rw [table_reserveOwn]
    split
    · next hy =>
      subst hy
      exact .inr (by rw [List.length_append, List.length_singleton]; omega)
    · exact .inl (List.Sublist.refl _)

theorem grow_preemptedRecord (spoken : Spoken) (s : State) (l : Line) :
    TablesGrow spoken s (preemptedRecord spoken s l) := by
  have hstay : TablesGrow spoken s s := fun d => .inl (List.Sublist.refl _)
  unfold preemptedRecord breakRecord
  split
  · split
    · exact ((shrink_releaseOwn _ _).trans (.of_within (within_setLine _ _ _) (by decide))).grow.trans
        (grow_attemptPlain _ _ _ _)
    · exact hstay
  · exact hstay

theorem grow_settleVictim (spoken : Spoken) (s : State) (v : Option Line) :
    TablesGrow spoken s (settleVictim (preemptedRecord spoken) s v) := by
  unfold settleVictim
  split
  · exact grow_preemptedRecord _ _ _
  · exact fun d => .inl (List.Sublist.refl _)

theorem length_lt_of_grow {spoken : Spoken} {s t : State} {d : Side} (h : (s.table d).length < 8) (k : TablesGrow spoken s t)
    (hspoken : spoken d = 1) : (t.table d).length < 8 := by
  rcases k d with hsub | hroom
  · exact Nat.lt_of_le_of_lt hsub.length_le h
  · omega

theorem bounded_reserveOwn {s : State} {l : Line} {d : Side} {r : CallRecord} (h : BoundedTables s)
    (hplace : (s.table d).length < 8) : BoundedTables (reserveOwn s l d r) := by
  intro x
  rw [table_reserveOwn]
  split
  · rw [List.length_append, List.length_singleton]; omega
  · exact h x

section
variable {s : State}

theorem bounded_attempt (l : Line) (r : CallRecord) (h : BoundedTables s) : BoundedTables (attempt s l r) := by
  unfold attempt
  split
  · exact h.of_within (officeAttempt_parts s l r) (by decide)
  · refine attemptSteps_keeps (P := BoundedTables) (fun _ _ _ hm hw h => h.of_within hw hm)
      (fun _ _ _ h => h.shrink (shrink_releaseEntry _ _ _)) ?_ 3 s l r h
    intro x d r t v l h hroom
    obtain ⟨ht, hplace⟩ := ownRoom_place h hroom
    have hgrow := grow_settleVictim (spokenOwn d) t v
    exact bounded_reserveOwn (ht.grow hgrow) (length_lt_of_grow hplace hgrow (if_pos rfl))

theorem bounded_recordBroken (l : Line) (h : BoundedTables s) : BoundedTables (recordBroken s l) := by
  unfold recordBroken breakRecord
  split
  · split
    · exact bounded_attempt _ _ ((h.shrink (shrink_releaseOwn _ _)).of_within (within_setLine _ _ _) (by decide))
    · exact h
  · exact h

theorem bounded_recordRefused (l : Line) (h : BoundedTables s) : BoundedTables (recordRefused s l) := by
  unfold recordRefused
  split
  · exact bounded_attempt _ _ (h.shrink (shrink_releaseOwn _ _))
  · exact h

theorem bounded_recordReleased (l : Line) (h : BoundedTables s) : BoundedTables (recordReleased s l) := by
  unfold recordReleased
  split
  · exact (h.shrink (shrink_releaseOwn _ _)).of_within (within_setLine _ _ _) (by decide)
  · exact h

/-! ## Entries changed in place -/

theorem bounded_setTable {d : Side} {q : List SrtEntry} (h : BoundedTables s) (hq : q.length ≤ 8) :
    BoundedTables (s.setTable d q) := by
  intro x
  rw [table_setTable]
  split
  · exact hq
  · exact h x

theorem bounded_changeCall (d : Side) (id : Identity) (f : SrtEntry → SrtEntry) (h : BoundedTables s) :
    BoundedTables (s.setTable d (changeCall (s.table d) id f)) :=
  bounded_setTable h (by rw [changeCall, List.length_map]; exact h d)

theorem bounded_changePath (id : Identity) (f : SrtEntry → SrtEntry) (h : BoundedTables s) :
    BoundedTables (changePath s id f) := by
  unfold changePath
  split
  · exact h
  · intro x
    rw [changeBoth, table_setTable, changeCall, changeCall, table_setTable]
    cases x with
    | up => rw [if_neg (by decide), if_pos rfl, List.length_map]; exact h .up
    | down => rw [if_pos rfl, List.length_map]; exact h .down

theorem bounded_releasePath (id : Identity) (h : BoundedTables s) : BoundedTables (releasePath s id) := by
  unfold releasePath
  split
  · exact h
  · exact h.shrink (shrink_releaseBoth _ _)

/-! ## CALL cells -/

theorem bounded_takeAtOrigin (a : Side) (c : Cell) (h : BoundedTables s) : BoundedTables (takeAtOrigin s a c) := by
  have hstale : BoundedTables (takeStale s a c) := by
    have hanswer : Within [.ports, .node, .tiu, .ccu, .lines] s (answerStale s a c) := by
      unfold answerStale
      dsimp only
      split
      · exact Within.refl _ _
      · exact ((within_offerControl _ _ _).seq (within_setLine _ _ _) :
          Within [.ports, .node, .tiu, .ccu, .lines] _ _).seq (within_countLine _ _ _)
    unfold takeStale
    split
    · exact h.of_within hanswer (by decide)
    · exact h.of_within hanswer (by decide)
    · exact h
  unfold takeAtOrigin
  dsimp only
  split
  · split
    · unfold takeSeeking
      split
      · exact (bounded_changeCall _ _ _ h).of_within
          ((within_setLine _ _ _).trans (within_countLine _ _ _)) (by decide)
      · exact bounded_recordRefused _ h
      · exact bounded_recordBroken _ h
      · exact bounded_recordReleased _ h
      · exact h
    · unfold takeConnected
      split
      · exact (bounded_changeCall _ _ _ h).of_within (within_playoutPush _ _ _) (by decide)
      · exact bounded_recordBroken _ h
      · exact bounded_recordReleased _ h
      · exact h
    · exact hstale
  · exact hstale

theorem tableFull_iff {q : List SrtEntry} : tableFull q = true ↔ 8 ≤ q.length := by
  rw [tableFull, decide_eq_true_eq]
  rfl

theorem table_reservePath (a x : Side) (id : Identity) (g : Grade) :
    ((reservePath s a id g).table x).length = (s.table x).length + 1 := by
  unfold reservePath
  dsimp only
  rw [table_setTable]
  cases a <;> cases x <;> simp [table_setTable, otherSide]

/-- R92: a table that can yield has a place after its yield, and no table grows into the places of the setup. -/
theorem length_yieldTable_lt {d : Side} (h : (s.table d).length ≤ 8) (hyield : canYield (s.table d) = true) :
    ((yieldTable s d).table d).length < 8 := by
  unfold yieldTable
  split
  · next hfull =>
    split
    · next e hyoungest =>
      exact length_lt_of_grow (Nat.lt_of_lt_of_le (length_preemptEntry_lt hyoungest) h)
        (grow_settleVictim spokenPath _ _) rfl
    · next hnone => simp [canYield, hfull, hnone] at hyield
  · next hfull => exact Nat.lt_of_not_le (fun hle => hfull (tableFull_iff.mpr hle))

theorem grow_yieldTable (d : Side) : TablesGrow spokenPath s (yieldTable s d) := by
  have hstay : TablesGrow spokenPath s s := fun d => .inl (List.Sublist.refl _)
  unfold yieldTable
  split
  · split
    · exact (shrink_preempted _ _ _).grow.trans (grow_settleVictim _ _ _)
    · exact hstay
  · exact hstay

/-- R92: what the yield of one table leaves of the other can yield as before: it is as it was, or has a place. -/
theorem canYield_of_grow {t : State} {d : Side} (h : (s.table d).length ≤ 8) (hyield : canYield (s.table d) = true)
    (k : TablesGrow spokenPath s t) : canYield (t.table d) = true := by
  by_cases hfull : tableFull (t.table d) = true
  · have hlen := tableFull_iff.mp hfull
    rcases k d with hsub | hroom
    · rw [hsub.eq_of_length_le (Nat.le_trans h hlen)]
      exact hyield
    · have : spokenPath d = 1 := rfl
      omega
  · simp [canYield, hfull]

theorem bounded_preemptAndReserve {a : Side} (id : Identity) (g : Grade) (h : BoundedTables s)
    (ha : canYield (s.table a) = true) (hb : canYield (s.table (otherSide a)) = true) :
    BoundedTables (preemptAndReserve s a id g) := by
  have hgrow := grow_yieldTable (s := s) (otherSide a)
  have hfirst : ((yieldTable s (otherSide a)).table (otherSide a)).length < 8 := length_yieldTable_lt (h _) hb
  have hbounded : BoundedTables (yieldTable s (otherSide a)) := h.grow hgrow
  have hgrow' := grow_yieldTable (s := yieldTable s (otherSide a)) a
  have hsecond := length_yieldTable_lt (hbounded a) (canYield_of_grow (h a) ha hgrow)
  have hfirst' := length_lt_of_grow hfirst hgrow' rfl
  intro x
  rw [preemptAndReserve, table_reservePath]
  have hcases : x = a ∨ x = otherSide a := by cases x <;> cases a <;> decide
  rcases hcases with rfl | rfl
  · exact hsecond
  · exact hfirst'

theorem setupAnswer_reserve {a : Side} {id : Identity} {g : Grade} (h : setupAnswer s a id g = .reserve) :
    (s.table a).length < 8 ∧ (s.table (otherSide a)).length < 8 := by
  unfold setupAnswer at h
  dsimp only at h
  split at h
  · cases h
  · split at h
    · cases h
    · split at h
      · split at h
        · cases h
        · cases h
      · next hroom =>
        rw [Bool.or_eq_true, tableFull_iff, tableFull_iff] at hroom
        omega

theorem setupAnswer_preempt {a : Side} {id : Identity} {g : Grade} (h : setupAnswer s a id g = .preempt) :
    canYield (s.table a) = true ∧ canYield (s.table (otherSide a)) = true := by
  unfold setupAnswer at h
  dsimp only at h
  split at h
  · cases h
  · split at h
    · cases h
    · split at h
      · split at h
        · next hyield =>
          rw [Bool.and_eq_true, Bool.and_eq_true] at hyield
          exact ⟨hyield.1.2, hyield.2⟩
        · cases h
      · cases h

theorem carryOn_parts (s : State) (a : Side) (c : Cell) : Within passParts s (carryOn s a c) := by
  unfold carryOn
  split
  · exact (within_withInHand s 0).seq (within_countNode _ _)
  · exact within_passOn _ _ _

theorem lostAccept_parts (s : State) (a : Side) (id : Identity) :
    Within (.inHand :: .freeUses :: controlParts) s (lostAccept s a id) := by
  unfold lostAccept
  dsimp only
  exact ((within_withTimes s 0 _).seq (within_makeBroken _ _ _ _ _ _) :
    Within (.inHand :: .freeUses :: controlParts) _ _).seq (within_makeBroken _ _ _ _ _ _)

theorem bounded_takeAtPath (a : Side) (c : Cell) (h : BoundedTables s) : BoundedTables (takeAtPath s a c) := by
  have hon {t : State} (ht : BoundedTables t) : BoundedTables (carryOn t a c) := ht.of_within (carryOn_parts _ _ _) (by decide)
  unfold takeAtPath
  split
  · unfold pathSetup
    dsimp only
    split
    · exact h.of_within ((within_withInHand s 0).seq (within_makeRefuse _ _ _ _ _) : Within (.inHand :: controlParts) _ _)
        (by decide)
    · next hanswer =>
      obtain ⟨ha, hb⟩ := setupAnswer_preempt hanswer
      exact hon (bounded_preemptAndReserve _ _ h ha hb)
    · next hanswer =>
      obtain ⟨ha, hb⟩ := setupAnswer_reserve hanswer
      refine hon (fun x => ?_)
      have hcases : x = a ∨ x = otherSide a := by cases x <;> cases a <;> decide
      rw [table_reservePath]
      rcases hcases with rfl | rfl
      · exact ha
      · exact hb
  · unfold pathAccept
    dsimp only
    split
    · exact hon (bounded_changePath _ _ h)
    · exact h.of_within (lostAccept_parts _ _ _) (by decide)
  · unfold pathUpgrade
    dsimp only
    split
    · exact hon (bounded_changePath _ _ h)
    · exact h.of_within ((within_withInHand s 0).seq (within_countCcu _ _) : Within [.inHand, .ccu] _ _) (by decide)
  · exact hon (bounded_changePath _ _ h)
  · exact hon (bounded_releasePath _ h)

theorem shrink_freeChain (s : State) (n : Nat) (id : Identity) : TablesShrink s (freeChain s n id) :=
  (shrink_releaseEntry _ _ _).trans (.of_within (within_setChannel _ _ _) (by decide))

theorem gatewaySetupAnswer_reserve {id : Identity} {g : Grade} (h : gatewaySetupAnswer s id g = .reserve) :
    (s.table s.inner).length < 8 := by
  unfold gatewaySetupAnswer at h
  dsimp only at h
  split at h
  · cases h
  · split at h
    · cases h
    · split at h
      · cases h
      · split at h
        · cases h
        · next hfull => exact Nat.lt_of_not_le (fun hle => hfull (tableFull_iff.mpr hle))

theorem gatewaySetupAnswer_preempt {id : Identity} {g : Grade} (h : gatewaySetupAnswer s id g = .preempt) :
    (youngestBreakdown (s.table s.inner)).isSome = true := by
  unfold gatewaySetupAnswer at h
  dsimp only at h
  split at h
  · cases h
  · split at h
    · cases h
    · split at h
      · next hyoungest =>
        rw [Bool.and_eq_true] at hyoungest
        exact hyoungest.2
      · split at h
        · cases h
        · cases h

theorem shrink_giveNotice (s : State) (c : Cell) : TablesShrink s (giveNotice s c) :=
  .of_within (within_giveNotice s c) (by decide)

/-- R181: a chain call preempted at the gateway leaves the inner table. -/
theorem shrink_preemptChain (s : State) (e : SrtEntry) :
    TablesShrink (releaseEntry s s.inner e.identity) (preemptChain s e) := by
  have counted (f : CcuCounts → CcuCounts) :
      TablesShrink (releaseEntry s s.inner e.identity) (releaseEntry (s.countCcu f) s.inner e.identity) :=
    fun d => (show (releaseEntry (s.countCcu f) s.inner e.identity).table d =
      (releaseEntry s s.inner e.identity).table d from rfl) ▸ .refl _
  have freed (f : CcuCounts → CcuCounts) (n : Nat) :
      TablesShrink (releaseEntry (s.countCcu f) s.inner e.identity) (freeChain (s.countCcu f) n e.identity) :=
    .of_within (within_setChannel _ n .free) (by decide)
  unfold preemptChain
  split
  · next n _ =>
    exact (((counted _).trans (freed _ n)).trans (shrink_makeBroken _ _ _ _ _ _)).trans (shrink_giveNotice _ _)
  · exact (counted _).trans (shrink_makeBroken _ _ _ _ _ _)

/-- What an accepted chain call changes once its entry stands. -/
theorem acceptedCall_parts (t : State) (d : Side) (n : Nat) (x : OfficeChannel) (a c : Cell)
    (f : GatewayCounts → GatewayCounts) : Within (.inHand :: .gw :: controlParts) t
      ((officePush { offerControl (setChannel t n x) d a with inHand := 0 } c).countGw f) := by
  have hoffer : Within (.inHand :: .gw :: controlParts) t (offerControl (setChannel t n x) d a) :=
    (within_setChannel t n x).seq (within_offerControl (setChannel t n x) d a)
  have hhand : Within (.inHand :: .gw :: controlParts) t { offerControl (setChannel t n x) d a with inHand := 0 } :=
    hoffer.seq (within_withInHand (offerControl (setChannel t n x) d a) 0)
  have hpush : Within (.inHand :: .gw :: controlParts) t
      (officePush { offerControl (setChannel t n x) d a with inHand := 0 } c) :=
    hhand.seq (within_officePush { offerControl (setChannel t n x) d a with inHand := 0 } c)
  exact hpush.seq (within_countGw _ f)

theorem bounded_gatewayAccept (c : Cell) (id : Identity) (g : Grade) (h : BoundedTables s)
    (hplace : (s.table s.inner).length < 8) : BoundedTables (gatewayAccept s c id g) := by
  unfold gatewayAccept
  split
  · next n _ =>
    dsimp only
    have hentry (e : SrtEntry) : BoundedTables (s.setTable s.inner (s.table s.inner ++ [e])) :=
      bounded_setTable h (by rw [List.length_append, List.length_singleton]; exact hplace)
    exact (hentry _).of_within (acceptedCall_parts (s.setTable s.inner (s.table s.inner ++ [_])) s.inner n _ _ _ _)
      (by decide)
  · exact h

theorem bounded_takeAtGateway (c : Cell) (h : BoundedTables s) : BoundedTables (takeAtGateway s c) := by
  have hrelease : BoundedTables (gatewayRelease s c) := by
    unfold gatewayRelease
    dsimp only
    split
    · split
      · exact (h.shrink (shrink_freeChain _ _ _)).of_within (within_passNotice _ _) (by decide)
      · exact h
    · exact h
  unfold takeAtGateway
  split
  · unfold gatewaySetup
    dsimp only
    split
    · exact h.of_within (within_makeRefuse _ _ _ _ _) (by decide)
    · next hanswer =>
      obtain ⟨e, hyoungest⟩ := Option.isSome_iff_exists.mp (gatewaySetupAnswer_preempt hanswer)
      have hshrink := shrink_preemptChain s e
      have hinner : (gatewayPreempt s).inner = s.inner := by
        have hstraps : (preemptChain s e).straps = s.straps := straps_of_within (within_preemptChain s e) (by decide)
        rw [gatewayPreempt, hyoungest, State.inner, State.inner, hstraps]
      rw [gatewayPreempt, hyoungest] at hinner ⊢
      refine bounded_gatewayAccept _ _ _ (h.shrink ((shrink_releaseEntry _ _ _).trans hshrink)) ?_
      rw [hinner]
      exact Nat.lt_of_le_of_lt (hshrink s.inner).length_le
        (Nat.lt_of_lt_of_le (length_releaseEntry_lt (youngestBreakdown_mem hyoungest)) (h _))
    · next hanswer => exact bounded_gatewayAccept _ _ _ h (gatewaySetupAnswer_reserve hanswer)
  · unfold gatewayUpgrade
    dsimp only
    split
    · split
      · exact (bounded_changeCall _ _ _ h).of_within (parts := [.inHand, .gw])
          ((within_setChannel _ _ _).seq (within_passNotice _ _)) (by decide)
      · exact h
    · exact h
  · exact hrelease
  · exact hrelease
  · unfold gatewayVoice
    dsimp only
    split
    · split
      · exact (bounded_changeCall _ _ _ h).of_within (within_passVoice _ _ _ _) (by decide)
      · exact h.of_within (within_playLocal _ _ _ _ _) (by decide)
      · exact h
    · exact h
  · exact h

theorem bounded_takeCall (a : Side) (c : Cell) (h : BoundedTables s) : BoundedTables (takeCall s a c) := by
  unfold takeCall
  split
  · exact bounded_takeAtGateway c h
  · split
    · split
      · exact bounded_takeAtOrigin a c h
      · exact h
    · split
      · exact h
      · exact bounded_takeAtPath a c h

theorem bounded_callArrival (p : Port) (c : Cell) (h : BoundedTables s) : BoundedTables (callArrival s p c) := by
  unfold callArrival
  rcases transitArrival_cases s p c (fun t => takeCall t (t.sideOf p) c) with hdropped | ⟨t, ht, heq⟩
  · exact h.of_within hdropped (by decide)
  · rw [heq]
    exact bounded_takeCall _ c (h.of_within ht (by decide))

/-! ## Port events -/

theorem bounded_breakHeld (d : Side) (e : SrtEntry) (h : BoundedTables s) : BoundedTables (breakHeld d s e) := by
  unfold breakHeld
  split
  · unfold breakEntry
    split
    · exact h.shrink ((shrink_releaseBoth _ _).trans (shrink_makeBroken _ _ _ _ _ _))
    · exact bounded_recordBroken _ (h.shrink (shrink_releaseEntry _ _ _))
    · unfold endChainLost
      dsimp only
      split
      · exact (h.shrink (shrink_releaseEntry _ _ _)).of_within (parts := [.node, .gw])
          ((within_setChannel _ _ _).seq (within_giveNotice _ _)) (by decide)
      · exact h.shrink (shrink_releaseEntry _ _ _)
  · exact h

theorem bounded_breakAll (d : Side) (q : List SrtEntry) :
    ∀ {s : State}, BoundedTables s → BoundedTables (q.foldl (breakHeld d) s) := by
  induction q with
  | nil => exact fun h => h
  | cons e q ih => exact fun h => ih (bounded_breakHeld d e h)

theorem bounded_portDown (p : Port) (h : BoundedTables s) : BoundedTables (portDown s p) := by
  unfold portDown
  dsimp only
  refine BoundedTables.of_within (bounded_breakAll _ _ ?_) (parts := .gw :: dispatchParts)
    ((within_custodyPortDown _ _).seq (within_gatewayPortDown _)) (by decide)
  exact h.of_within (parts := .reach :: dispatchParts)
    (((within_countPort _ _ _).seq (within_flushSide _ _) : Within (.reach :: dispatchParts) _ _).seq
      (within_invalidateEntry _ _)) (by decide)

theorem bounded_loseLock (p : Port) (h : BoundedTables s) : BoundedTables (loseLock s p) := by
  unfold loseLock
  dsimp only
  split
  · exact h
  · exact bounded_portDown p h
  · exact bounded_portDown p h
  · exact bounded_portDown p h
  · exact h
  · exact h

theorem bounded_takeHello (p : Port) (c : CellData) (h : BoundedTables s) : BoundedTables (takeHello s p c) := by
  have hseek {t : State} (n : Neighbour) (ht : BoundedTables t) : BoundedTables (seekHello t p c n) := by
    unfold seekHello
    dsimp only
    split
    · exact ht.of_within ((within_setPort _ _ _).seq (within_portUp _ _ _) : Within (.gw :: dispatchParts) _ _) (by decide)
    · exact ht
  unfold takeHello
  split
  · unfold checkedHello
    dsimp only
    split
    · split
      · exact bounded_portDown p h
      · exact h
    · split
      · unfold serviceHello
        dsimp only
        split
        · exact h
        · exact hseek _ (bounded_portDown p h)
      · exact hseek _ h
  · exact h

/-! ## Phone lines and timers -/

theorem originRelease_parts (s : State) (r : CallRecord) : Within controlParts s (originRelease s r) := by
  unfold originRelease
  split
  · exact within_offerControl _ _ _
  · exact Within.refl _ _

theorem localRelease_parts (s : State) (l : Line) : Within [.node, .gw] s (localRelease s l) := by
  unfold localRelease
  split
  · exact (within_setChannel _ _ _).seq (within_giveNotice _ _)
  · exact Within.refl _ _

theorem bounded_callEnded (l : Line) (h : BoundedTables s) : BoundedTables (callEnded s l) := by
  unfold callEnded
  dsimp only
  split
  · refine BoundedTables.of_within ?_ (within_setLine _ _ _) (by decide)
    unfold onHookRecord
    split
    · split
      · exact h.of_within (localRelease_parts _ _) (by decide)
      · exact (h.of_within (originRelease_parts _ _) (by decide)).shrink (shrink_releaseOwn _ _)
    · exact h
  · exact h

theorem bounded_gradeAccident (l : Line) (h : BoundedTables s) : BoundedTables (gradeAccident s l) := by
  have hlocal (t : State) : Within [.node, .gw] t (upgradeLocal t l) := by
    unfold upgradeLocal
    split
    · dsimp only
      split
      · exact (within_setChannel _ _ _).seq (within_giveNotice _ _)
      · exact within_giveNotice _ _
    · exact Within.refl _ _
  unfold gradeAccident
  split
  · split
    · exact h
    · dsimp only
      split
      · split
        · exact BoundedTables.of_within (s := setRecord s l _) h (hlocal _) (by decide)
        · unfold upgradeChain
          split
          · exact (bounded_changeCall (s := setRecord s l _) _ _ _ h).of_within (within_offerControl _ _ _) (by decide)
          · exact h
      · exact h
  · exact h

theorem bounded_chainWatchExpired (id : Identity) (g : Grade) (h : BoundedTables s) :
    BoundedTables (chainWatchExpired s id g) := by
  have hcount (f : CcuCounts → CcuCounts) : BoundedTables (s.countCcu f) := h
  unfold chainWatchExpired
  dsimp only
  split
  · exact ((hcount _).shrink (shrink_freeChain _ _ _)).of_within (parts := .gw :: controlParts)
      ((within_offerControl _ _ _).seq (within_giveNotice _ _)) (by decide)
  · exact ((hcount _).shrink (shrink_releaseEntry _ _ _)).of_within (within_offerControl _ _ _) (by decide)

theorem bounded_packVoice (l : Line) (r : CallRecord) (samples : List Byte) (h : BoundedTables s) :
    BoundedTables (packVoice s l r samples) := by
  unfold packVoice
  split
  · unfold packChain
    dsimp only
    split
    · exact h.of_within (within_offerEffect _ _ _) (by decide)
    · exact h.of_within (parts := .lines :: offerParts)
        ((within_offerEffect _ _ _).seq (within_countVoiceDropped _ _)) (by decide)
  · split
    · unfold packLocal
      split
      · exact h
      · split
        · exact h
        · exact h
    · exact h

theorem bounded_officeRelease (c : Cell) (h : BoundedTables s) : BoundedTables (officeRelease s c) := by
  unfold officeRelease
  split
  · unfold offerHead
    split
    · refine BoundedTables.shrink (BoundedTables.of_within h (parts := .gw :: offerParts) ?_ (by decide))
        (shrink_freeChain _ _ _)
      exact (within_offerEffect _ _ _).seq (within_popHead _)
    · exact h.of_within (parts := .gw :: offerParts) ((within_offerEffect _ _ _).seq (within_keepHead _)) (by decide)
    · exact h.of_within (parts := .gw :: offerParts) ((within_offerEffect _ _ _).seq (within_keepHead _)) (by decide)
    · exact h.of_within (parts := .gw :: offerParts) ((within_offerEffect _ _ _).seq (within_discardHead _)) (by decide)
    · exact h.of_within (parts := .gw :: offerParts) ((within_offerEffect _ _ _).seq (within_discardHead _)) (by decide)
  · exact bounded_recordReleased (s := setChannel s _ _) _ h
  · exact h

theorem bounded_takeHead (k : OfficeKind) (h : BoundedTables s) : BoundedTables (takeHead s k) := by
  unfold takeHead
  cases k with
  | deliver c => exact h.of_within (within_deliverHead _ _) (by decide)
  | voice c => exact h.of_within (within_officeVoice _ _) (by decide)
  | release c => exact bounded_officeRelease c h
  | reject => exact h

theorem bounded_callBegun (l : Line) (h : BoundedTables s) : BoundedTables (callBegun s l) := by
  unfold callBegun
  dsimp only
  have hattempt (x : PhoneLine) : BoundedTables (attempt (s.setLine l x) l {}) := bounded_attempt l {} h
  exact (hattempt _).of_within (within_raiseIncident (attempt (s.setLine l _) l {})) (by decide)

/-! ## Every command -/

theorem bounded_setPort (p : Port) (u : PortUnit) (h : BoundedTables s) : BoundedTables (s.setPort p u) := h

theorem exec_hello_keeps_boundedTables (p : Port) (c : CellData) (h : BoundedTables s) :
    Leaves BoundedTables (exec (.hello p c) s) := by
  have hreceived (x : Cell) : BoundedTables (receiveCell s p x) := bounded_setPort p _ h
  have htaken (x : Cell) : Leaves BoundedTables (done s (takeHello (takeIn (receiveCell s p x) p) p c)) :=
    .done (P := BoundedTables) (bounded_takeHello p c (bounded_setPort p _ (hreceived x)))
  refine .ite (.next h) (.ite (.next (bounded_setPort p _ (hreceived _))) ?_)
  split
  · exact .next h
  · exact .done (P := BoundedTables) (bounded_takeHello p c (bounded_setPort p _ (hreceived _)))
  · exact .next (bounded_setPort p _ (hreceived _))
  · exact htaken _
  · exact htaken _
  · exact htaken _

theorem exec_keeps_boundedTables (c : Instr) (h : BoundedTables s) : Leaves BoundedTables (exec c s) := by
  have hline (l : Line) (x : PhoneLine) : BoundedTables (s.setLine l x) := h
  have hcount (f : CcuCounts → CcuCounts) : BoundedTables (s.countCcu f) := h
  cases c with
  | resetEnd k =>
    refine .ite (.next h) (.next (BoundedTables.of_within (s := resetValues s k) ?_ (within_startUp _) (by decide)))
    intro d
    cases d with
    | up => exact Nat.zero_le _
    | down => exact Nat.zero_le _
  | lossDebounceExpiry p =>
    refine .ite (.done (P := BoundedTables) ?_) (.next h)
    change BoundedTables (lightLost s p)
    unfold lightLost
    dsimp only
    split
    · exact bounded_portDown p h
    · exact h
  | markerWatchExpiry p => exact .ite (.done (P := BoundedTables) (bounded_loseLock p h)) (.next h)
  | badCheckCell p =>
    refine .ite (.done (P := BoundedTables) ?_) (.next h)
    change BoundedTables (badCell s p)
    unfold badCell
    dsimp only
    split
    · exact bounded_loseLock p h
    · exact h
  | hello p c => exact exec_hello_keeps_boundedTables p c h
  | helloWatchExpiry p =>
    exact .ite (.done (P := BoundedTables) (bounded_portDown p (bounded_setPort p _ h))) (.next h)
  | wakeTimerExpiry p =>
    exact .ite (.done (P := BoundedTables) (bounded_portDown p (bounded_setPort p _ h))) (.next h)
  | callSetup p c => exact .done (P := BoundedTables) (bounded_callArrival p _ h)
  | callAccept p c => exact .done (P := BoundedTables) (bounded_callArrival p _ h)
  | callRefuse p c => exact .done (P := BoundedTables) (bounded_callArrival p _ h)
  | callRelease p c => exact .done (P := BoundedTables) (bounded_callArrival p _ h)
  | callBroken p c => exact .done (P := BoundedTables) (bounded_callArrival p _ h)
  | callUpgrade p c => exact .done (P := BoundedTables) (bounded_callArrival p _ h)
  | voice p c => exact .done (P := BoundedTables) (bounded_callArrival p _ h)
  | offhookDebounceExpiry l =>
    exact .ite (.done (P := BoundedTables) (bounded_callBegun l h)) (.next h)
  | onhookDebounceExpiry l => exact .ite (.done (P := BoundedTables) (bounded_callEnded l h)) (.next h)
  | keyOpen l us =>
    exact .ite (.done (P := BoundedTables) (bounded_gradeAccident l (hline l _))) (.next h)
  | voicePackPeriod l samples =>
    refine .ite ?_ (.next h)
    split
    · exact .done (P := BoundedTables) (bounded_packVoice l _ samples (hline l _))
    · exact .next h
  | setupTimerExpiry l =>
    refine .ite ?_ (.next h)
    split
    · exact .ite (.done (P := BoundedTables) (bounded_recordRefused l (h.of_within (originRelease_parts _ _) (by decide)))) (.next h)
    · exact .next h
  | callRetryTimerExpiry l =>
    refine .ite ?_ (.next h)
    split
    · exact .ite (.done (P := BoundedTables) (bounded_attempt l _ h)) (.next h)
    · exact .next h
  | originVoiceWatchExpiry l =>
    refine .ite ?_ (.next h)
    split
    · next r _ =>
      have hreleased : BoundedTables (originRelease s r) := h.of_within (originRelease_parts s r) (by decide)
      have hcounted (f : CcuCounts → CcuCounts) : BoundedTables ((originRelease s r).countCcu f) := hreleased
      exact .ite (.done (P := BoundedTables) (bounded_recordBroken l (hcounted _))) (.next h)
    · exact .next h
  | pathEntryTimerExpiry id =>
    refine .ite ?_ (.next h)
    split
    · exact .done (P := BoundedTables) (h.shrink (shrink_releaseBoth s id))
    · exact .next h
  | gatewayVoiceWatchExpiry id =>
    refine .ite ?_ (.next h)
    split
    · exact .done (P := BoundedTables) (bounded_chainWatchExpired id _ h)
    · exact .next h
  | localVoiceWatchExpiry l =>
    refine .ite ?_ (.next h)
    split
    · refine .done (P := BoundedTables) (bounded_recordBroken l ?_)
      exact (hcount _).of_within (parts := [.node, .gw]) ((within_setChannel _ _ _).seq (within_giveNotice _ _)) (by decide)
    · exact .next h
  | officeCallRelease =>
    change Leaves _ (execOfficeCallRelease s)
    unfold execOfficeCallRelease
    split
    · exact .done (P := BoundedTables) (bounded_officeRelease _ h)
    · exact .next h
  | officeOfferRetry =>
    change Leaves _ (execOfficeOfferRetry s)
    unfold execOfficeOfferRetry
    split
    · exact .done (P := BoundedTables) (bounded_takeHead _ h)
    · exact .next h
  | _ =>
    intro t ht d
    have hsrt : t.srt = s.srt := same_of_exec ht .srt rfl
    rw [State.table, hsrt]
    exact h d

theorem tick_keeps_boundedTables (h : BoundedTables s) : BoundedTables (tick s) := by
  intro d
  cases hrun : s.running with
  | false => rw [tick_of_stopped hrun]; exact h d
  | true => rw [tick_table hrun, List.length_map]; exact h d

end

end Sys2Proof.Machine
end

section
/-! PROOFS. The store half of the second invariant: only the end of a record's write, or a reset in the middle of it,
lengthens the custody store (R109, R113, R114). -/

set_option Elab.async false

namespace Sys2Proof.Machine

/-! ## Operations that do not lengthen the store -/

/-- The custody store holds at most `n` entries. -/
def StoreWithin (n : Nat) (s : State) : Prop := s.csd.store.length ≤ n

section
variable {n : Nat} {s t : State}

theorem StoreWithin.of_within {parts : List Part} (h : StoreWithin n s) (k : Within parts s t) (m : Part.csd ∉ parts) :
    StoreWithin n t := by
  rw [StoreWithin, show t.csd = s.csd from k .csd m]
  exact h

theorem storeWithin_changeEntry (q : Half) (f : CustodyEntry → CustodyEntry) (h : StoreWithin n s) :
    StoreWithin n (s.changeEntry q f) := by
  have hlength : (s.changeEntry q f).csd.store.length = s.csd.store.length := List.length_map _
  rw [StoreWithin, hlength]
  exact h

theorem storeWithin_offerEffect (d : Side) (c : Cell) (h : StoreWithin n s) : StoreWithin n (offerEffect s d c) :=
  h.of_within (within_offerEffect s d c) (by decide)

theorem storeWithin_directed {e : CustodyEntry} {d : Side} (h : StoreWithin n s) (k : directed s e = some (d, t)) :
    StoreWithin n t := by
  unfold directed at k
  split at k
  · cases k
    exact storeWithin_changeEntry (s := s) _ _ h
  · split at k
    · cases k
      exact h
    · cases k

theorem storeWithin_passSteps (m : Nat) : ∀ {s : State}, StoreWithin n s → StoreWithin n (passSteps m s) := by
  induction m with
  | zero => exact fun h => h
  | succ m ih =>
    intro s h
    unfold passSteps
    split
    · exact h
    · split
      · exact h
      · next e _ =>
        split
        · exact h
        · next d t hdirected =>
          have ht : StoreWithin n t := storeWithin_directed h hdirected
          split
          · exact ih (storeWithin_changeEntry _ _ (storeWithin_offerEffect d (recordCell t e) ht))
          · exact storeWithin_offerEffect d (recordCell t e) ht

theorem storeWithin_dispatchPass (h : StoreWithin n s) : StoreWithin n (dispatchPass s) := by
  unfold dispatchPass
  split
  · exact storeWithin_passSteps _ h
  · exact h

theorem storeWithin_completeRecord (d : Side) (q : Half) (h : StoreWithin n s) : StoreWithin n (completeRecord s d q) := by
  unfold completeRecord
  split
  · exact Nat.le_trans (Nat.le_of_eq (List.length_map _)) h
  · exact h

theorem storeWithin_custodyPortDown (d : Side) (h : StoreWithin n s) : StoreWithin n (custodyPortDown s d) := by
  unfold custodyPortDown
  split
  · refine storeWithin_dispatchPass (Nat.le_trans (Nat.le_of_eq (List.length_map _)) ?_)
    exact h.of_within (within_withdrawAll d (dispatchingTo s.csd.store d) s) (by decide)
  · exact h

theorem storeWithin_reachWithdraw (d : Side) (q : Half) (h : StoreWithin n s) : StoreWithin n (reachWithdraw d s q) := by
  unfold reachWithdraw
  split
  · exact storeWithin_changeEntry _ _ (h.of_within (within_withdraw s d q) (by decide))
  · exact h

theorem storeWithin_reachWithdrawAll (d : Side) (l : List Half) :
    ∀ {s : State}, StoreWithin n s → StoreWithin n (l.foldl (reachWithdraw d) s) := by
  induction l with
  | nil => exact fun h => h
  | cons q l ih => exact fun h => ih (storeWithin_reachWithdraw d q h)

theorem storeWithin_custodyReachLost (d : Side) (h : StoreWithin n s) : StoreWithin n (custodyReachLost s d) := by
  have hwithdrawn : StoreWithin n ((dispatchingTo s.csd.store d).foldl (reachWithdraw d) s) :=
    storeWithin_reachWithdrawAll d _ h
  unfold custodyReachLost
  split
  · dsimp only
    split
    · exact storeWithin_dispatchPass hwithdrawn
    · exact hwithdrawn
  · exact h

theorem storeWithin_removeEntry (e : CustodyEntry) (h : StoreWithin n s) : StoreWithin n (removeEntry s e) := by
  have hwithdrawn (d : Side) : StoreWithin n (withdraw s d e.sequence) :=
    h.of_within (within_withdraw s d e.sequence) (by decide)
  unfold removeEntry
  split
  · exact Nat.le_trans (List.length_filter_le _ _) (hwithdrawn _)
  · exact Nat.le_trans (List.length_filter_le _ _) h

theorem storeWithin_takeAck (q : Half) (h : StoreWithin n s) : StoreWithin n (takeAck s q) := by
  unfold takeAck
  split
  · next e _ =>
    exact storeWithin_dispatchPass
      ((storeWithin_removeEntry e h).of_within (within_evalFlow (removeEntry s e)) (by decide))
  · exact h

theorem storeWithin_consumeAck (c : Cell) (h : StoreWithin n s) : StoreWithin n (consumeAck c s) := by
  unfold consumeAck
  split
  · exact storeWithin_takeAck _ h
  · exact h.of_within (within_countNoConsumer s) (by decide)

/-! ## Ports and reach -/

theorem storeWithin_portUp (b : Bool) (p : Port) (h : StoreWithin n s) : StoreWithin n (portUp b s p) := by
  unfold portUp
  dsimp only
  have hpass (f : PortCounts → PortCounts) (d : Side) : StoreWithin n (dispatchPass (holdCheck (s.countPort p f) d)) :=
    storeWithin_dispatchPass (StoreWithin.of_within (s := s.countPort p f) h (within_holdCheck _ d) (by decide))
  split
  · exact (hpass _ _).of_within (within_gatewayPortUp _) (by decide)
  · exact hpass _ _

theorem storeWithin_invalidateEntry (d : Side) (h : StoreWithin n s) : StoreWithin n (invalidateEntry s d) := by
  have hentry (e : ReachEntry) : StoreWithin n (s.setEntry d e) := h.of_within (within_setEntry s d e) (by decide)
  unfold invalidateEntry
  split
  · exact storeWithin_custodyReachLost d (hentry _)
  · exact h

theorem storeWithin_portDown (p : Port) (h : StoreWithin n s) : StoreWithin n (portDown s p) := by
  unfold portDown
  dsimp only
  have hflushed (f : PortCounts → PortCounts) (d : Side) : StoreWithin n (flushSide (s.countPort p f) d) :=
    StoreWithin.of_within (s := s.countPort p f) h (within_flushSide _ d) (by decide)
  exact (storeWithin_custodyPortDown _
    ((storeWithin_invalidateEntry _ (hflushed _ _)).of_within (within_circuitsPortDown _ _) (by decide))).of_within
      (within_gatewayPortDown _) (by decide)

theorem storeWithin_loseLock (p : Port) (h : StoreWithin n s) : StoreWithin n (loseLock s p) := by
  unfold loseLock
  dsimp only
  split
  · exact h
  · exact storeWithin_portDown p h
  · exact storeWithin_portDown p h
  · exact storeWithin_portDown p h
  · exact h
  · exact h

theorem storeWithin_seekHello (p : Port) (c : CellData) (m : Neighbour) (h : StoreWithin n s) :
    StoreWithin n (seekHello s p c m) := by
  unfold seekHello
  dsimp only
  split
  · exact storeWithin_portUp true p h
  · exact h

theorem storeWithin_takeHello (p : Port) (c : CellData) (h : StoreWithin n s) : StoreWithin n (takeHello s p c) := by
  unfold takeHello
  split
  · unfold checkedHello
    dsimp only
    split
    · split
      · exact storeWithin_portDown p h
      · exact h
    · split
      · unfold serviceHello
        dsimp only
        split
        · exact h
        · exact storeWithin_seekHello p c _ (storeWithin_portDown p h)
      · exact storeWithin_seekHello p c _ h
  · exact h

theorem storeWithin_takeWakeBurst (p : Port) (h : StoreWithin n s) : StoreWithin n (takeWakeBurst s p) := by
  unfold takeWakeBurst
  dsimp only
  split
  · exact h
  · exact storeWithin_portUp false p h
  · exact h
  · exact h

theorem storeWithin_takeWakeAck (p : Port) (h : StoreWithin n s) : StoreWithin n (takeWakeAck s p) := by
  unfold takeWakeAck
  split
  · exact storeWithin_portUp false p h
  · exact h

theorem storeWithin_refreshEntry (d : Side) (c : Cell) (h : StoreWithin n s) : StoreWithin n (refreshEntry s d c) := by
  have hentry (e : ReachEntry) : StoreWithin n (s.setEntry d e) := h.of_within (within_setEntry s d e) (by decide)
  unfold refreshEntry
  split
  · exact hentry _
  · exact storeWithin_dispatchPass (hentry _)

theorem storeWithin_takeBeacon (d : Side) (c : Cell) (h : StoreWithin n s) : StoreWithin n (takeBeacon s d c) := by
  have hcounted (f : ReachCounts → ReachCounts) : StoreWithin n (State.countEntry { s with inHand := 0 } d f) :=
    StoreWithin.of_within (s := { s with inHand := 0 }) h (within_countEntry _ d f) (by decide)
  unfold takeBeacon
  split
  · exact hcounted _
  · split
    · unfold retireOrHandOn
      split
      · exact storeWithin_refreshEntry d c h
      · exact (storeWithin_refreshEntry d c h).of_within (within_handOnBeacon _ _ c) (by decide)
    · exact hcounted _

theorem storeWithin_lapseEntry (d : Side) (h : StoreWithin n s) : StoreWithin n (lapseEntry s d) := by
  have hentry (e : ReachEntry) : StoreWithin n (s.setEntry d e) := h.of_within (within_setEntry s d e) (by decide)
  exact storeWithin_custodyReachLost d (hentry _)

theorem storeWithin_slotEnded (p : Port) (x : Sending) (h : StoreWithin n s) : StoreWithin n (slotEnded s p x) := by
  have hport (u : PortUnit) : StoreWithin n (s.setPort p u) := h
  unfold slotEnded afterSlot
  dsimp only
  split
  · split
    · exact storeWithin_completeRecord _ _ (hport _)
    · exact h
  · exact (hport _).of_within (within_resumeCheck _ _) (by decide)
  · exact h

theorem storeWithin_arrive (p : Port) (c : Cell) {act : State → State}
    (hact : ∀ t, StoreWithin n t → StoreWithin n (act t)) (h : StoreWithin n s) : StoreWithin n (arrive s p c act) := by
  have hreceived : StoreWithin n (receiveCell s p c) := h
  unfold arrive
  split
  · exact h
  · dsimp only
    split
    · exact h
    · split
      · exact hact (takeIn (receiveCell s p c) p) h
      · exact h

theorem storeWithin_admitCell (c : Cell) {act : State → State} (hact : ∀ t, StoreWithin n t → StoreWithin n (act t))
    (h : StoreWithin n s) : StoreWithin n (admitCell s c act) := by
  unfold admitCell
  split
  · exact h
  · split
    · exact h
    · exact hact { s with inHand := 1 } h

end

/-! ## Commands that leave the gantry line alone -/

section
variable {n : Nat} {s : State}

theorem exec_keeps_storeWithin (c : Instr) (hgli : (touches c).contains .gli = false) (h : StoreWithin n s) :
    Leaves (StoreWithin n) (exec c s) := by
  cases c with
  | lossDebounceExpiry p =>
    refine .ite (.done (P := StoreWithin n) ?_) (.next h)
    change StoreWithin n (lightLost s p)
    unfold lightLost
    dsimp only
    split
    · exact storeWithin_portDown p h
    · exact h
  | markerWatchExpiry p => exact .ite (.done (P := StoreWithin n) (storeWithin_loseLock p h)) (.next h)
  | badCheckCell p =>
    refine .ite (.done (P := StoreWithin n) ?_) (.next h)
    change StoreWithin n (badCell s p)
    unfold badCell
    dsimp only
    split
    · exact storeWithin_loseLock p h
    · exact h
  | hello p c =>
    refine .ite (.next h) (.ite (.next h) ?_)
    split
    · exact .next h
    · exact .done (P := StoreWithin n) (storeWithin_takeHello (s := goodCell (receiveCell s p _) p) p c h)
    · exact .next h
    · exact .done (P := StoreWithin n) (storeWithin_takeHello (s := takeIn (receiveCell s p _) p) p c h)
    · exact .done (P := StoreWithin n) (storeWithin_takeHello (s := takeIn (receiveCell s p _) p) p c h)
    · exact .done (P := StoreWithin n) (storeWithin_takeHello (s := takeIn (receiveCell s p _) p) p c h)
  | helloWatchExpiry p =>
    exact .ite (.done (P := StoreWithin n) (storeWithin_portDown (s := s.setPort p _) p h)) (.next h)
  | wakeTimerExpiry p =>
    exact .ite (.done (P := StoreWithin n) (storeWithin_portDown (s := s.setPort p _) p h)) (.next h)
  | wakeBurst p => exact .ite (.done (P := StoreWithin n) (storeWithin_takeWakeBurst p h)) (.next h)
  | wakeAck p c =>
    refine .done (P := StoreWithin n) ?_
    change StoreWithin n (arrive s p (cellOf .wakeAck c) (fun t => takeWakeAck t p))
    exact storeWithin_arrive p _ (fun t ht => storeWithin_takeWakeAck p ht) h
  | beacon p c =>
    refine .done (P := StoreWithin n) ?_
    change StoreWithin n (arrive s p (cellOf .beacon c)
      (fun t => admitCell t (cellOf .beacon c) (fun u => takeBeacon u (u.sideOf p) (cellOf .beacon c))))
    exact storeWithin_arrive p _
      (fun t ht => storeWithin_admitCell _ (fun u hu => storeWithin_takeBeacon (u.sideOf p) _ hu) ht) h
  | reachLapse d => exact .ite (.done (P := StoreWithin n) (storeWithin_lapseEntry d h)) (.next h)
  | transmissionComplete p =>
    refine .ite ?_ (.next h)
    split
    · next x _ => exact .done (P := StoreWithin n) (storeWithin_slotEnded p x h)
    · exact .next h
  | dispatchTimerExpiry =>
    have hpass (x : State) (hx : StoreWithin n x) : StoreWithin n (dispatchPass x) := storeWithin_dispatchPass hx
    exact .ite (.done (P := StoreWithin n) (hpass { s with csd := { s.csd with dispatchTimer := none } } h)) (.next h)
  | custodyRetryExpiry q =>
    refine .ite ?_ (.next h)
    split
    · exact .ite (.done (P := StoreWithin n) (storeWithin_dispatchPass (storeWithin_changeEntry q queueEntry h))) (.next h)
    · exact .next h
  | resetAssert => cases hgli
  | mainSupplyFall => cases hgli
  | resetEnd k => cases hgli
  | tollAck p c => cases hgli
  | storeWriteComplete => cases hgli
  | counterClear => cases hgli
  | ignoredWriteByte b => cases hgli
  | _ =>
    intro t ht
    rw [StoreWithin, show t.csd = s.csd from same_of_exec ht .csd rfl]
    exact h

end

/-! ## The gantry line -/

section
variable {s t : State}

/-- The store is no longer than before and the assembler is where it was. -/
theorem storeBounded_of_kept (h : storeBounded s) (hstore : StoreWithin s.csd.store.length t)
    (hassembler : t.gli.assembler = s.gli.assembler) : storeBounded t := by
  obtain ⟨hcapacity, hwriting⟩ := h
  refine ⟨Nat.le_trans hstore hcapacity, fun body hbody => Nat.lt_of_le_of_lt hstore (hwriting body ?_)⟩
  rw [← hassembler]
  exact hbody

theorem storeBounded_of_same (h : storeBounded s) (hcsd : t.csd = s.csd) (hgli : t.gli = s.gli) : storeBounded t := by
  rw [storeBounded, hcsd, hgli]
  exact h

/-- Outside WRITE the capacity alone is asked. -/
theorem storeBounded_of_idle (hstore : StoreWithin 256 t) (hidle : ∀ body, t.gli.assembler ≠ .write body) :
    storeBounded t :=
  ⟨hstore, fun body hbody => absurd hbody (hidle body)⟩

theorem assembler_evalFlow (s : State) : (evalFlow s).gli.assembler = s.gli.assembler := by
  unfold evalFlow
  split
  · rfl
  · split
    · rfl
    · rfl

theorem gli_dispatchPass (s : State) : (dispatchPass s).gli = s.gli := within_dispatchPass s .gli (by decide)

theorem assembler_consumeAck (c : Cell) (s : State) : (consumeAck c s).gli.assembler = s.gli.assembler := by
  unfold consumeAck takeAck
  split
  · split
    · next e _ =>
      rw [gli_dispatchPass, assembler_evalFlow, show (removeEntry s e).gli = s.gli from
        within_removeEntry s e .gli (by decide)]
    · rfl
  · rw [show (countNoConsumer s).gli = s.gli from within_countNoConsumer s .gli (by decide)]

theorem assembler_answerReader (g : Gli) (a : Answer) : (answerReader g a).assembler = g.assembler := by
  unfold answerReader
  split
  · rfl
  · rfl

theorem assembler_fifoPush (g : Gli) (c : FifoChar) : (fifoPush g c).assembler = g.assembler := by
  unfold fifoPush
  split
  · rfl
  · rfl

theorem assembler_takeCharacter (g : Gli) (value : Byte) (parityBit stopBit : Bool) :
    (takeCharacter g value parityBit stopBit).assembler = g.assembler := by
  unfold takeCharacter
  split
  · exact assembler_fifoPush _ _
  · exact assembler_fifoPush _ _

theorem assembler_sendControl (g : Gli) : (sendControl g).assembler = g.assembler := by
  unfold sendControl
  split
  · rfl
  · unfold placeHeld
    split
    · exact assembler_answerReader _ _
    · rfl
  · rfl

/-- R109: the assembler enters WRITE where it was there, or where the store has room. -/
theorem assemblerTakes_write {s : State} {g : Gli} {c : FifoChar} {body : List Byte}
    (h : (assemblerTakes s g c).assembler = .write body) :
    g.assembler = .write body ∨ s.csd.store.length < 256 := by
  unfold assemblerTakes at h
  split at h
  · next hhunt =>
    split at h
    · cases h
    · exact .inl h
  · unfold assembleCharacter at h
    split at h
    · cases h
    · split at h
      · cases h
      · split at h
        · cases h
        · unfold judgeRecord at h
          split at h
          · rw [judgeDamaged, assembler_answerReader] at h
            cases h
          · unfold offerStore at h
            split at h
            · rw [assembler_answerReader] at h
              cases h
            · next hroom => exact .inr (Nat.lt_of_not_le hroom)
  · exact .inl h

theorem storeBounded_takeCharacter (c : FifoChar) (rest : List FifoChar) (h : storeBounded s) :
    storeBounded { s with gli := assemblerTakes s { s.gli with fifo := rest } c } := by
  obtain ⟨hcapacity, hwriting⟩ := h
  refine ⟨hcapacity, fun body hbody => ?_⟩
  rcases assemblerTakes_write hbody with hwrite | hroom
  · exact hwriting body hwrite
  · exact hroom

theorem storeRecord_length (c : Csd) (body : List Byte) :
    (storeRecord c body).store.length = c.store.length + 1 := by
  rw [storeRecord, List.length_append, List.length_singleton]

/-- R114: the record written takes the room kept for it. -/
theorem storeBounded_writeCompleted {body : List Byte} (h : storeBounded s) (hwrite : s.gli.assembler = .write body) :
    storeBounded (writeCompleted s body) := by
  obtain ⟨_, hwriting⟩ := h
  have hstored (f : CsdCounts → CsdCounts) :
      StoreWithin 256 (State.countCsd { s with csd := storeRecord s.csd body } f) := by
    rw [StoreWithin, show (State.countCsd { s with csd := storeRecord s.csd body } f).csd.store.length
      = s.csd.store.length + 1 from storeRecord_length _ _]
    exact hwriting body hwrite
  unfold writeCompleted
  dsimp only
  refine storeBounded_of_idle (storeWithin_dispatchPass ((hstored _).of_within (within_evalFlow _) (by decide)))
    (fun b hb => ?_)
  change (answerReader _ _).assembler = _ at hb
  rw [assembler_answerReader] at hb
  cases hb

/-- R15: a reset in the middle of a write stores the record or drops it, and ends the write. -/
theorem storeBounded_intoReset (h : storeBounded s) : storeBounded (intoReset s) := by
  have hoff {t : State} (ht : storeBounded t) : storeBounded (transmittersOff t) := ht
  unfold intoReset
  split
  · apply hoff
    unfold interruptWrite
    split
    · next body hwrite =>
      obtain ⟨hcapacity, hwriting⟩ := h
      refine storeBounded_of_idle ?_ (fun b hb => by cases hb)
      change List.length (if Config.freeBool s.freeUses then storeRecord s.csd body else s.csd).store ≤ 256
      split
      · rw [storeRecord_length]
        exact hwriting body hwrite
      · exact hcapacity
    · exact h
  · exact h

theorem storeWithin_storeAfterReset (p : Power) (c : Csd) (h : c.store.length ≤ 256) :
    (storeAfterReset p c).store.length ≤ 256 := by
  unfold storeAfterReset
  split
  · exact Nat.zero_le _
  · exact Nat.le_trans (Nat.le_of_eq (List.length_map _)) h

theorem storeBounded_startUp (k : Straps) (h : storeBounded s) : storeBounded (startUp (resetValues s k)) := by
  obtain ⟨hcapacity, _⟩ := h
  have hreset : StoreWithin 256 (resetValues s k) := storeWithin_storeAfterReset s.power s.csd hcapacity
  have hidle : (resetValues s k).gli.assembler = .hunt := rfl
  unfold startUp
  split
  · exact storeBounded_of_idle hreset (fun b hb => by rw [hidle] at hb; cases hb)
  · have hgantry : storeBounded (startGantry (resetValues s k)) := by
      unfold startGantry
      split
      · refine storeBounded_of_idle
          (storeWithin_dispatchPass (hreset.of_within (within_startFlow (resetValues s k)) (by decide)))
          (fun b hb => ?_)
        have hflow : (startFlow (resetValues s k)).gli.assembler = .hunt := by
          unfold startFlow
          split
          · rfl
          · rfl
        rw [gli_dispatchPass, hflow] at hb
        cases hb
      · exact storeBounded_of_idle hreset (fun b hb => by rw [hidle] at hb; cases hb)
    have hrest : Within [.lines, .sps, .wsu] (startGantry (resetValues s k))
        (startWeather (startSign (startPhones (startGantry (resetValues s k))))) :=
      ((within_startPhones (startGantry (resetValues s k))).seq (within_startSign _) :
        Within [.lines, .sps, .wsu] _ _).seq (within_startWeather _)
    exact storeBounded_of_same hgantry (hrest .csd (by decide)) (hrest .gli (by decide))

theorem storeBounded_ended {u : State} (h : storeBounded t) : storeBounded (ended u t) :=
  storeBounded_of_same h (ended_csd u t) (ended_gli u t)

theorem storeBounded_takeDataByte (value : Byte) (h : storeBounded s) : storeBounded (takeDataByte s value) := by
  unfold takeDataByte
  split
  · exact h
  · exact h

theorem exec_keeps_storeBounded (c : Instr) (h : storeBounded s) : Leaves storeBounded (exec c s) := by
  cases hgli : (touches c).contains .gli with
  | false =>
    intro t ht
    refine storeBounded_of_kept h (exec_keeps_storeWithin c hgli (Nat.le_refl _) t ht) ?_
    rw [show t.gli = s.gli from same_of_exec ht .gli hgli]
  | true =>
    cases c with
    | resetAssert => exact .next (storeBounded_intoReset h)
    | mainSupplyFall => exact .next (storeBounded_intoReset h)
    | resetEnd k => exact .ite (.next h) (.next (storeBounded_startUp k h))
    | tollAck p c =>
      refine .done (storeBounded_ended ?_)
      rcases dataArrival_cases s p (cellOf .tollAck c) (fun _ => consumeAck (cellOf .tollAck c)) with
        hpassed | ⟨_, t, ht, heq⟩
      · exact storeBounded_of_same h (hpassed .csd (by decide)) (hpassed .gli (by decide))
      · have hpassed : storeBounded t := storeBounded_of_same h (ht .csd (by decide)) (ht .gli (by decide))
        have hconsumed : storeBounded (consumeAck (cellOf .tollAck c) t) :=
          storeBounded_of_kept hpassed (storeWithin_consumeAck _ (Nat.le_refl _)) (assembler_consumeAck _ t)
        exact heq ▸ hconsumed
    | characterReceived value parityBit stopBit =>
      exact .ite (.next (storeBounded_of_kept h (Nat.le_refl _) (assembler_takeCharacter _ _ _ _))) (.next h)
    | breakDetected => exact .ite (.next (storeBounded_of_kept h (Nat.le_refl _) (assembler_fifoPush _ _))) (.next h)
    | breakEnd => exact .ite (.next h) (.next h)
    | assemblerTakeCharacter =>
      refine .ite ?_ (.next h)
      split
      · exact .next (storeBounded_takeCharacter _ _ h)
      · exact .next h
    | transmitControlCharacter =>
      exact .ite (.next (storeBounded_of_kept h (Nat.le_refl _) (assembler_sendControl _))) (.next h)
    | storeWriteComplete =>
      refine .ite ?_ (.next h)
      split
      · next body hwrite => exact .done (storeBounded_ended (storeBounded_writeCompleted h hwrite))
      · exact .next h
    | counterClear => exact .ite (.next (storeBounded_takeDataByte _ h)) (.next h)
    | ignoredWriteByte value => exact .ite (.next (storeBounded_takeDataByte _ h)) (.next h)
    | _ => cases hgli

theorem tick_keeps_storeBounded (h : storeBounded s) : storeBounded (tick s) := by
  refine storeBounded_of_kept h ?_ ?_
  · cases hrun : s.running with
    | false => rw [tick_of_stopped hrun]; exact Nat.le_refl _
    | true => rw [StoreWithin, tick, if_pos hrun]; exact Nat.le_of_eq (List.length_map _)
  · rw [show (tick s).gli = s.gli from within_tick s .gli (by decide)]

end

/-- Settles O5: no millisecond and no command lengthens a table beyond its places or the store beyond its entries. -/
theorem stepsKeepTheTablesAndTheStoreBounded : Obligations.StepsKeepTheTablesAndTheStoreBounded := by
  refine ⟨fun s t h => ?tables, fun s t h => ?store⟩
  case tables =>
    have hbounded : BoundedTables s := tablesBounded_iff.mp h
    have hleaves : Leaves BoundedTables (step s) :=
      .step (tick_keeps_boundedTables hbounded) (fun c _ _ => exec_keeps_boundedTables c hbounded)
    exact fun hstep => tablesBounded_iff.mpr (hleaves t hstep)
  case store =>
    have hleaves : Leaves storeBounded (step s) :=
      .step (tick_keeps_storeBounded h) (fun c _ _ => exec_keeps_storeBounded c h)
    exact hleaves t

end Sys2Proof.Machine
end

section
/-! PROOFS. Power, reset and start-up (O9, O10, O11). -/

set_option Elab.async false

namespace Sys2Proof.Machine

/-! ## Into reset -/

section
variable {s : State}

theorem running_of_resetLow {t : State} (h : t.power.resetLow = true) : t.running = false := by
  rw [State.running, h, Bool.not_true, Bool.and_false]

theorem running_of_supplyDown {t : State} (h : t.power.supplyUp = false) : t.running = false := by
  rw [State.running, h, Bool.false_and]

theorem interruptWrite_of_idle (h : ∀ body, s.gli.assembler ≠ .write body) : interruptWrite s = s := by
  unfold interruptWrite
  split
  · next body hwrite => exact absurd hwrite (h body)
  · rfl

/-- R15: outside a store write a reset turns the transmitters off and leaves the rest. -/
theorem intoReset_of_idle (h : ∀ body, s.gli.assembler ≠ .write body) :
    Within [.ports] s (intoReset s)
      ∧ ∀ p, (intoReset s).port p = if s.running then { s.port p with wire := .off } else s.port p := by
  unfold intoReset
  rw [interruptWrite_of_idle h]
  split
  · refine ⟨within_transmittersOff s, fun p => ?_⟩
    cases p with
    | sp1 => rfl
    | sp2 => rfl
  · exact ⟨Within.refl _ s, fun _ => rfl⟩

/-- R15, R17: a reset in the middle of a store write ends it, the record stored or not. -/
theorem intoReset_of_writing {body : List Byte} (hrun : s.running = true) (hwrite : s.gli.assembler = .write body) :
    (intoReset s).gli = { s.gli with assembler := .hunt }
      ∧ ((intoReset s).csd = s.csd ∨ (intoReset s).csd = storeRecord s.csd body) := by
  have hinterrupted : intoReset s = transmittersOff
      { s with
        freeUses := s.freeUses + 1, gli := { s.gli with assembler := .hunt }
        csd := if Config.freeBool s.freeUses then storeRecord s.csd body else s.csd } := by
    rw [intoReset, if_pos hrun, interruptWrite]
    simp only [hwrite]
  rw [hinterrupted]
  refine ⟨rfl, ?_⟩
  change (if Config.freeBool s.freeUses then storeRecord s.csd body else s.csd) = s.csd ∨ _
  split
  · exact .inr rfl
  · exact .inl rfl

end

/-- Settles O9: `interruptWrite` is the whole of the store, `transmittersOff` the whole of the ports. -/
theorem resetAndSupplyCommands : Obligations.ResetAndSupplyCommands := by
  intro s
  refine ⟨fun hidle => ?idle, fun body c hrun hwrite hc => ?writing, fun hstopped => ?vret⟩
  case idle =>
    obtain ⟨hframe, hports⟩ := intoReset_of_idle hidle
    have hpower (w : Power) : Within [.power, .ports] s { intoReset s with power := w } :=
      hframe.seq (within_withPower (intoReset s) w)
    exact ⟨⟨_, rfl, hpower _, rfl, running_of_resetLow rfl, hports⟩,
      ⟨_, rfl, hpower _, rfl, running_of_supplyDown rfl, hports⟩⟩
  case writing =>
    obtain ⟨hgli, hcsd⟩ := intoReset_of_writing hrun hwrite
    rcases hc with rfl | rfl
    · exact ⟨_, rfl, running_of_resetLow rfl, hgli, hcsd⟩
    · exact ⟨_, rfl, running_of_supplyDown rfl, hgli, hcsd⟩
  case vret =>
    change execVretLoss s = _
    rw [execVretLoss, if_neg (Bool.eq_false_iff.mp hstopped)]

/-! ## Out of reset -/

section
variable {s : State}

/-- R60, R116: where no side is VALID no record has a direction. -/
theorem directed_of_unreached (h : ∀ d, (s.entry d).valid = false) (e : CustodyEntry) : directed s e = none := by
  have hswitch : switchSide s e = none := by
    unfold switchSide
    split
    · next d _ => rw [if_neg (by rw [h (otherSide d)]; simp)]
    · rfl
  rw [directed, hswitch]
  rw [nearest_of_none_valid (h .up) (h .down)]

theorem dispatchPass_of_unreached (h : ∀ d, (s.entry d).valid = false) : dispatchPass s = s := by
  unfold dispatchPass
  split
  · unfold passSteps
    split
    · rfl
    · split
      · rfl
      · next e _ => simp only [directed_of_unreached h e]
  · rfl

/-- R16: the gantry line of a node with no side VALID starts with its flow character alone. -/
theorem startGantry_of_unreached (h : ∀ d, (s.entry d).valid = false) :
    startGantry s = if gantryFitted s.straps then startFlow s else s := by
  have hflow : ∀ d, ((startFlow s).entry d).valid = false := by
    intro d
    rw [entry_of_within (within_startFlow s) (by decide) d]
    exact h d
  unfold startGantry
  split
  · exact dispatchPass_of_unreached hflow
  · rfl

/-- What start-up can change where no side is VALID. -/
theorem startUp_parts_of_unreached (h : ∀ d, (s.entry d).valid = false) :
    Within [.gli, .lines, .sps, .wsu] s (startUp s) := by
  have hgantry : Within [.gli] s (startGantry s) := by
    rw [startGantry_of_unreached h]
    split
    · exact within_startFlow s
    · exact Within.refl _ s
  unfold startUp
  split
  · exact Within.refl _ s
  · exact ((hgantry.seq (within_startPhones (startGantry s)) : Within [.gli, .lines, .sps, .wsu] _ _).seq
      (within_startSign (startPhones (startGantry s))) : Within [.gli, .lines, .sps, .wsu] _ _).seq
      (within_startWeather (startSign (startPhones (startGantry s))))

theorem startUp_of_fault (h : strapFault s.straps = true) : startUp s = s := by
  rw [startUp, if_pos h]

end

section
variable (s : State)

/-- The phone lines at step 4. -/
def startLines (x : Lines PhoneLine) : Lines PhoneLine := { line0 := startLine x.line0, line1 := startLine x.line1 }

theorem startPhones_lines :
    (startPhones s).lines = if phonesFitted s.straps then startLines s.lines else s.lines := by
  unfold startPhones
  split
  · rfl
  · rfl

theorem startSign_slew :
    (startSign s).sps = if signFitted s.straps then { s.sps with slewPeriod := some 125 } else s.sps := by
  unfold startSign
  split
  · rfl
  · rfl

theorem startWeather_wsu :
    (startWeather s).wsu
      = if weatherFitted s.straps then
          { s.wsu with
            sweepPeriod := some 0, windowPeriod := some 3000, racePeriod := some 0, reportPeriod := some 10000
            windCounter := BitVec.ofNat 8 (strapPreload s.straps) }
        else s.wsu := by
  unfold startWeather
  split
  · rfl
  · rfl

end

/-! ## The node after a reset -/

section
variable (s : State) (k : Straps)

/-- The node after RESET-END. -/
def started : State := startUp (resetValues s k)

theorem resetValues_unreached (d : Side) : ((resetValues s k).entry d).valid = false := by
  cases d with
  | up => rfl
  | down => rfl

theorem started_parts : Within [.gli, .lines, .sps, .wsu] (resetValues s k) (started s k) :=
  startUp_parts_of_unreached (resetValues_unreached s k)

theorem started_of_fault (h : strapFault k = true) : started s k = resetValues s k :=
  startUp_of_fault (s := resetValues s k) h

theorem started_of_ok (h : strapFault k = false) :
    started s k = startWeather (startSign (startPhones (startGantry (resetValues s k)))) := by
  have hfault : strapFault (resetValues s k).straps = false := h
  rw [started, startUp, if_neg (Bool.eq_false_iff.mp hfault)]

theorem startGantry_resetValues :
    startGantry (resetValues s k) = if gantryFitted k then startFlow (resetValues s k) else resetValues s k :=
  startGantry_of_unreached (resetValues_unreached s k)

theorem straps_startGantry (t : State) : (startGantry t).straps = t.straps :=
  straps_of_within (within_startGantry t) (by decide)

theorem started_gli (h : strapFault k = false) :
    (started s k).gli = if gantryFitted k then (startFlow (resetValues s k)).gli else {} := by
  have hrest : Within [.lines, .sps, .wsu] (startGantry (resetValues s k)) (started s k) := by
    rw [started_of_ok s k h]
    exact ((within_startPhones (startGantry (resetValues s k))).seq (within_startSign _) :
      Within [.lines, .sps, .wsu] _ _).seq (within_startWeather _)
  rw [show (started s k).gli = (startGantry (resetValues s k)).gli from hrest .gli (by decide),
    startGantry_resetValues]
  split
  · rfl
  · rfl

theorem startFlow_resetValues_gli :
    (startFlow (resetValues s k)).gli
      = { flowStopped := decide (256 - (resetValues s k).csd.store.length < 48)
          flowPlace := some (if 256 - (resetValues s k).csd.store.length < 48 then .xoff else .xon) } := by
  unfold startFlow
  split
  · next h =>
    have hfew : 256 - (resetValues s k).csd.store.length < 48 := h
    rw [if_pos hfew, decide_eq_true hfew]
    rfl
  · next h =>
    have hroom : ¬ 256 - (resetValues s k).csd.store.length < 48 := h
    rw [if_neg hroom, decide_eq_false hroom]
    rfl

section
variable (h : strapFault k = false)
include h

/-- The parts of start-up up to the phones, to the sign and to the weather station. -/
theorem started_frames :
    Within [.gli] (resetValues s k) (startGantry (resetValues s k))
      ∧ Within [.sps, .wsu] (startPhones (startGantry (resetValues s k))) (started s k)
      ∧ Within [.gli, .lines] (resetValues s k) (startPhones (startGantry (resetValues s k)))
      ∧ Within [.wsu] (startSign (startPhones (startGantry (resetValues s k)))) (started s k)
      ∧ Within [.gli, .lines, .sps] (resetValues s k) (startSign (startPhones (startGantry (resetValues s k)))) := by
  have hgantry : Within [.gli] (resetValues s k) (startGantry (resetValues s k)) := by
    rw [startGantry_resetValues]
    split
    · exact within_startFlow _
    · exact Within.refl _ _
  have hphones : Within [.gli, .lines] (resetValues s k) (startPhones (startGantry (resetValues s k))) :=
    hgantry.seq (within_startPhones (startGantry (resetValues s k)))
  rw [started_of_ok s k h]
  exact ⟨hgantry, (within_startSign (startPhones (startGantry (resetValues s k)))).seq (within_startWeather _), hphones,
    within_startWeather _, hphones.seq (within_startSign (startPhones (startGantry (resetValues s k))))⟩

theorem started_lines :
    (started s k).lines = if phonesFitted k then startLines (resetValues s k).lines else (resetValues s k).lines := by
  obtain ⟨hgantry, hrest, _, _, _⟩ := started_frames s k h
  rw [show (started s k).lines = (startPhones (startGantry (resetValues s k))).lines from hrest .lines (by decide),
    startPhones_lines, straps_of_within hgantry (by decide),
    show (startGantry (resetValues s k)).lines = (resetValues s k).lines from hgantry .lines (by decide)]
  rfl

theorem started_sps :
    (started s k).sps
      = if signFitted k then { (resetValues s k).sps with slewPeriod := some 125 } else (resetValues s k).sps := by
  obtain ⟨_, _, hphones, hrest, _⟩ := started_frames s k h
  rw [show (started s k).sps = (startSign (startPhones (startGantry (resetValues s k)))).sps from
      hrest .sps (by decide), startSign_slew, straps_of_within hphones (by decide),
    show (startPhones (startGantry (resetValues s k))).sps = (resetValues s k).sps from hphones .sps (by decide)]
  rfl

theorem started_wsu :
    (started s k).wsu
      = if weatherFitted k then
          { sweepPeriod := some 0, windowPeriod := some 3000, racePeriod := some 0, reportPeriod := some 10000
            windCounter := BitVec.ofNat 8 (strapPreload k) }
        else {} := by
  obtain ⟨_, _, _, _, hsign⟩ := started_frames s k h
  rw [started_of_ok s k h, startWeather_wsu, straps_of_within hsign (by decide),
    show (startSign (startPhones (startGantry (resetValues s k)))).wsu = (resetValues s k).wsu from
      hsign .wsu (by decide)]
  rfl

end

end

theorem exec_resetEnd_started {s : State} (k : Straps) (h : s.running = false) :
    exec (.resetEnd k) s = .next (started s k) := exec_resetEnd k h

/-- What a WARM RESET keeps of retention memory. -/
theorem resetValues_of_warm (s : State) (k : Straps) (h : isPowerOn s.power = false) :
    (resetValues s k).powerOnCount = s.powerOnCount ∧ (resetValues s k).sps = { pages := s.sps.pages }
      ∧ (resetValues s k).csd = { store := s.csd.store.map queueEntry, nextSeq := s.csd.nextSeq } := by
  have hwarm : ¬ isPowerOn s.power = true := Bool.eq_false_iff.mp h
  refine ⟨?_, ?_, ?_⟩
  · change countAfterReset s.power s.powerOnCount = _
    rw [countAfterReset, if_neg hwarm]
  · change signAfterReset s.power s.sps = _
    rw [signAfterReset, if_neg hwarm]
  · change storeAfterReset s.power s.csd = _
    rw [storeAfterReset, if_neg hwarm]

/-- What a POWER-ON leaves of retention memory. -/
theorem resetValues_of_powerOn (s : State) (k : Straps) (h : isPowerOn s.power = true) :
    (resetValues s k).powerOnCount = (if s.power.retentionLost then 1 else satInc s.powerOnCount)
      ∧ (resetValues s k).sps = {} ∧ (resetValues s k).csd = {} := by
  refine ⟨?_, ?_, ?_⟩
  · change countAfterReset s.power s.powerOnCount = _
    rw [countAfterReset, if_pos h]
  · change signAfterReset s.power s.sps = _
    rw [signAfterReset, if_pos h]
  · change storeAfterReset s.power s.csd = _
    rw [storeAfterReset, if_pos h]

theorem started_pages (s : State) (k : Straps) : (started s k).sps.pages = (resetValues s k).sps.pages := by
  cases hfault : strapFault k with
  | true => rw [started_of_fault s k hfault]
  | false =>
    rw [started_sps s k hfault]
    split
    · rfl
    · rfl

theorem isPowerOn_eq_true {p : Power} (h : p.powerOnDue = true ∨ p.retentionLost = true) : isPowerOn p = true := by
  rw [isPowerOn, Bool.or_eq_true]
  exact h

/-- Settles O10: start-up leaves the retention memory that `resetValues` gives. -/
theorem resetEndKeepsOrClearsRetention : Obligations.ResetEndKeepsOrClearsRetention := by
  intro k s hstopped
  have hparts := started_parts s k
  have hcsd : (started s k).csd = (resetValues s k).csd := hparts .csd (by decide)
  have hcount : (started s k).powerOnCount = (resetValues s k).powerOnCount := hparts .powerOnCount (by decide)
  have hpower : (started s k).power = {} := hparts .power (by decide)
  refine ⟨started s k, exec_resetEnd_started k hstopped, hparts .straps (by decide), hpower, hparts .dark (by decide), ?_,
    fun hdue hlost => ?warm, fun hon => ?powerOn⟩
  · rw [State.running, hpower]
    rfl
  case warm =>
    obtain ⟨hpowerOns, hsign, hstore⟩ := resetValues_of_warm s k (by rw [isPowerOn, hdue, hlost]; rfl)
    rw [hcount, started_pages, hcsd, hpowerOns, hsign, hstore]
    exact ⟨rfl, rfl, rfl, rfl⟩
  case powerOn =>
    obtain ⟨hpowerOns, hsign, hstore⟩ := resetValues_of_powerOn s k (isPowerOn_eq_true hon)
    rw [hcount, started_pages, hcsd, hpowerOns, hsign, hstore, satInc_half]
    exact ⟨fun _ => rfl, rfl, rfl, rfl⟩

/-- R126, R151: the sign after a reset but for its slew period. -/
theorem resetValues_sps (s : State) (k : Straps) : (resetValues s k).sps = { pages := (resetValues s k).sps.pages } := by
  obtain ⟨m, hm⟩ := signAfterReset_eq s.power s.sps
  change signAfterReset s.power s.sps = { pages := (signAfterReset s.power s.sps).pages }
  rw [hm]

theorem started_sps_eq (s : State) (k : Straps) :
    (started s k).sps
      = { pages := (started s k).sps.pages
          slewPeriod := if !strapFault k && signFitted k then some 125 else none } := by
  rw [started_pages]
  cases hfault : strapFault k with
  | true =>
    rw [started_of_fault s k hfault]
    exact resetValues_sps s k
  | false =>
    rw [started_sps s k hfault]
    split
    · next hfitted =>
      rw [resetValues_sps]
      simp only [hfitted, Bool.not_false, Bool.and_self, if_true]
    · next hfitted =>
      rw [Bool.eq_false_iff.mpr hfitted]
      exact resetValues_sps s k

/-- R73, R75: a phone line that starts keeps its levels; a handset off the hook is seen from IDLE. -/
theorem startLine_lineAfterReset (x : PhoneLine) :
    (startLine (lineAfterReset x)).state = (if x.offHook then .offhookCheck else .idle)
      ∧ (startLine (lineAfterReset x)).record = none ∧ (startLine (lineAfterReset x)).nextSerial = 0 := by
  have hkeyed (y : PhoneLine) : ∃ k, (if y.keyClosed then { y with keyTimer := some keyStuckMs } else y)
      = { y with keyTimer := k } := by
    split
    · exact ⟨_, rfl⟩
    · exact ⟨y.keyTimer, rfl⟩
  obtain ⟨k, hk⟩ := hkeyed (lineAfterReset x)
  unfold startLine
  rw [hk]
  unfold lineAfterReset
  dsimp only
  split
  · exact ⟨rfl, rfl, rfl⟩
  · exact ⟨rfl, rfl, rfl⟩

/-- Settles O11: every part of the started node is that of `resetValues` or the one job that starts in it. -/
theorem resetEndStartsTheFittedBlocks : Obligations.ResetEndStartsTheFittedBlocks := by
  intro k s hstopped
  have hparts := started_parts s k
  have hports : (started s k).ports = (resetValues s k).ports := hparts .ports (by decide)
  have hcsd : (started s k).csd = (resetValues s k).csd := hparts .csd (by decide)
  have hline (l : Line) : (resetValues s k).line l = lineAfterReset (s.line l) := by
    cases l with
    | line0 => rfl
    | line1 => rfl
  refine ⟨started s k, exec_resetEnd_started k hstopped, fun p => ?ports, hparts .node (by decide), fun d => ?sides,
    hparts .ccu (by decide), hparts .gw (by decide), hparts .maint (by decide), started_sps_eq s k, fun h => ?gliOff,
    fun hok hfitted => ?gliOn, fun h => ?wsuOff, fun hok hfitted => ?wsuOn, fun h l => ?linesOff, fun hok hfitted l => ?linesOn⟩
  case ports =>
    rw [State.port, hports]
    cases p with
    | sp1 => rfl
    | sp2 => rfl
  case sides =>
    rw [side_of_within hparts (by decide), entry_of_within hparts (by decide), table_of_within hparts (by decide)]
    cases d with
    | up => exact ⟨rfl, rfl, rfl⟩
    | down => exact ⟨rfl, rfl, rfl⟩
  case gliOff =>
    cases hfault : strapFault k with
    | true => rw [started_of_fault s k hfault]; rfl
    | false =>
      have hunfitted : gantryFitted k = false := h.resolve_left (by rw [hfault]; decide)
      rw [started_gli s k hfault, hunfitted]
      rfl
  case gliOn =>
    rw [started_gli s k hok, if_pos hfitted, startFlow_resetValues_gli, hcsd]
  case wsuOff =>
    cases hfault : strapFault k with
    | true => rw [started_of_fault s k hfault]; rfl
    | false =>
      have hunfitted : weatherFitted k = false := h.resolve_left (by rw [hfault]; decide)
      rw [started_wsu s k hfault, hunfitted]
      rfl
  case wsuOn =>
    rw [started_wsu s k hok, if_pos hfitted]
    rfl
  case linesOff =>
    refine Eq.trans ?_ (hline l)
    cases hfault : strapFault k with
    | true => rw [started_of_fault s k hfault]
    | false =>
      have hunfitted : phonesFitted k = false := h.resolve_left (by rw [hfault]; decide)
      rw [State.line, started_lines s k hfault, hunfitted]
      rfl
  case linesOn =>
    have hstart : (started s k).line l = startLine (lineAfterReset (s.line l)) := by
      rw [State.line, started_lines s k hok, if_pos hfitted, ← hline l]
      cases l with
      | line0 => rfl
      | line1 => rfl
    rw [hstart]
    exact startLine_lineAfterReset (s.line l)

end Sys2Proof.Machine
end

section
/-! PROOFS. Light, lock, the HELLO period and the tests of an arriving cell (O12, O13). -/

set_option Elab.async false

namespace Sys2Proof.Machine

/-! ## Doze conditions that do not become true -/

section
variable {s : State}

/-- R28: the doze condition reads of the ports that they are UP with their idle timer run out. -/
theorem dozeBecame_of_port {a b : State} (q : Port)
    (hport : (b.port q).state = .up → (b.port q).idle = some 0 → (a.port q).state = .up ∧ (a.port q).idle = some 0)
    (hside : a.sideOf q = b.sideOf q) (htable : b.table (b.sideOf q) = a.table (b.sideOf q))
    (htiu : b.side (b.sideOf q) = a.side (b.sideOf q)) : dozeBecame a b q = false := by
  refine dozeBecame_false a b q (fun hdoze => ?_)
  simp only [State.dozeCondition, Bool.and_eq_true, beq_iff_eq] at hdoze ⊢
  obtain ⟨⟨⟨hup, hidle⟩, hempty⟩, hquiet⟩ := hdoze
  obtain ⟨hup', hidle'⟩ := hport hup hidle
  rw [hside, ← htable, ← htiu]
  exact ⟨⟨⟨hup', hidle'⟩, hempty⟩, hquiet⟩

/-- A change of a port that is not UP with its idle timer run out, or was so before, makes no doze condition true. -/
theorem done_setPort (p : Port) {u : PortUnit}
    (h : u.state = .up → u.idle = some 0 → (s.port p).state = .up ∧ (s.port p).idle = some 0) :
    done s (s.setPort p u) = .next { s.setPort p u with inHand := 0 } := by
  refine done_quiet s (s.setPort p u) (fun q => dozeBecame_of_port q ?_ rfl rfl rfl)
  by_cases hq : q = p
  · rw [hq, setPort_port]
    exact h
  · rw [setPort_ne s p q u hq]
    exact fun hup hidle => ⟨hup, hidle⟩

theorem onlyPort_setPort (p : Port) (u : PortUnit) : onlyPort s (s.setPort p u) p :=
  fun q hq => setPort_ne s p q u hq

/-! ## Light, lock and the dark period -/

theorem enterState_state (u : PortUnit) (st : PortState) : (enterState u st).state = st := rfl

theorem exec_lightFound (p : Port) (s : State) : exec (.lightFound p) s = .next (lightOn s p) := rfl

theorem lightOn_of_dark {p : Port} (hfree : s.portFree p = true) (hdark : (s.port p).state = .dark) :
    lightOn s p = s.setPort p (enterSeekDark { s.port p with light := true }) := by
  unfold lightOn
  dsimp only
  rw [hfree, if_neg (by decide), if_pos hdark]

theorem lightOn_of_light {p : Port} (hfree : s.portFree p = true) (hstate : (s.port p).state ≠ .dark) :
    lightOn s p = s.setPort p { s.port p with light := true, lossDebounce := none } := by
  unfold lightOn
  dsimp only
  rw [hfree, if_neg (by decide), if_neg hstate]

theorem exec_lightDisappears_of_light {p : Port} (hfree : s.portFree p = true) (hstate : (s.port p).state ≠ .dark) :
    exec (.lightDisappears p) s
      = .next (s.setPort p { s.port p with light := false, lossDebounce := some 10 }) := by
  have htest : (s.portFree p && (s.port p).state != .dark) = true := by
    rw [hfree, Bool.true_and, bne_iff_ne]
    exact hstate
  change execLightDisappears p s = _
  exact if_pos htest

theorem exec_lockGained_of_seek {p : Port} (hfree : s.portFree p = true) (hseek : (s.port p).state = .seek)
    (hlock : (s.port p).lock = false) :
    exec (.lockGained p) s
      = .next (s.setPort p
          (placeHello s { s.port p with lock := true, badRun := 0, markerRun := 0, helloPeriod := some helloSeekMs })) := by
  have htest : (s.portFree p && (s.port p).state == .seek && !(s.port p).lock) = true := by
    rw [hfree, hseek, hlock]
    rfl
  change execLockGained p s = _
  exact if_pos htest

/-- R22: a HELLO may be sent in every state but DARK, in SEEK with lock. -/
theorem maySend_hello {st : PortState} {lock : Bool} (hstate : st ≠ .dark) (hseek : st = .seek → lock = true) :
    maySend st lock .hello = true := by
  cases st with
  | dark => exact absurd rfl hstate
  | seek => rw [hseek rfl]; rfl
  | up => rfl
  | doze => rfl
  | waking => rfl
  | fault => rfl

theorem exec_helloPeriod_of_due {p : Port} (hfree : s.portFree p = true) (hdue : (s.port p).helloPeriod.isSome = true)
    (hsend : maySend (s.port p).state (s.port p).lock .hello = true) :
    exec (.helloPeriod p) s
      = .next (s.setPort p { placeHello s (s.port p) with helloPeriod := some (helloPeriodOf (s.port p).state) }) := by
  have htest : (s.portFree p && (s.port p).helloPeriod.isSome && maySend (s.port p).state (s.port p).lock .hello) = true := by
    rw [hfree, hdue, hsend]
    rfl
  change execHelloPeriod p s = _
  exact if_pos htest

/-- R16: a port in use and in light leaves the hold for SEEK; another stays. -/
theorem leaveDark_port (s : State) (p : Port) :
    (leaveDark s p).port p
      = if s.portLive p = true ∧ (s.port p).light = true ∧ (s.port p).state = .dark then enterSeekDark (s.port p)
        else s.port p := by
  have htest : (s.portLive p && (s.port p).light && (s.port p).state == .dark) = true
      ↔ s.portLive p = true ∧ (s.port p).light = true ∧ (s.port p).state = .dark := by
    rw [Bool.and_eq_true, Bool.and_eq_true, beq_iff_eq, and_assoc]
  unfold leaveDark
  simp only [htest]
  split
  · exact setPort_port s p _
  · rfl

theorem leaveDark_port_ne (s : State) {p q : Port} (h : q ≠ p) : (leaveDark s p).port q = s.port q := by
  unfold leaveDark
  split
  · exact setPort_ne s p q _ h
  · rfl

theorem leaveDark_portLive (s : State) (p q : Port) : (leaveDark s p).portLive q = s.portLive q := by
  unfold leaveDark
  split
  · rfl
  · rfl

/-- R16: both ports after the dark period. -/
theorem leaveDark_both_port (s : State) (p : Port) :
    (leaveDark (leaveDark s .sp1) .sp2).port p = (leaveDark s p).port p := by
  cases p with
  | sp1 => exact leaveDark_port_ne (leaveDark s .sp1) (by decide)
  | sp2 =>
    rw [leaveDark_port, leaveDark_port, leaveDark_portLive, leaveDark_port_ne s (by decide)]

theorem within_leaveDark_both (s : State) : Within [.dark, .ports] s (leaveDark (leaveDark { s with dark := none } .sp1) .sp2) :=
  ((within_withDark s none).seq (within_leaveDark { s with dark := none } .sp1) : Within [.dark, .ports] _ _).seq
    (within_leaveDark (leaveDark { s with dark := none } .sp1) .sp2)

end

/-- Settles O12: each command by its test and the port it enters. -/
theorem lightLockAndHelloPeriod : Obligations.LightLockAndHelloPeriod := by
  refine ⟨fun p s hfree => ⟨fun hdark => ?found, fun hstate => ⟨?disappears, ?returns⟩, fun hseek hlock => ?lock,
    fun hdue hstate hseek => ?period⟩, fun s hrun hdark => ?darkEnd⟩
  case found =>
    rw [exec_lightFound, lightOn_of_dark hfree hdark]
    refine ⟨_, rfl, ?_, ?_, ?_, ?_, ?_, onlyPort_setPort p _, within_setPort s p _⟩ <;> rw [setPort_port] <;> rfl
  case disappears => exact exec_lightDisappears_of_light hfree hstate
  case returns =>
    change Host.Outcome.next (lightOn s p) = _
    rw [lightOn_of_light hfree hstate]
  case lock =>
    rw [exec_lockGained_of_seek hfree hseek hlock]
    rfl
  case period =>
    rw [exec_helloPeriod_of_due hfree hdue (maySend_hello hstate hseek)]
    rfl
  case darkEnd =>
    have htest : (s.running && s.dark.isSome) = true := by
      rw [hrun, hdark]
      rfl
    have hexec : exec .darkPeriodEnd s = .next (leaveDark (leaveDark { s with dark := none } .sp1) .sp2) := if_pos htest
    have hkept (t : State) (p : Port) : (leaveDark t p).dark = t.dark := within_leaveDark t p .dark (by decide)
    have hstays : (leaveDark (leaveDark { s with dark := none } .sp1) .sp2).dark = none := by rw [hkept, hkept]
    refine ⟨_, hexec, hstays, within_leaveDark_both s, fun p => ?_⟩
    have hport : (leaveDark (leaveDark { s with dark := none } .sp1) .sp2).port p
        = if s.portLive p = true ∧ (s.port p).light = true ∧ (s.port p).state = .dark then enterSeekDark (s.port p)
          else s.port p :=
      (leaveDark_both_port _ p).trans (leaveDark_port _ p)
    split
    · next hleaves =>
      rw [hport, if_pos hleaves]
      exact ⟨rfl, rfl, rfl⟩
    · next hstill => rw [hport, if_neg hstill]

/-! ## The tests of an arriving cell -/

section
variable {s : State} {p : Port}

theorem exec_of_linkCommands {c : CellData} {i : Instr} {k : Kind} (h : (i, k) ∈ linkCommands p c) :
    ∃ act, exec i s = done s (arrive s p (cellOf k c) act) := by
  simp only [linkCommands, List.mem_cons, Prod.mk.injEq, List.not_mem_nil, or_false] at h
  rcases h with ⟨rfl, rfl⟩ | ⟨rfl, rfl⟩ | ⟨rfl, rfl⟩ | ⟨rfl, rfl⟩ | ⟨rfl, rfl⟩ | ⟨rfl, rfl⟩ <;> exact ⟨_, rfl⟩

theorem exec_of_callCommands {c : CellData} {i : Instr} {k : Kind} (h : (i, k) ∈ callCommands p c) :
    exec i s = done s (callArrival s p (cellOf k c)) := by
  simp only [callCommands, List.mem_cons, Prod.mk.injEq, List.not_mem_nil, or_false] at h
  rcases h with ⟨rfl, rfl⟩ | ⟨rfl, rfl⟩ | ⟨rfl, rfl⟩ | ⟨rfl, rfl⟩ | ⟨rfl, rfl⟩ | ⟨rfl, rfl⟩ | ⟨rfl, rfl⟩ <;> rfl

/-- The consumer of a TOLL, SIGN or REPORT cell in hand, arrived on side `a`. -/
def consumerOf (k : Kind) (c : CellData) (a : Side) (s : State) : State :=
  match k with
  | .tollRecord => consumeRecord a (cellOf .tollRecord c) s
  | .tollAck => consumeAck (cellOf .tollAck c) s
  | .weatherPoll => consumePoll a (cellOf .weatherPoll c) s
  | .nodeQuery => answerQuery s (some a) c
  | .signReply | .weatherReport | .nodeStatus => consumeForOffice (cellOf k c) s
  | k => consumeSign a (cellOf k c) s

theorem exec_of_dataCommands {c : CellData} {i : Instr} {k : Kind} (h : (i, k) ∈ dataCommands p c) :
    exec i s = done s (transitArrival s p (cellOf k c)
      (fun t => carry t (t.sideOf p) (cellOf k c) (consumerOf k c (t.sideOf p)))) := by
  simp only [dataCommands, List.mem_cons, Prod.mk.injEq, List.not_mem_nil, or_false] at h
  rcases h with ⟨rfl, rfl⟩ | ⟨rfl, rfl⟩ | ⟨rfl, rfl⟩ | ⟨rfl, rfl⟩ | ⟨rfl, rfl⟩ | ⟨rfl, rfl⟩ | ⟨rfl, rfl⟩ | ⟨rfl, rfl⟩ |
    ⟨rfl, rfl⟩ | ⟨rfl, rfl⟩ | ⟨rfl, rfl⟩ | ⟨rfl, rfl⟩ <;> rfl

/-- Every command that brings a cell other than HELLO tests it the same way. -/
theorem exec_of_arrivalCommands {c : CellData} {i : Instr} {k : Kind} (h : (i, k) ∈ arrivalCommands p c) :
    ∃ act, exec i s = done s (arrive s p (cellOf k c) act) := by
  rw [arrivalCommands, List.mem_append, List.mem_append] at h
  rcases h with (hlink | hcall) | hdata
  · exact exec_of_linkCommands hlink
  · exact ⟨_, exec_of_callCommands hcall⟩
  · exact ⟨_, exec_of_dataCommands hdata⟩

theorem portFree_of_receives (h : receives s p = true) : s.portFree p = true ∧ (s.port p).lock = true := by
  rw [receives, Bool.and_eq_true] at h
  exact h

/-- R20: in SEEK the loss of lock leaves the port in SEEK, with nothing of a neighbour. -/
theorem loseLock_of_seek (h : (s.port p).state = .seek) :
    ∃ u, loseLock s p = s.setPort p u ∧ u.state = .seek ∧ u.lock = false
      ∧ u.counts.lockLosses = satInc (s.port p).counts.lockLosses := by
  unfold loseLock
  dsimp only
  split
  · exact ⟨_, rfl, rfl, rfl, rfl⟩
  · next hup => rw [h] at hup; cases hup
  · next hdoze => rw [h] at hdoze; cases hdoze
  · next hwaking => rw [h] at hwaking; cases hwaking
  · next hfault => rw [h] at hfault; cases hfault
  · next hdark => rw [h] at hdark; cases hdark

theorem setPort_setPort (s : State) (p : Port) (u v : PortUnit) : (s.setPort p u).setPort p v = s.setPort p v := by
  cases p with
  | sp1 => rfl
  | sp2 => rfl

/-- R21, R24: what becomes of a HELLO received. -/
theorem exec_hello_received (c : CellData) (h : receives s p = true) :
    exec (.hello p c) s
      = if headerOk (cellOf .hello c) = true then
          match (s.port p).state with
          | .dark => .next s
          | .seek => done s (takeHello (goodCell (receiveCell s p (cellOf .hello c)) p) p c)
          | .fault => .next (goodCell (receiveCell s p (cellOf .hello c)) p)
          | .up | .doze | .waking => done s (takeHello (takeIn (receiveCell s p (cellOf .hello c)) p) p c)
        else .next (countMalformed (receiveCell s p (cellOf .hello c)) p) := by
  change execHello p c s = _
  unfold execHello
  dsimp only
  rw [h, if_neg (by decide)]
  cases headerOk (cellOf .hello c) with
  | true => rfl
  | false => rfl

theorem exec_hello_of_fault (c : CellData) (h : receives s p = true) (hgood : headerOk (cellOf .hello c) = true)
    (hstate : (s.port p).state = .fault) : exec (.hello p c) s = .next (goodCell s p) := by
  rw [exec_hello_received c h, if_pos hgood, goodCell_received]
  simp only [hstate]

theorem exec_hello_of_seek (c : CellData) (h : receives s p = true) (hgood : headerOk (cellOf .hello c) = true)
    (hstate : (s.port p).state = .seek) : exec (.hello p c) s = done s (takeHello (goodCell s p) p c) := by
  rw [exec_hello_received c h, if_pos hgood, goodCell_received]
  simp only [hstate]

theorem exec_hello_of_service (c : CellData) (h : receives s p = true) (hgood : headerOk (cellOf .hello c) = true)
    (hstate : inServiceState (s.port p).state = true) :
    exec (.hello p c) s = done s (takeHello (takeIn s p) p c) := by
  rw [exec_hello_received c h, if_pos hgood, takeIn_received]
  cases hport : (s.port p).state with
  | dark => rw [hport] at hstate; cases hstate
  | seek => rw [hport] at hstate; cases hstate
  | fault => rw [hport] at hstate; cases hstate
  | up => rfl
  | doze => rfl
  | waking => rfl

/-- R20: a port that ends a command in SEEK without lock, no other port moved. -/
theorem done_seekUnlocked {n : Half} {u : PortUnit} (hstate : u.state = .seek) (hlock : u.lock = false)
    (hcount : u.counts.lockLosses = n) :
    ∃ t, done s (s.setPort p u) = .next t ∧ (t.port p).state = .seek ∧ (t.port p).lock = false
      ∧ (t.port p).counts.lockLosses = n ∧ onlyPort s t p := by
  refine ⟨_, done_setPort p (fun hup => ?_), ?_⟩
  · rw [hstate] at hup
    cases hup
  · have hport : State.port { s.setPort p u with inHand := 0 } p = u := setPort_port s p u
    rw [hport]
    exact ⟨hstate, hlock, hcount, onlyPort_setPort p u⟩

end

/-- Settles O13: the tests stand in `arrive`, the loss of lock in `loseLock`. -/
theorem cellChecksAtThePort : Obligations.CellChecksAtThePort := by
  intro p s hreceives
  refine ⟨?malformed, fun hrun => ?bad, fun hseek => ⟨?marker, fun hrun => ?badSeek⟩, fun c => ⟨fun hbad => ?helloBad,
    fun hgood hfault => ?helloFault⟩, fun c i k hmem => ?arrival⟩
  case malformed => exact if_pos hreceives
  case bad =>
    have hexec : exec (.badCheckCell p) s = done s (badCell s p) := if_pos hreceives
    have hcell : badCell s p = s.setPort p
        { s.port p with
          receive := none, badRun := (s.port p).badRun + 1
          counts := { (s.port p).counts with checkErrors := satInc (s.port p).counts.checkErrors } } :=
      if_neg (by rw [lockLossRun]; omega)
    rw [hexec, hcell]
    exact done_setPort p (fun hup hidle => ⟨hup, hidle⟩)
  case marker =>
    have hexec : exec (.markerWatchExpiry p) s = done s (loseLock s p) := if_pos hreceives
    obtain ⟨u, hlose, hstate, hlock, hcount⟩ := loseLock_of_seek hseek
    rw [hexec, hlose]
    exact done_seekUnlocked hstate hlock hcount
  case badSeek =>
    have hexec : exec (.badCheckCell p) s = done s (badCell s p) := if_pos hreceives
    have hcell : badCell s p = loseLock (s.setPort p
        { s.port p with
          receive := none, badRun := (s.port p).badRun + 1
          counts := { (s.port p).counts with checkErrors := satInc (s.port p).counts.checkErrors } }) p :=
      if_pos (by rw [lockLossRun]; omega)
    obtain ⟨u, hlose, hstate, hlock, hcount⟩ := loseLock_of_seek (s := s.setPort p
        { s.port p with
          receive := none, badRun := (s.port p).badRun + 1
          counts := { (s.port p).counts with checkErrors := satInc (s.port p).counts.checkErrors } }) (p := p)
      (by rw [setPort_port]; exact hseek)
    rw [hexec, hcell, hlose, setPort_setPort]
    rw [setPort_port] at hcount
    exact done_seekUnlocked hstate hlock hcount
  case helloBad =>
    rw [exec_hello_received c hreceives, if_neg (by rw [hbad]; decide), countMalformed_received]
    rfl
  case helloFault =>
    exact exec_hello_of_fault c hreceives hgood hfault
  case arrival =>
    obtain ⟨act, hexec⟩ := exec_of_arrivalCommands (s := s) hmem
    refine ⟨fun hbad => ?_, fun hgood hstate => ?_⟩
    · rw [hexec, arrive_malformed s p _ act hreceives hbad]
      exact done_setPort p (fun hup hidle => ⟨hup, hidle⟩)
    · have hout : inServiceState (s.port p).state = false := by
        rcases hstate with hseek | hfault
        · rw [hseek]; rfl
        · rw [hfault]; rfl
      rw [hexec, arrive_turned_away s p _ act hreceives hgood hout]
      exact done_setPort p (fun hup hidle => ⟨hup, hidle⟩)

end Sys2Proof.Machine
end

section
/-! PROOFS. What the operations of the blocks keep of the pool, of the ports and of the Reach Table: the layer under the
third and the fourth invariant (R36, R38, R65). -/

set_option Elab.async false

namespace Sys2Proof.Machine

/-! ## Steady changes -/

/-- From `s` to `t` ports change by waking alone, no entry of the Reach Table becomes VALID or INVALID, no buffer is taken in
hand or let go from it, and a pool within its buffers stays so. -/
structure Steady (s t : State) : Prop where
  straps : t.straps = s.straps
  inHand : t.inHand = s.inHand
  ports : ∀ q, t.port q = s.port q ∨ (s.port q).state = .doze ∧ t.port q = enterWaking (s.port q)
  valid : ∀ d, (t.entry d).valid = (s.entry d).valid
  held : s.poolHeld ≤ 512 → t.poolHeld ≤ 512

section
variable {s t u : State}

theorem Steady.refl (s : State) : Steady s s :=
  ⟨rfl, rfl, fun _ => .inl rfl, fun _ => rfl, fun h => h⟩

theorem enterWaking_state (u : PortUnit) : (enterWaking u).state = .waking := rfl

theorem Steady.trans (h : Steady s t) (k : Steady t u) : Steady s u := by
  refine ⟨k.straps.trans h.straps, k.inHand.trans h.inHand, fun q => ?_, fun d => (k.valid d).trans (h.valid d),
    fun hs => k.held (h.held hs)⟩
  rcases h.ports q with hsame | ⟨hdoze, hwoke⟩
  · rw [← hsame]
    exact k.ports q
  · rcases k.ports q with hsame' | ⟨hdoze', _⟩
    · exact .inr ⟨hdoze, hsame'.trans hwoke⟩
    · rw [hwoke, enterWaking_state] at hdoze'
      cases hdoze'

theorem Steady.ite {c : Prop} [Decidable c] (ht : Steady s t) (hu : Steady s u) : Steady s (if c then t else u) := by
  split
  · exact ht
  · exact hu

/-! ## The pool -/

/-- The buffers of a state part by part. -/
theorem poolHeld_eq (s : State) :
    s.poolHeld = s.inHand + tiuHeld (s.side .up) + tiuHeld (s.side .down) + sendingHeld (s.port .sp1).sending
      + sendingHeld (s.port .sp2).sending + s.sps.waiting.length + s.gw.toOffice.length := rfl

theorem poolFree_eq (s : State) : s.poolFree = 512 - s.poolHeld := rfl

/-- A change that takes no buffer. -/
theorem Steady.of_lighter (hstraps : t.straps = s.straps) (hhand : t.inHand = s.inHand) (hports : t.ports = s.ports)
    (hvalid : ∀ d, (t.entry d).valid = (s.entry d).valid) (htiu : ∀ d, tiuHeld (t.side d) ≤ tiuHeld (s.side d))
    (hsps : t.sps.waiting.length ≤ s.sps.waiting.length) (hgw : t.gw.toOffice.length ≤ s.gw.toOffice.length) :
    Steady s t := by
  have hport (q : Port) : t.port q = s.port q := by rw [State.port, hports, State.port]
  refine ⟨hstraps, hhand, fun q => .inl (hport q), hvalid, fun hs => ?_⟩
  have hup := htiu .up
  have hdown := htiu .down
  rw [poolHeld_eq] at hs ⊢
  rw [hhand, hport, hport]
  omega

/-- The parts that the pool, the ports' states and the Reach Table stand in. -/
def heavyParts : List Part := [.straps, .inHand, .ports, .tiu, .reach, .sps, .gw]

/-- A change of other parts is steady. -/
theorem Steady.of_within {parts : List Part} (h : Within parts s t)
    (k : heavyParts.all (fun q => !parts.contains q) = true) : Steady s t := by
  have hout (q : Part) (hq : q ∈ heavyParts) : q ∉ parts := by
    intro hmem
    have hclear := List.all_eq_true.mp k q hq
    rw [List.contains_iff_mem.mpr hmem] at hclear
    cases hclear
  have hsps : t.sps = s.sps := h .sps (hout .sps (by decide))
  have hgw : t.gw = s.gw := h .gw (hout .gw (by decide))
  refine .of_lighter (h .straps (hout .straps (by decide))) (h .inHand (hout .inHand (by decide)))
    (h .ports (hout .ports (by decide))) (fun d => ?_) (fun d => ?_) ?_ ?_
  · rw [entry_of_within h (hout .reach (by decide)) d]
  · exact Nat.le_of_eq (congrArg tiuHeld (side_of_within h (hout .tiu (by decide)) d))
  · exact Nat.le_of_eq (congrArg (fun x : Sps => x.waiting.length) hsps)
  · exact Nat.le_of_eq (congrArg (fun g : Gateway => g.toOffice.length) hgw)

theorem side_setSide (s : State) (d x : Side) (v : Tiu) : (s.setSide d v).side x = if x = d then v else s.side x := by
  cases d with
  | up => cases x with
    | up => rfl
    | down => rfl
  | down => cases x with
    | up => rfl
    | down => rfl

theorem Steady.setSide {d : Side} {v : Tiu} (h : tiuHeld v ≤ tiuHeld (s.side d)) : Steady s (s.setSide d v) := by
  refine .of_lighter rfl rfl rfl (fun _ => rfl) (fun x => ?_) (Nat.le_refl _) (Nat.le_refl _)
  rw [side_setSide]
  split
  · next heq => rw [heq]; exact h
  · exact Nat.le_refl _

theorem poolHeld_setSide (s : State) (d : Side) (v : Tiu) :
    (s.setSide d v).poolHeld + tiuHeld (s.side d) = s.poolHeld + tiuHeld v := by
  have hrest : s.poolHeld = s.inHand + tiuHeld (s.side .up) + tiuHeld (s.side .down)
      + (sendingHeld (s.port .sp1).sending + sendingHeld (s.port .sp2).sending + s.sps.waiting.length
        + s.gw.toOffice.length) := by
    rw [poolHeld_eq]
    omega
  have hset : (s.setSide d v).poolHeld
      = s.inHand + tiuHeld ((s.setSide d v).side .up) + tiuHeld ((s.setSide d v).side .down)
        + (sendingHeld (s.port .sp1).sending + sendingHeld (s.port .sp2).sending + s.sps.waiting.length
          + s.gw.toOffice.length) := by
    rw [poolHeld_eq]
    change s.inHand + _ + _ + sendingHeld (s.port .sp1).sending + sendingHeld (s.port .sp2).sending
      + s.sps.waiting.length + s.gw.toOffice.length = _
    omega
  rw [hrest, hset, side_setSide, side_setSide]
  cases d with
  | up => rw [if_pos rfl, if_neg (by decide)]; omega
  | down => rw [if_neg (by decide), if_pos rfl]; omega

/-- A buffer taken from the pool for a place in a side's queues. -/
theorem Steady.setSide_taking {d : Side} {v : Tiu} (h : tiuHeld v ≤ tiuHeld (s.side d) + 1) (hfree : 0 < s.poolFree) :
    Steady s (s.setSide d v) := by
  refine ⟨rfl, rfl, fun _ => .inl rfl, fun _ => rfl, fun _ => ?_⟩
  have hsum := poolHeld_setSide s d v
  rw [poolFree_eq] at hfree
  omega

theorem Steady.countSide (d : Side) (f : SideCounts → SideCounts) : Steady s (s.countSide d f) :=
  .setSide (Nat.le_refl _)

theorem Steady.countNode (f : NodeCounts → NodeCounts) : Steady s (s.countNode f) :=
  .of_within (within_countNode s f) (by decide)

theorem Steady.countCcu (f : CcuCounts → CcuCounts) : Steady s (s.countCcu f) :=
  .of_within (within_countCcu s f) (by decide)

theorem Steady.countCsd (f : CsdCounts → CsdCounts) : Steady s (s.countCsd f) :=
  .of_within (within_countCsd s f) (by decide)

theorem Steady.countLine (l : Line) (f : LineCounts → LineCounts) : Steady s (s.countLine l f) :=
  .of_within (within_countLine s l f) (by decide)

theorem Steady.setLine (l : Line) (x : PhoneLine) : Steady s (s.setLine l x) :=
  .of_within (within_setLine s l x) (by decide)

theorem Steady.setRecord (l : Line) (r : CallRecord) : Steady s (setRecord s l r) :=
  .of_within (within_setRecord s l r) (by decide)

theorem Steady.setTable (d : Side) (q : List SrtEntry) : Steady s (s.setTable d q) :=
  .of_within (within_setTable s d q) (by decide)

/-- A change of the sign that waits for no more. -/
theorem Steady.withSps {x : Sps} (h : x.waiting.length ≤ s.sps.waiting.length) : Steady s { s with sps := x } :=
  .of_lighter rfl rfl rfl (fun _ => rfl) (fun _ => Nat.le_refl _) h (Nat.le_refl _)

/-- A change of the gateway that queues no more to the office. -/
theorem Steady.withGw {g : Gateway} (h : g.toOffice.length ≤ s.gw.toOffice.length) : Steady s { s with gw := g } :=
  .of_lighter rfl rfl rfl (fun _ => rfl) (fun _ => Nat.le_refl _) (Nat.le_refl _) h

theorem Steady.countSps (f : SpsCounts → SpsCounts) : Steady s (s.countSps f) := .withSps (Nat.le_refl _)

theorem Steady.countGw (f : GatewayCounts → GatewayCounts) : Steady s (s.countGw f) := .withGw (Nat.le_refl _)

theorem Steady.setChannel (n : Nat) (c : OfficeChannel) : Steady s (setChannel s n c) := .withGw (Nat.le_refl _)

/-- A buffer taken from the pool for the to-office queue. -/
theorem Steady.officePush (c : Cell) (hfree : 0 < s.poolFree) : Steady s (officePush s c) := by
  refine ⟨rfl, rfl, fun _ => .inl rfl, fun _ => rfl, fun _ => ?_⟩
  have hlength : (Machine.officePush s c).gw.toOffice.length = s.gw.toOffice.length + 1 := by
    change (s.gw.toOffice ++ [c]).length = _
    rw [List.length_append, List.length_singleton]
  rw [poolFree_eq, poolHeld_eq] at hfree
  rw [poolHeld_eq, hlength]
  change s.inHand + tiuHeld (s.side .up) + tiuHeld (s.side .down) + sendingHeld (s.port .sp1).sending
      + sendingHeld (s.port .sp2).sending + s.sps.waiting.length + (s.gw.toOffice.length + 1) ≤ 512
  omega

/-! ## Waking and offers -/

/-- R31: a side wakes through its port alone. -/
theorem Steady.wakeSide (d : Side) : Steady s (wakeSide s d) := by
  unfold Machine.wakeSide
  split
  · next hdoze =>
    rw [beq_iff_eq] at hdoze
    refine ⟨rfl, rfl, fun q => ?_, fun _ => rfl, fun hs => ?_⟩
    · by_cases hq : q = s.portOf d
      · rw [hq, setPort_port]
        exact .inr ⟨hdoze, rfl⟩
      · exact .inl (setPort_ne s (s.portOf d) q _ hq)
    · rw [poolHeld_setPort s (s.portOf d) (enterWaking (s.sidePort d)) rfl]
      exact hs
  · exact .refl s

theorem tiuHeld_insPush (v : Tiu) (c : Cell) :
    tiuHeld (insPush v c) = tiuHeld v + if cellClass c = .link then 0 else 1 := by
  unfold insPush
  split
  · next h => rw [if_pos h]; rfl
  · next h => rw [if_neg (by rw [h]; decide)]; simp only [tiuHeld, List.length_append, List.length_singleton]; omega
  · next h => rw [if_neg (by rw [h]; decide)]; simp only [tiuHeld, List.length_append, List.length_singleton]; omega
  · next h => rw [if_neg (by rw [h]; decide)]; simp only [tiuHeld, List.length_append, List.length_singleton]; omega
  · next h => rw [if_neg (by rw [h]; decide)]; simp only [tiuHeld, List.length_append, List.length_singleton]; omega

theorem classFloor_pos (k : Class) : 16 ≤ classFloor k := by
  cases k <;> decide

/-- R38, R45: a side takes a cell other than LINK while its floor is met. -/
theorem floor_of_taken {d : Side} {c : Cell} (h : offerAnswer s d c = .taken) (hclass : cellClass c ≠ .link) :
    classFloor (cellClass c) ≤ s.poolFree := by
  unfold offerAnswer at h
  split at h
  · cases h
  · split at h
    · cases h
    · split at h
      · cases h
      · split at h
        · next htest =>
          rw [Bool.or_eq_true, beq_iff_eq, decide_eq_true_eq] at htest
          exact htest.resolve_left hclass
        · cases h

/-- R45: whatever becomes of an offer, the pool keeps to its buffers. -/
theorem Steady.offerEffect (d : Side) (c : Cell) : Steady s (offerEffect s d c) := by
  unfold Machine.offerEffect
  split
  · next htaken =>
    split
    · next hlink =>
      rw [beq_iff_eq] at hlink
      exact .setSide (by rw [tiuHeld_insPush, if_pos hlink]; exact Nat.le_refl _)
    · next hlink =>
      rw [beq_iff_eq] at hlink
      have hfloor : classFloor (cellClass c) ≤ s.poolFree := floor_of_taken htaken hlink
      have hpushed : Steady s (s.setSide d (insPush (s.side d) c)) :=
        .setSide_taking (Nat.le_of_eq (by rw [tiuHeld_insPush, if_neg hlink])) (by have := classFloor_pos (cellClass c); omega)
      exact hpushed.trans (.wakeSide d)
  · exact .countNode _
  · exact .countSide d _
  · exact .countSide d _
  · exact .countNode _

theorem Steady.offerControl (d : Side) (c : Cell) : Steady s (offerControl s d c) :=
  .ite (.offerEffect d c) ((Steady.offerEffect d c).trans (.countCcu _))

theorem tiuHeld_putBackPressure (v : Tiu) (c : Cell) : tiuHeld (putBackPressure v c) = tiuHeld v := by
  unfold putBackPressure
  split
  · rfl
  · split
    · rfl
    · rfl

theorem Steady.makeHold (d : Side) : Steady s (makeHold s d) :=
  .setSide (Nat.le_of_eq (tiuHeld_putBackPressure (s.side d) (linkCell s.station .hold)))

theorem Steady.makeResume (d : Side) : Steady s (makeResume s d) :=
  .setSide (Nat.le_of_eq (tiuHeld_putBackPressure (s.side d) (linkCell s.station .resume)))

theorem Steady.holdCheck (d : Side) : Steady s (holdCheck s d) := .ite (.makeHold (otherSide d)) (.refl s)

theorem Steady.resumeCheck (d : Side) : Steady s (resumeCheck s d) := .ite (.makeResume (otherSide d)) (.refl s)

theorem Steady.withdraw (d : Side) (q : Half) : Steady s (withdraw s d q) := by
  refine .setSide ?_
  have hfewer : ((s.side d).insToll.eraseP (isRecord q)).length ≤ (s.side d).insToll.length :=
    List.length_eraseP_le
  simp only [tiuHeld]
  omega

end

end Sys2Proof.Machine
end

section
/-! PROOFS. The operations of custody, of the office and of the circuits are steady (R36, R38, R65). -/

set_option Elab.async false

namespace Sys2Proof.Machine

section
variable {s t : State}

/-! ## Custody -/

theorem Steady.withCsd (c : Csd) : Steady s { s with csd := c } := .of_within (within_withCsd s c) (by decide)

theorem Steady.evalFlow : Steady s (evalFlow s) := .of_within (within_evalFlow s) (by decide)

theorem Steady.changeEntry (q : Half) (f : CustodyEntry → CustodyEntry) : Steady s (s.changeEntry q f) :=
  .of_within (within_changeEntry s q f) (by decide)

theorem Steady.dispatched (e : CustodyEntry) (d : Side) : Steady s (dispatched s e d) :=
  ((Steady.offerEffect d (recordCell s e)).trans (.changeEntry e.sequence _)).trans (.countCsd _)

theorem Steady.dispatchRefusal (e : CustodyEntry) (d : Side) : Steady s (dispatchRefusal s e d) :=
  ((Steady.offerEffect d (recordCell s e)).trans (.countCsd _)).trans (.withCsd _)

theorem Steady.directed {e : CustodyEntry} {d : Side} (h : directed s e = some (d, t)) : Steady s t :=
  .of_within (within_directed h) (by decide)

theorem Steady.passSteps (n : Nat) : ∀ s : State, Steady s (passSteps n s) := by
  induction n with
  | zero => exact fun s => .refl s
  | succ n ih =>
    intro s
    unfold Machine.passSteps
    split
    · exact .refl s
    · split
      · exact .refl s
      · next e _ =>
        split
        · exact .refl s
        · next d t hdirected =>
          have ht : Steady s t := .directed hdirected
          split
          · exact (ht.trans (.dispatched e d)).trans (ih _)
          · exact ht.trans (.dispatchRefusal e d)

theorem Steady.dispatchPass : Steady s (dispatchPass s) := .ite (.passSteps _ s) (.refl s)

theorem Steady.completeRecord (d : Side) (q : Half) : Steady s (completeRecord s d q) :=
  .of_within (within_completeRecord s d q) (by decide)

theorem Steady.withdrawAll (d : Side) (l : List Half) : ∀ s : State, Steady s (l.foldl (fun x q => Machine.withdraw x d q) s) := by
  induction l with
  | nil => exact fun s => .refl s
  | cons q l ih => exact fun s => (Steady.withdraw d q).trans (ih _)

theorem Steady.custodyPortDown (d : Side) : Steady s (custodyPortDown s d) := by
  have hwithdrawn := Steady.withdrawAll d (dispatchingTo s.csd.store d) s
  exact .ite ((hwithdrawn.trans (.withCsd _)).trans .dispatchPass) (.refl s)

theorem Steady.reachWithdraw (d : Side) (q : Half) : Steady s (reachWithdraw d s q) :=
  .ite (((Steady.withdraw d q).trans (.changeEntry q queueEntry)).trans (.countCsd _)) (.refl s)

theorem Steady.reachWithdrawAll (d : Side) (l : List Half) : ∀ s : State, Steady s (l.foldl (Machine.reachWithdraw d) s) := by
  induction l with
  | nil => exact fun s => .refl s
  | cons q l ih => exact fun s => (Steady.reachWithdraw d q).trans (ih _)

theorem Steady.custodyReachLost (d : Side) : Steady s (custodyReachLost s d) := by
  have hwithdrawn := Steady.reachWithdrawAll d (dispatchingTo s.csd.store d) s
  exact .ite (.ite (hwithdrawn.trans .dispatchPass) hwithdrawn) (.refl s)

theorem Steady.removeEntry (e : CustodyEntry) : Steady s (removeEntry s e) := by
  unfold Machine.removeEntry
  split
  · next d _ => exact (Steady.withdraw d e.sequence).trans (.withCsd _)
  · exact .withCsd _

theorem Steady.takeAck (q : Half) : Steady s (takeAck s q) := by
  unfold Machine.takeAck
  split
  · next e _ => exact ((Steady.removeEntry e).trans .evalFlow).trans .dispatchPass
  · exact .countCsd _

theorem Steady.retryExpired (q : Half) : Steady s (retryExpired s q) :=
  ((Steady.changeEntry q queueEntry).trans (.countCsd _)).trans .dispatchPass

/-! ## The office -/

theorem pool_of_floor {k : Class} (h : floorMet s k = true) : 0 < s.poolFree := by
  rw [floorMet, decide_eq_true_eq] at h
  have hpos := classFloor_pos k
  omega

theorem Steady.countPool (k : Class) : Steady s (countPool s k) := .countNode _

theorem Steady.giveNotice (c : Cell) : Steady s (giveNotice s c) := by
  unfold Machine.giveNotice
  split
  · exact .countGw _
  · split
    · next hfloor => exact .officePush c (pool_of_floor hfloor)
    · exact (Steady.countGw _).trans (.countPool .call)

theorem Steady.answerToOffice (c : Cell) : Steady s (answerToOffice s c) := by
  unfold Machine.answerToOffice
  split
  · exact .countGw _
  · split
    · next hfloor => exact .officePush _ (pool_of_floor hfloor)
    · exact .countPool _

theorem Steady.setBeaconPeriod (x : Timer) : Steady s (setBeaconPeriod s x) := .withGw (Nat.le_refl _)

theorem Steady.makeBeacon : Steady s (makeBeacon s) := by
  have hoffer : Steady s (Machine.offerEffect s s.inner (beaconCell s)) := .offerEffect _ _
  exact .ite (hoffer.trans (.withGw (Nat.le_refl _))) (hoffer.trans (.countGw _))

theorem Steady.gatewayPortUp : Steady s (gatewayPortUp s) :=
  .ite (Steady.makeBeacon.trans (.setBeaconPeriod _)) (.refl s)

theorem Steady.gatewayPortDown : Steady s (gatewayPortDown s) := .ite (.setBeaconPeriod none) (.refl s)

/-! ## Ends of calls -/

theorem Steady.releaseEntry (d : Side) (id : Identity) : Steady s (releaseEntry s d id) := .setTable d _

theorem Steady.releaseBoth (id : Identity) : Steady s (releaseBoth s id) :=
  .of_within (within_releaseBoth s id) (by decide)

theorem Steady.changeBoth (id : Identity) (f : SrtEntry → SrtEntry) : Steady s (changeBoth s id f) :=
  .of_within (within_changeBoth s id f) (by decide)

theorem Steady.releaseOwn (r : CallRecord) : Steady s (releaseOwn s r) :=
  .of_within (within_releaseOwn s r) (by decide)

theorem Steady.makeBroken (d : Side) (b : Byte) (id : Identity) (g : Byte) (r : BrokenReason) :
    Steady s (makeBroken s d b id g r) := (Steady.countCcu _).trans (.offerControl d _)

theorem Steady.makeRefuse (d : Side) (id : Identity) (g : Byte) (r : RefuseReason) : Steady s (makeRefuse s d id g r) :=
  (Steady.countCcu _).trans (.offerControl d _)

theorem Steady.freeChain (n : Nat) (id : Identity) : Steady s (freeChain s n id) :=
  (Steady.releaseEntry s.inner id).trans (.setChannel n .free)

theorem Steady.endChainLost (d : Side) (e : SrtEntry) : Steady s (endChainLost s d e) := by
  have hreleased : Steady s (Machine.releaseEntry s d e.identity) := .releaseEntry d e.identity
  unfold Machine.endChainLost
  dsimp only
  split
  · exact (hreleased.trans (.setChannel _ .free)).trans (.giveNotice _)
  · exact hreleased

theorem Steady.preemptChain (e : SrtEntry) : Steady s (preemptChain s e) := by
  unfold Machine.preemptChain
  dsimp only
  split
  · exact (((Steady.countCcu _).trans (.freeChain _ e.identity)).trans (.makeBroken _ _ _ _ _)).trans (.giveNotice _)
  · exact ((Steady.countCcu _).trans (.releaseEntry _ e.identity)).trans (.makeBroken _ _ _ _ _)

theorem Steady.preemptPath (d : Side) (e : SrtEntry) : Steady s (preemptPath s d e) :=
  (Steady.makeBroken _ _ _ _ _).trans (.makeBroken _ _ _ _ _)

theorem Steady.preemptEntry (d : Side) (e : SrtEntry) : Steady s (preemptEntry s d e) := by
  unfold Machine.preemptEntry
  dsimp only
  split
  · exact ((Steady.countCcu _).trans (.releaseBoth e.identity)).trans (.preemptPath d e)
  · exact (Steady.countCcu _).trans (.releaseEntry d e.identity)
  · exact (Steady.countCcu _).trans (.releaseEntry d e.identity)

/-! ## Attempts -/

theorem Steady.ownRoom {may : Bool} {k : Spoken} {d : Side} {r : CallRecord} {v : Option Line}
    (h : ownRoom may k s d r = some (t, v)) : Steady s t := by
  unfold Machine.ownRoom at h
  split at h
  · cases h
    exact .refl s
  · split at h
    · split at h
      · cases h
        exact .preemptEntry d _
      · cases h
    · cases h

theorem Steady.enterWaiting (l : Line) (r : CallRecord) : Steady s (enterWaiting s l r) := .setRecord l _

theorem Steady.takeSerial (l : Line) (r : CallRecord) : Steady s (takeSerial s l r) := .setLine l _

theorem Steady.reserveOwn (l : Line) (d : Side) (r : CallRecord) : Steady s (reserveOwn s l d r) :=
  (Steady.setTable d _).trans (.takeSerial l r)

theorem Steady.settleVictim {broken : State → Line → State} (hb : ∀ s l, Steady s (broken s l)) (v : Option Line) :
    Steady s (settleVictim broken s v) := by
  cases v with
  | some l => exact hb s l
  | none => exact .refl s

theorem Steady.attemptSteps {may : Bool} {k : Spoken} {broken : Spoken → State → Line → State}
    (hb : ∀ k s l, Steady s (broken k s l)) (n : Nat) : ∀ s l r, Steady s (attemptSteps may k broken n s l r) := by
  induction n with
  | zero => exact fun s l r => .enterWaiting l r
  | succ n ih =>
    intro s l r
    unfold Machine.attemptSteps
    split
    · exact .enterWaiting l r
    · next d _ =>
      split
      · exact ih _ _ _
      · next t v hroom =>
        dsimp only
        have hsettled : Steady s (Machine.settleVictim (broken (spokenOwn d)) t v) :=
          (Steady.ownRoom hroom).trans (.settleVictim (hb (spokenOwn d)) v)
        have hreserved : Steady s (Machine.reserveOwn (Machine.settleVictim (broken (spokenOwn d)) t v) l d r) :=
          hsettled.trans (.reserveOwn l d r)
        split
        · exact ((hreserved.trans (.offerEffect d _)).trans (.setRecord l _)).trans (.countLine l _)
        · exact ((hreserved.trans (.offerEffect d _)).trans (.releaseEntry d _)).trans (ih _ _ _)

theorem pool_of_channelGranted (h : channelGranted s = true) : 0 < s.poolFree := by
  rw [channelGranted, Bool.and_eq_true] at h
  exact pool_of_floor h.2

theorem poolFree_setChannel (n : Nat) (c : OfficeChannel) : (setChannel s n c).poolFree = s.poolFree := rfl

theorem Steady.grantChannel (n : Nat) (id : Identity) (g : Grade) (hfree : 0 < s.poolFree) :
    Steady s (grantChannel s n id g) := by
  have hfree' : 0 < (Machine.setChannel s n (.localCall id g (some entryTimerMs))).poolFree := hfree
  exact ((Steady.setChannel n _).trans (.officePush _ hfree')).trans (.countGw _)

theorem Steady.channelRefusal : Steady s (channelRefusal s) :=
  .ite ((Steady.countCcu _).trans (.countPool .call)) (.countCcu _)

theorem Steady.officeAttempt (l : Line) (r : CallRecord) : Steady s (officeAttempt s l r) := by
  have hcounted : Steady s (countAttempt (Machine.takeSerial s l r) l) := (Steady.takeSerial l r).trans (.countLine l _)
  unfold Machine.officeAttempt
  dsimp only
  split
  · next hgranted _ =>
    exact ((hcounted.trans (.grantChannel _ _ r.grade (pool_of_channelGranted hgranted))).trans (.setLine l _)).trans
      (.countLine l _)
  · exact (hcounted.trans .channelRefusal).trans (.enterWaiting l r)

theorem Steady.attemptPlain (k : Spoken) (l : Line) (r : CallRecord) : Steady s (attemptPlain k s l r) :=
  .ite (.officeAttempt l r) (.attemptSteps (fun _ s _ => .refl s) 3 s l r)

theorem Steady.breakRecord {att : State → Line → CallRecord → State} (ha : ∀ s l r, Steady s (att s l r)) (l : Line) :
    Steady s (breakRecord att s l) := by
  unfold Machine.breakRecord
  split
  · next r _ => exact .ite (((Steady.releaseOwn r).trans (.setLine l _)).trans (ha _ _ _)) (.refl s)
  · exact .refl s

theorem Steady.preemptedRecord (k : Spoken) (l : Line) : Steady s (preemptedRecord k s l) :=
  .breakRecord (fun _ l r => .attemptPlain k l r) l

theorem Steady.attempt (l : Line) (r : CallRecord) : Steady s (attempt s l r) :=
  .ite (.officeAttempt l r) (.attemptSteps (fun k _ l => .preemptedRecord k l) 3 s l r)

theorem Steady.recordBroken (l : Line) : Steady s (recordBroken s l) := .breakRecord (fun _ l r => .attempt l r) l

theorem Steady.recordRefused (l : Line) : Steady s (recordRefused s l) := by
  unfold Machine.recordRefused
  split
  · next r _ => exact (Steady.releaseOwn r).trans (.attempt l _)
  · exact .refl s

theorem Steady.recordReleased (l : Line) : Steady s (recordReleased s l) := by
  unfold Machine.recordReleased
  split
  · next r _ => exact (Steady.releaseOwn r).trans (.setLine l _)
  · exact .refl s

theorem Steady.playoutPush (l : Line) (b : List Byte) : Steady s (playoutPush s l b) :=
  .of_within (within_playoutPush s l b) (by decide)

theorem Steady.recordAccepted (l : Line) (r : CallRecord) (id : Identity) (d : Side) :
    Steady s (recordAccepted s l r id d) := by
  unfold Machine.recordAccepted countConnected
  exact ((Steady.setTable d _).trans (.setLine l _)).trans (.countLine l _)

/-! ## CALL cells -/

theorem Steady.takeStale (a : Side) (c : Cell) : Steady s (takeStale s a c) := by
  have hanswer : Steady s (answerStale s a c) :=
    .ite (.refl s) (((Steady.offerControl a _).trans (.setLine _ _)).trans (.countLine _ _))
  unfold Machine.takeStale
  split
  · exact hanswer
  · exact hanswer
  · exact .refl s

theorem Steady.takeSeeking (l : Line) (r : CallRecord) (id : Identity) (d : Side) (k : Kind) :
    Steady s (takeSeeking s l r id d k) := by
  unfold Machine.takeSeeking
  split
  · exact .recordAccepted l r id d
  · exact .recordRefused l
  · exact .recordBroken l
  · exact .recordReleased l
  · exact .refl s

theorem Steady.takeConnected (l : Line) (id : Identity) (d : Side) (c : Cell) : Steady s (takeConnected s l id d c) := by
  unfold Machine.takeConnected
  split
  · exact (Steady.setTable d _).trans (.playoutPush l _)
  · exact .recordBroken l
  · exact .recordReleased l
  · exact .refl s

theorem Steady.takeAtOrigin (a : Side) (c : Cell) : Steady s (takeAtOrigin s a c) := by
  unfold Machine.takeAtOrigin
  dsimp only
  split
  · split
    · exact .takeSeeking _ _ _ _ _
    · exact .takeConnected _ _ _ c
    · exact .takeStale a c
  · exact .takeStale a c

theorem Steady.reservePath (a : Side) (id : Identity) (g : Grade) : Steady s (reservePath s a id g) :=
  (Steady.setTable (otherSide a) _).trans (.setTable a _)

theorem Steady.yieldTable (d : Side) : Steady s (yieldTable s d) := by
  unfold Machine.yieldTable
  split
  · split
    · next e _ => exact (Steady.preemptEntry d e).trans (.settleVictim (fun _ l => .preemptedRecord spokenPath l) _)
    · exact .refl s
  · exact .refl s

theorem Steady.preemptAndReserve (a : Side) (id : Identity) (g : Grade) : Steady s (preemptAndReserve s a id g) :=
  ((Steady.yieldTable (otherSide a)).trans (.yieldTable a)).trans (.reservePath a id g)

theorem Steady.changePath (id : Identity) (f : SrtEntry → SrtEntry) : Steady s (changePath s id f) :=
  .of_within (within_changePath s id f) (by decide)

theorem Steady.releasePath (id : Identity) : Steady s (releasePath s id) :=
  .of_within (within_releasePath s id) (by decide)

theorem Steady.gatewayPreempt : Steady s (gatewayPreempt s) := by
  unfold Machine.gatewayPreempt
  split
  · exact .preemptChain _
  · exact .refl s

theorem Steady.playLocal (n : Nat) (id : Identity) (g : Grade) (c : CellData) : Steady s (playLocal s n id g c) :=
  (Steady.setChannel n _).trans (.playoutPush _ _)

/-! ## The loss of a side -/

theorem Steady.breakHeld (d : Side) (e : SrtEntry) : Steady s (breakHeld d s e) := by
  have hbroken : Steady s (breakEntry d s e) := by
    unfold breakEntry
    split
    · exact (Steady.releaseBoth e.identity).trans (.makeBroken _ _ _ _ _)
    · exact (Steady.releaseEntry d e.identity).trans (.recordBroken _)
    · exact .endChainLost d e
  exact .ite hbroken (.refl s)

theorem Steady.breakAll (d : Side) (q : List SrtEntry) : ∀ s : State, Steady s (q.foldl (Machine.breakHeld d) s) := by
  induction q with
  | nil => exact fun s => .refl s
  | cons e q ih => exact fun s => (Steady.breakHeld d e).trans (ih _)

theorem Steady.circuitsPortDown (d : Side) : Steady s (circuitsPortDown s d) := .breakAll d _ s

end

end Sys2Proof.Machine
end

section
/-! PROOFS. What a cell in hand and the commands keep of the pool, of the states of the ports and of the Reach Table (R36 to
R38, R65). -/

set_option Elab.async false

namespace Sys2Proof.Machine

/-- From `s` to `t` no port enters or leaves service, no entry of the Reach Table becomes VALID or INVALID, and under `fits`
the pool keeps to its buffers. -/
structure Handled (fits : Prop) (s t : State) : Prop where
  straps : t.straps = s.straps
  service : ∀ q, inServiceState (t.port q).state = inServiceState (s.port q).state
  valid : ∀ d, (t.entry d).valid = (s.entry d).valid
  held : fits → t.poolHeld ≤ 512

/-- The cell in hand, in its own buffer, may be placed once or let go. -/
abbrev Spends (s t : State) : Prop := Handled (s.inHand = 1 ∧ s.poolHeld ≤ 512) s t

/-- The pool of `s` is within its buffers. -/
abbrev Settled (s t : State) : Prop := Handled (s.poolHeld ≤ 512) s t

section
variable {s t u : State} {fits : Prop}

theorem Steady.service (h : Steady s t) (q : Port) :
    inServiceState (t.port q).state = inServiceState (s.port q).state := by
  rcases h.ports q with hsame | ⟨hdoze, hwoke⟩
  · rw [hsame]
  · rw [hwoke, hdoze]
    rfl

theorem Steady.settled (h : Steady s t) : Settled s t := ⟨h.straps, h.service, h.valid, h.held⟩

theorem Handled.weaken {fits' : Prop} (h : Handled fits s t) (k : fits' → fits) : Handled fits' s t :=
  ⟨h.straps, h.service, h.valid, fun hfits => h.held (k hfits)⟩

theorem Steady.spends (h : Steady s t) : Spends s t := h.settled.weaken (fun hfits => hfits.2)

theorem Handled.trans (h : Handled fits s t) (k : Settled t u) : Handled fits s u :=
  ⟨k.straps.trans h.straps, fun q => (k.service q).trans (h.service q), fun d => (k.valid d).trans (h.valid d),
    fun hfits => k.held (h.held hfits)⟩

theorem Handled.steady (h : Handled fits s t) (k : Steady t u) : Handled fits s u := h.trans k.settled

theorem Steady.spending (h : Steady s t) (k : Spends t u) : Spends s u :=
  ⟨k.straps.trans h.straps, fun q => (k.service q).trans (h.service q), fun d => (k.valid d).trans (h.valid d),
    fun hfits => k.held ⟨h.inHand.trans hfits.1, h.held hfits.2⟩⟩

theorem Handled.ite {c : Prop} [Decidable c] (ht : Handled fits s t) (hu : Handled fits s u) :
    Handled fits s (if c then t else u) := by
  split
  · exact ht
  · exact hu

/-! ## The buffer in hand -/

theorem poolHeld_withInHand (s : State) (n : Nat) : State.poolHeld { s with inHand := n } + s.inHand = s.poolHeld + n := by
  rw [poolHeld_eq, poolHeld_eq]
  change n + tiuHeld (s.side .up) + tiuHeld (s.side .down) + sendingHeld (s.port .sp1).sending
      + sendingHeld (s.port .sp2).sending + s.sps.waiting.length + s.gw.toOffice.length + s.inHand = _
  omega

/-- What takes at most the one buffer that a cell in hand lets go. -/
theorem Handled.release (h : Handled (State.poolHeld { s with inHand := 0 } < 512) { s with inHand := 0 } t) :
    Spends s t :=
  ⟨h.straps, h.service, h.valid, fun ⟨hhand, hpool⟩ => h.held (by have hsum := poolHeld_withInHand s 0; omega)⟩

/-- A cell in hand that is dropped. -/
theorem spends_drop (h : Steady { s with inHand := 0 } t) : Spends s t :=
  Handled.release (h.settled.weaken (fun hpool => Nat.le_of_lt hpool))

theorem settled_drop : Settled s { s with inHand := 0 } :=
  ⟨rfl, fun _ => rfl, fun _ => rfl, fun hpool => by have hsum := poolHeld_withInHand s 0; omega⟩

/-! ## Cells placed without a test of the pool -/

theorem tiuHeld_transitPush (v : Tiu) (c : Cell) : tiuHeld (transitPush v c) = tiuHeld v + 1 := by
  unfold transitPush
  split
  · simp only [tiuHeld, List.length_append, List.length_singleton]
    omega
  · simp only [tiuHeld, List.length_append, List.length_singleton]
    omega

theorem room_setSide {d : Side} {v : Tiu} (h : tiuHeld v ≤ tiuHeld (s.side d) + 1) :
    Handled (s.poolHeld < 512) s (s.setSide d v) :=
  ⟨rfl, fun _ => rfl, fun _ => rfl, fun hpool => (Steady.setSide_taking h (by rw [poolFree_eq]; omega)).held (by omega)⟩

theorem room_officePush (c : Cell) : Handled (s.poolHeld < 512) s (officePush s c) :=
  ⟨rfl, fun _ => rfl, fun _ => rfl, fun hpool => (Steady.officePush c (by rw [poolFree_eq]; omega)).held (by omega)⟩

theorem Steady.room (h : Steady s t) : Handled (s.poolHeld < 512) s t := h.settled.weaken (fun hpool => Nat.le_of_lt hpool)

theorem room_forwardCell (d : Side) (c : Cell) : Handled (s.poolHeld < 512) s (forwardCell s d c) := by
  unfold forwardCell
  split
  · have hpushed : Handled (s.poolHeld < 512) s (s.setSide d (transitPush (s.side d) (hopped c))) :=
      room_setSide (Nat.le_of_eq (tiuHeld_transitPush _ _))
    exact (hpushed.steady (.wakeSide d)).steady (.holdCheck d)
  · exact (Steady.countNode _).room
  · exact (Steady.countSide d _).room
  · exact (Steady.countSide d _).room

theorem spends_passOn (d : Side) (c : Cell) : Spends s (passOn s d c) := .release (room_forwardCell d c)

/-- R37: the copy that goes on takes a buffer of its own, where there is one. -/
theorem Steady.passCopy (d : Side) (c : Cell) : Steady s (passCopy s d c) := by
  unfold Machine.passCopy
  split
  · exact .countNode _
  · next hfree =>
    have hfree' : 0 < s.poolFree := Nat.pos_of_ne_zero hfree
    unfold forwardCell
    split
    · have hpushed : Steady s (s.setSide d (transitPush (s.side d) (hopped c))) :=
        .setSide_taking (Nat.le_of_eq (tiuHeld_transitPush _ _)) hfree'
      exact (hpushed.trans (.wakeSide d)).trans (.holdCheck d)
    · exact .countNode _
    · exact .countSide d _
    · exact .countSide d _

theorem spends_handOnBeacon (d : Side) (c : Cell) : Spends s (handOnBeacon s d c) := by
  apply Handled.release
  unfold handOnBeacon
  dsimp only
  split
  · exact (Steady.countNode _).room
  · have hslot : tiuHeld { s.side d with beaconSlot := some (hopped c) } ≤ tiuHeld (s.side d) + 1 := by
      simp only [tiuHeld, Option.isSome_some, if_true]
      omega
    have hplaced : Handled (State.poolHeld { s with inHand := 0 } < 512) { s with inHand := 0 }
        (State.setSide { s with inHand := 0 } d { s.side d with beaconSlot := some (hopped c) }) := room_setSide hslot
    split
    · exact hplaced.steady (.countSide d _)
    · exact hplaced

theorem spends_passNotice (c : Cell) : Spends s (passNotice s c) := by
  unfold passNotice
  split
  · exact .release (room_officePush c)
  · exact spends_drop (.countGw _)

theorem spends_passToOffice (c : Cell) : Spends s (passToOffice s c) := by
  unfold passToOffice
  split
  · exact .release (room_officePush _)
  · exact spends_drop (.countGw _)

/-! ## Consumers of a cell in hand -/

theorem spends_carry (a : Side) (c : Cell) {consume : State → State} (h : ∀ t, Spends t (consume t)) :
    Spends s (carry s a c consume) := by
  unfold carry
  split
  · exact h s
  · exact (Steady.passCopy _ c).spending (h _)
  · exact spends_passOn _ c
  · exact spends_drop (.countNode _)

theorem spends_consumeForOffice (c : Cell) : Spends s (consumeForOffice c s) :=
  .ite (spends_passToOffice c) (Steady.countNode _).spends

theorem Steady.makeAck (a : Side) (c : Cell) : Steady s (makeAck s a c) := by
  have hoffer : Steady s (Machine.offerEffect s a (ackCell s c)) := .offerEffect a _
  exact .ite (hoffer.trans (.countGw _)) (hoffer.trans (.countGw _))

theorem spends_passRecord (c : Cell) (k : TollClass) : Spends s (passRecord s c k) :=
  (Handled.release (room_officePush _)).steady (.withGw (Nat.le_refl _))

theorem spends_takeRecord (a : Side) (c : Cell) : Spends s (takeRecord s a c) :=
  .ite (spends_drop ((Steady.countGw _).trans (.makeAck a c)))
    (.ite ((spends_passRecord c _).steady (.makeAck a c)) (spends_drop (.countGw _)))

theorem spends_consumeRecord (a : Side) (c : Cell) : Spends s (consumeRecord a c s) :=
  .ite (spends_takeRecord a c) (Steady.countNode _).spends

theorem Steady.consumeAck (c : Cell) : Steady s (consumeAck c s) := .ite (.takeAck _) (.countNode _)

theorem spends_consumeSign (a : Side) (c : Cell) : Spends s (consumeSign a c s) := by
  unfold consumeSign
  split
  · apply Handled.release
    refine ⟨rfl, fun _ => rfl, fun _ => rfl, fun hpool => ?_⟩
    have hlength : (s.sps.waiting ++ [({ cell := c, side := some a } : SignTask)]).length = s.sps.waiting.length + 1 := by
      rw [List.length_append, List.length_singleton]
    rw [poolHeld_eq] at hpool ⊢
    change 0 + tiuHeld (s.side .up) + tiuHeld (s.side .down) + sendingHeld (s.port .sp1).sending
      + sendingHeld (s.port .sp2).sending
      + (s.sps.waiting ++ [({ cell := c, side := some a } : SignTask)]).length + s.gw.toOffice.length ≤ 512
    change 0 + tiuHeld (s.side .up) + tiuHeld (s.side .down) + sendingHeld (s.port .sp1).sending
      + sendingHeld (s.port .sp2).sending + s.sps.waiting.length + s.gw.toOffice.length < 512 at hpool
    omega
  · exact (Steady.countNode _).spends

theorem Steady.countWsu (f : WsuCounts → WsuCounts) : Steady s (s.countWsu f) :=
  .of_within (within_countWsu s f) (by decide)

theorem Steady.withMaint (m : Maint) : Steady s { s with maint := m } := .of_within (within_withMaint s m) (by decide)

theorem Steady.withFreeUses (n : Nat) : Steady s { s with freeUses := n } :=
  .of_within (within_withFreeUses s n) (by decide)

theorem Steady.answerPoll (side : Option Side) (c : CellData) : Steady s (answerPoll s side c) := by
  unfold Machine.answerPoll
  dsimp only
  split
  · exact .ite ((Steady.offerEffect _ _).trans (.countWsu _)) ((Steady.offerEffect _ _).trans (.countWsu _))
  · exact .ite ((Steady.answerToOffice _).trans (.countWsu _)) ((Steady.answerToOffice _).trans (.countWsu _))

theorem Steady.answerQuery (side : Option Side) (c : CellData) : Steady s (answerQuery s side c) := by
  have huse : Steady s { s with freeUses := s.freeUses + 1 } := .withFreeUses _
  unfold Machine.answerQuery
  dsimp only
  split
  · exact .ite ((huse.trans (.offerEffect _ _)).trans (.withMaint _)) ((huse.trans (.offerEffect _ _)).trans (.withMaint _))
  · exact .ite ((huse.trans (.answerToOffice _)).trans (.withMaint _))
      ((huse.trans (.answerToOffice _)).trans (.withMaint _))

theorem Steady.consumePoll (a : Side) (c : Cell) : Steady s (consumePoll a c s) :=
  .ite (.answerPoll (some a) _) (.countNode _)

/-- Every consumer of a TOLL, SIGN or REPORT cell places the cell in hand at most once. -/
theorem spends_consumerOf (k : Kind) (c : CellData) (a : Side) : Spends s (consumerOf k c a s) := by
  unfold consumerOf
  split
  · exact spends_consumeRecord a _
  · exact (Steady.consumeAck _).spends
  · exact (Steady.consumePoll a _).spends
  · exact (Steady.answerQuery (some a) c).spends
  · exact spends_consumeForOffice _
  · exact spends_consumeForOffice _
  · exact spends_consumeForOffice _
  · exact spends_consumeSign a _

/-! ## CALL cells -/

theorem spends_carryOn (a : Side) (c : Cell) : Spends s (carryOn s a c) :=
  .ite (spends_drop (.countNode _)) (spends_passOn _ c)

theorem spends_takeAtPath (a : Side) (c : Cell) : Spends s (takeAtPath s a c) := by
  have hrefuse (id : Identity) (g : Byte) (r : RefuseReason) : Spends s (makeRefuse { s with inHand := 0 } a id g r) :=
    spends_drop (.makeRefuse a id g r)
  unfold takeAtPath
  split
  · unfold pathSetup
    dsimp only
    split
    · exact hrefuse _ _ _
    · exact (Steady.preemptAndReserve a _ _).spending (spends_carryOn a c)
    · exact (Steady.reservePath a _ _).spending (spends_carryOn a c)
  · unfold pathAccept lostAccept
    dsimp only
    split
    · exact (Steady.changePath _ heldEntry).spending (spends_carryOn a c)
    · exact spends_drop (((Steady.withFreeUses (s := { s with inHand := 0 }) (s.freeUses + 2)).trans
        (.makeBroken a _ _ _ _)).trans (.makeBroken _ _ _ _ _))
  · unfold pathUpgrade
    exact .ite ((Steady.changePath _ upgradedEntry).spending (spends_carryOn a c)) (spends_drop (.countCcu _))
  · exact (Steady.changePath _ watchedEntry).spending (spends_carryOn a c)
  · exact (Steady.releasePath _).spending (spends_carryOn a c)

theorem spends_gatewayAccept (c : Cell) (id : Identity) (g : Grade) : Spends s (gatewayAccept s c id g) := by
  unfold gatewayAccept
  split
  · next n _ =>
    dsimp only
    have hoffered (e : List SrtEntry) (x : OfficeChannel) (a : Cell) :
        Steady s (offerControl (setChannel (s.setTable s.inner e) n x) s.inner a) :=
      ((Steady.setTable _ e).trans (.setChannel n x)).trans (.offerControl _ a)
    exact ((hoffered _ _ _).spending (.release (room_officePush _))).steady (.countGw _)
  · exact (Steady.refl s).spends

theorem spends_passVoice (n : Nat) (g : Grade) (c : Cell) : Spends s (passVoice s n g c) := by
  unfold passVoice
  split
  · exact .release (room_officePush _)
  · exact spends_drop (.countGw _)

theorem spends_takeAtGateway (c : Cell) : Spends s (takeAtGateway s c) := by
  have hsame : Spends s s := (Steady.refl s).spends
  unfold takeAtGateway
  split
  · unfold gatewaySetup
    dsimp only
    split
    · exact (Steady.makeRefuse _ _ _ _).spends
    · exact Steady.gatewayPreempt.spending (spends_gatewayAccept c _ _)
    · exact spends_gatewayAccept c _ _
  · unfold gatewayUpgrade
    dsimp only
    split
    · split
      · exact ((Steady.setTable _ _).trans (.setChannel _ _)).spending (spends_passNotice _)
      · exact (Steady.countCcu _).spends
    · exact (Steady.countCcu _).spends
  · unfold gatewayRelease
    dsimp only
    split
    · split
      · exact (Steady.freeChain _ _).spending (spends_passNotice _)
      · exact hsame
    · exact hsame
  · unfold gatewayRelease
    dsimp only
    split
    · split
      · exact (Steady.freeChain _ _).spending (spends_passNotice _)
      · exact hsame
    · exact hsame
  · unfold gatewayVoice
    dsimp only
    split
    · split
      · exact (Steady.setTable _ _).spending (spends_passVoice _ _ c)
      · exact (Steady.playLocal _ _ _ _).spends
      · exact hsame
    · exact (Steady.countGw _).spends
  · exact hsame

theorem spends_takeCall (a : Side) (c : Cell) : Spends s (takeCall s a c) := by
  have hmisdirected : Spends s (misdirected s) := spends_drop (.countCcu _)
  exact .ite (spends_takeAtGateway c)
    (.ite (.ite (Steady.takeAtOrigin a c).spends hmisdirected) (.ite hmisdirected (spends_takeAtPath a c)))

end

end Sys2Proof.Machine
end

section
/-! PROOFS. The commands that take no port into or out of service keep the pool and the Reach Table (R36 to R38, R65). -/

set_option Elab.async false

namespace Sys2Proof.Machine

section
variable {s t u : State} {fits : Prop}

/-! ## Ports -/

/-- A change in which every part of the pool holds no more. -/
theorem settled_of_lighter (hstraps : t.straps = s.straps) (hhand : t.inHand ≤ s.inHand)
    (hservice : ∀ q, inServiceState (t.port q).state = inServiceState (s.port q).state)
    (hsending : ∀ q, sendingHeld (t.port q).sending ≤ sendingHeld (s.port q).sending)
    (hvalid : ∀ d, (t.entry d).valid = (s.entry d).valid) (htiu : ∀ d, tiuHeld (t.side d) ≤ tiuHeld (s.side d))
    (hsps : t.sps.waiting.length ≤ s.sps.waiting.length) (hgw : t.gw.toOffice.length ≤ s.gw.toOffice.length) :
    Settled s t := by
  refine ⟨hstraps, hservice, hvalid, fun hs => ?_⟩
  have hup := htiu .up
  have hdown := htiu .down
  have hsp1 := hsending .sp1
  have hsp2 := hsending .sp2
  rw [poolHeld_eq] at hs ⊢
  omega

theorem settled_setPort {p : Port} {v : PortUnit} (hservice : inServiceState v.state = inServiceState (s.port p).state)
    (hsending : sendingHeld v.sending ≤ sendingHeld (s.port p).sending) : Settled s (s.setPort p v) := by
  refine settled_of_lighter rfl (Nat.le_refl _) (fun q => ?_) (fun q => ?_) (fun _ => rfl) (fun _ => Nat.le_refl _)
    (Nat.le_refl _) (Nat.le_refl _)
  · by_cases hq : q = p
    · rw [hq, setPort_port]; exact hservice
    · rw [setPort_ne s p q v hq]
  · by_cases hq : q = p
    · rw [hq, setPort_port]; exact hsending
    · exact Nat.le_of_eq (by rw [setPort_ne s p q v hq])

/-- A change of a port that keeps its state and its cell in transmission. -/
theorem settled_samePort {p : Port} {v : PortUnit} (hstate : v.state = (s.port p).state)
    (hsending : v.sending = (s.port p).sending) : Settled s (s.setPort p v) :=
  settled_setPort (by rw [hstate]) (Nat.le_of_eq (by rw [hsending]))

theorem settled_refl (s : State) : Settled s s := (Steady.refl s).settled

theorem Steady.then (h : Steady s t) (k : Settled t u) : Settled s u := h.settled.trans k

theorem settled_ended (s t : State) : Settled t (ended s t) := by
  have hport (q : Port) : ((ended s t).port q).state = (t.port q).state
      ∧ ((ended s t).port q).sending = (t.port q).sending := by
    rw [ended_port, settleDoze_fields]
    exact ⟨rfl, rfl⟩
  have hframe : Within [.ports, .inHand] t (ended s t) := by
    intro q hq
    cases q with
    | ports => exact absurd (by decide) hq
    | inHand => exact absurd (by decide) hq
    | _ => rfl
  refine settled_of_lighter (straps_of_within hframe (by decide)) ?_ (fun q => by rw [(hport q).1])
    (fun q => Nat.le_of_eq (by rw [(hport q).2])) (fun d => by rw [entry_of_within hframe (by decide)])
    (fun d => Nat.le_of_eq (by rw [side_of_within hframe (by decide)])) ?_ ?_
  · rw [ended]
    exact Nat.zero_le _
  · exact Nat.le_of_eq (by rw [sps_of_within hframe (by decide)])
  · exact Nat.le_of_eq (by rw [show (ended s t).gw = t.gw from hframe .gw (by decide)])

/-! ## Arrivals -/

theorem settled_receiveCell (p : Port) (c : Cell) : Settled s (receiveCell s p c) := settled_samePort rfl rfl

theorem settled_takeIn (p : Port) : Settled s (takeIn s p) := settled_samePort rfl rfl

theorem settled_stir (p : Port) : Settled s (stir s p) := by
  unfold stir
  split
  · exact settled_samePort rfl rfl
  · next hdoze => exact settled_setPort (by rw [hdoze]; rfl) (Nat.le_refl _)
  · exact settled_refl s

theorem settled_arrive (p : Port) (c : Cell) {act : State → State} (h : ∀ t, Settled t (act t)) :
    Settled s (arrive s p c act) := by
  have hreceived : Settled s (receiveCell s p c) := settled_receiveCell p c
  have hmalformed : Settled (receiveCell s p c) (countMalformed (receiveCell s p c) p) := settled_samePort rfl rfl
  have hturned : Settled (receiveCell s p c) (turnAway (receiveCell s p c) p) := settled_samePort rfl rfl
  exact .ite (settled_refl s)
    (.ite (hreceived.trans hmalformed) (.ite ((hreceived.trans (settled_takeIn p)).trans (h _)) (hreceived.trans hturned)))

/-- R37: an arriving cell is admitted with a free buffer, which it then has in hand. -/
theorem settled_admitCell (c : Cell) {act : State → State} (h : ∀ t, Spends t (act t)) :
    Settled s (admitCell s c act) := by
  unfold admitCell
  split
  · exact (Steady.countNode _).settled
  · split
    · exact (Steady.countNode _).settled
    · next hfree =>
      obtain ⟨hstraps, hservice, hvalid, hheld⟩ := h { s with inHand := 1 }
      refine ⟨hstraps, hservice, hvalid, fun _ => hheld ⟨rfl, ?_⟩⟩
      have hsum := poolHeld_withInHand s 1
      rw [poolFree_eq] at hfree
      omega

theorem settled_transitArrival (p : Port) (c : Cell) {act : State → State} (h : ∀ t, Spends t (act t)) :
    Settled s (transitArrival s p c act) :=
  settled_arrive p c (fun _ => (settled_stir p).trans (settled_admitCell c h))

/-! ## Doze and wake -/

theorem settled_takeDozeReq (ready : Bool) (p : Port) : Settled s (takeDozeReq ready s p) := by
  unfold takeDozeReq
  dsimp only
  split
  · next hup => exact .ite (settled_setPort (by rw [hup]; rfl) (Nat.le_refl _)) (settled_refl s)
  · next hdoze => exact settled_samePort rfl rfl
  · exact settled_refl s

theorem settled_takeDozeAck (p : Port) : Settled s (takeDozeAck s p) := by
  unfold takeDozeAck
  dsimp only
  split
  · next hup =>
    obtain ⟨hstate, _⟩ := hup
    split
    · exact settled_setPort (by rw [hstate]; rfl) (Nat.le_refl _)
    · exact settled_setPort (by rw [hstate]; rfl) (Nat.le_refl _)
  · exact settled_refl s

theorem settled_portUp (fromSeek : Bool) (p : Port) : Settled s (portUp fromSeek s p) := by
  have hcounted (f : PortCounts → PortCounts) : Settled s (s.countPort p f) := settled_samePort rfl rfl
  have hpassed (f : PortCounts → PortCounts) (d : Side) : Settled s (dispatchPass (holdCheck (s.countPort p f) d)) :=
    ((hcounted f).steady (.holdCheck d)).steady .dispatchPass
  exact .ite ((hpassed _ _).steady .gatewayPortUp) (hpassed _ _)

theorem settled_takeWakeBurst (p : Port) : Settled s (takeWakeBurst s p) := by
  unfold takeWakeBurst
  dsimp only
  split
  · next hdoze => exact settled_setPort (by rw [hdoze]; rfl) (Nat.le_refl _)
  · next hwaking =>
    have hup : Settled s (s.setPort p (enterUpFromWake (placeWakeAck s (s.port p)))) :=
      settled_setPort (by rw [hwaking]; rfl) (Nat.le_refl _)
    exact hup.trans (settled_portUp false p)
  · exact settled_samePort rfl rfl
  · exact settled_refl s

theorem settled_takeWakeAck (p : Port) : Settled s (takeWakeAck s p) := by
  unfold takeWakeAck
  split
  · next hwaking =>
    have hup : Settled s (s.setPort p (enterUpFromWake (s.port p))) :=
      settled_setPort (by rw [hwaking]; rfl) (Nat.le_refl _)
    exact hup.trans (settled_portUp false p)
  · exact settled_refl s

/-! ## Light and reset -/

theorem settled_lightOn (p : Port) : Settled s (lightOn s p) := by
  unfold lightOn
  dsimp only
  split
  · exact settled_samePort rfl rfl
  · split
    · next hdark => exact settled_setPort (by rw [hdark]; rfl) (Nat.le_refl _)
    · exact settled_samePort rfl rfl

theorem settled_leaveDark (p : Port) : Settled s (leaveDark s p) := by
  unfold leaveDark
  split
  · next htest =>
    rw [Bool.and_eq_true, beq_iff_eq] at htest
    exact settled_setPort (by rw [htest.2]; rfl) (Nat.le_refl _)
  · exact settled_refl s

theorem settled_intoReset : Settled s (intoReset s) := by
  have hwrite : Settled s (interruptWrite s) := (Steady.of_within (within_interruptWrite s) (by decide)).settled
  have hoff (t : State) : Settled t (transmittersOff t) := by
    refine settled_of_lighter rfl (Nat.le_refl _) (fun q => ?_) (fun q => ?_) (fun _ => rfl) (fun _ => Nat.le_refl _)
      (Nat.le_refl _) (Nat.le_refl _)
    · cases q with
      | sp1 => rfl
      | sp2 => rfl
    · cases q with
      | sp1 => exact Nat.le_refl _
      | sp2 => exact Nat.le_refl _
  exact .ite (hwrite.trans (hoff _)) (settled_refl s)

/-! ## The transmitter -/

theorem tiuHeld_linkChoice {v w : Tiu} {x : Sending} (h : linkChoice v = some (x, w)) :
    tiuHeld w + sendingHeld (some x) ≤ tiuHeld v := by
  unfold linkChoice at h
  split at h
  · cases h
    exact Nat.le_refl _
  · next hslot =>
    cases h
    simp only [tiuHeld, hslot, sendingHeld, pooled, Option.isSome_some, Option.isSome_none, if_true]
    simp
  · cases h

theorem tiuHeld_stripVoice (table : List SrtEntry) (v : Tiu) : tiuHeld (stripVoice table v) ≤ tiuHeld v := by
  unfold stripVoice
  dsimp only
  split
  · simp only [tiuHeld, List.length_drop]
    omega
  · simp only [tiuHeld, List.length_drop]
    omega

theorem tiuHeld_localData {v w : Tiu} {x : Sending} (h : localData v = some (x, w)) :
    tiuHeld w + sendingHeld (some x) ≤ tiuHeld v ∧ w.tqData = v.tqData := by
  unfold localData at h
  split at h
  · next htoll =>
    cases h
    refine ⟨?_, rfl⟩
    simp only [tiuHeld, htoll, sendingHeld, pooled, List.length_cons, if_true]
    omega
  · next htoll hsign =>
    cases h
    refine ⟨?_, rfl⟩
    simp only [tiuHeld, htoll, hsign, sendingHeld, pooled, List.length_cons, if_true]
    omega
  · next htoll hsign hreport =>
    cases h
    refine ⟨?_, rfl⟩
    simp only [tiuHeld, htoll, hsign, hreport, sendingHeld, pooled, List.length_cons, if_true]
    omega
  · cases h

theorem tiuHeld_dataChoice {v w : Tiu} {x : Sending} (h : dataChoice v = some (x, w)) :
    tiuHeld w + sendingHeld (some x) ≤ tiuHeld v := by
  unfold dataChoice at h
  split at h
  · cases h
  · split at h
    · next hlocal _ =>
      cases h
      exact (tiuHeld_localData hlocal).1
    · next hlocal htransit =>
      split at h
      · cases h
        exact (tiuHeld_localData hlocal).1
      · cases h
        simp only [tiuHeld, htransit, sendingHeld, pooled, List.length_cons, if_true]
        omega
    · next htransit =>
      cases h
      simp only [tiuHeld, htransit, sendingHeld, pooled, List.length_cons, if_true]
      omega
    · cases h

theorem tiuHeld_trafficChoice {v w : Tiu} {x : Sending} (h : trafficChoice v = some (x, w)) :
    tiuHeld w + sendingHeld (some x) ≤ tiuHeld v := by
  unfold trafficChoice at h
  split at h
  · next hcall =>
    cases h
    simp only [tiuHeld, hcall, sendingHeld, pooled, List.length_cons, if_true]
    omega
  · next hcall hins =>
    cases h
    simp only [tiuHeld, hcall, hins, sendingHeld, pooled, List.length_cons, if_true]
    omega
  · exact tiuHeld_dataChoice h

/-- R48: the cell chosen for a slot takes its buffer along. -/
theorem tiuHeld_tiuChoice (table : List SrtEntry) (full : Bool) (v : Tiu) :
    tiuHeld (tiuChoice table full v).2 + sendingHeld (tiuChoice table full v).1 ≤ tiuHeld v := by
  unfold tiuChoice
  split
  · next hlink => exact tiuHeld_linkChoice hlink
  · split
    · split
      · next htraffic => exact Nat.le_trans (tiuHeld_trafficChoice htraffic) (tiuHeld_stripVoice table v)
      · exact tiuHeld_stripVoice table v
    · exact Nat.le_refl _

theorem portChoice_keeps {v w : PortUnit} {c : Cell} (h : portChoice v = some (c, w)) :
    w.state = v.state ∧ w.sending = v.sending := by
  unfold portChoice at h
  split at h
  · cases h; exact ⟨rfl, rfl⟩
  · cases h; exact ⟨rfl, rfl⟩
  · cases h; exact ⟨rfl, rfl⟩
  · cases h; exact ⟨rfl, rfl⟩
  · cases h

theorem poolHeld_sending (s : State) (p : Port) (v : PortUnit) :
    (s.setPort p v).poolHeld + sendingHeld (s.port p).sending = s.poolHeld + sendingHeld v.sending := by
  rw [poolHeld_eq, poolHeld_eq]
  cases p with
  | sp1 =>
    change s.inHand + tiuHeld (s.side .up) + tiuHeld (s.side .down) + sendingHeld v.sending
      + sendingHeld (s.port .sp2).sending + s.sps.waiting.length + s.gw.toOffice.length + _ = _
    omega
  | sp2 =>
    change s.inHand + tiuHeld (s.side .up) + tiuHeld (s.side .down) + sendingHeld (s.port .sp1).sending
      + sendingHeld v.sending + s.sps.waiting.length + s.gw.toOffice.length + _ = _
    omega

theorem settled_tiuSlot (p : Port) (hidle : (s.port p).sending = none) : Settled s (tiuSlot s p) := by
  have hchoice := tiuHeld_tiuChoice (s.table (s.sideOf p)) ((s.port p).state == .up) (s.side (s.sideOf p))
  have hsum := poolHeld_setSide s (s.sideOf p)
    (tiuChoice (s.table (s.sideOf p)) ((s.port p).state == .up) (s.side (s.sideOf p))).2
  unfold tiuSlot
  dsimp only
  split
  · next y hy =>
    rw [hy] at hchoice
    refine ⟨rfl, fun q => ?_, fun _ => rfl, fun hpool => ?_⟩
    · by_cases hq : q = p
      · rw [hq, setPort_port]
        rfl
      · rw [setPort_ne _ p q _ hq]
        rfl
    · have hport := poolHeld_sending (s.setSide (s.sideOf p)
        (tiuChoice (s.table (s.sideOf p)) ((s.port p).state == .up) (s.side (s.sideOf p))).2) p (beginCell (s.port p) y)
      have hbegun : (beginCell (s.port p) y).sending = some y := rfl
      have hbefore : sendingHeld ((s.setSide (s.sideOf p)
        (tiuChoice (s.table (s.sideOf p)) ((s.port p).state == .up) (s.side (s.sideOf p))).2).port p).sending = 0 := by
        change sendingHeld (s.port p).sending = 0
        rw [hidle]
        rfl
      rw [hbegun, hbefore] at hport
      omega
  · have hlighter : Settled s (s.setSide (s.sideOf p)
        (tiuChoice (s.table (s.sideOf p)) ((s.port p).state == .up) (s.side (s.sideOf p))).2) :=
      (Steady.setSide (by omega)).settled
    exact hlighter.trans (settled_samePort rfl rfl)

end

end Sys2Proof.Machine
end

section
/-! PROOFS. The third invariant: no command and no millisecond lets more than 512 buffers be held (R36 to R38); and which
commands leave the ports in or out of service as they were (R65). -/

set_option Elab.async false

namespace Sys2Proof.Machine

section
variable {s t u : State}

/-! ## Slots -/

theorem settled_slotBegun (p : Port) (hidle : (s.port p).sending = none) : Settled s (slotBegun s p) := by
  have hopen : Settled s (openSlot s p) := by
    unfold openSlot
    dsimp only
    split
    · next c v hchoice =>
      obtain ⟨hstate, _⟩ := portChoice_keeps hchoice
      refine settled_setPort ?_ (Nat.zero_le _)
      change inServiceState v.state = _
      rw [hstate]
    · exact .ite (settled_tiuSlot p hidle) (settled_samePort rfl rfl)
  have hslot (x : State) : Settled x (x.setPort p (nextDozeSlot (x.port p))) := by
    unfold nextDozeSlot
    split
    · exact settled_samePort rfl rfl
    · exact settled_samePort rfl rfl
  exact .ite (settled_samePort rfl rfl) (hopen.trans (hslot _))

theorem settled_slotEnded (p : Port) (x : Sending) : Settled s (slotEnded s p x) := by
  have hended (f : PortCounts → PortCounts) :
      Settled s (s.setPort p { s.port p with sending := none, counts := f (s.port p).counts }) :=
    settled_setPort rfl (Nat.zero_le _)
  have hafter (y : State) (d : Side) : Settled y (afterSlot y d x) := by
    unfold afterSlot
    split
    · exact .ite (Steady.completeRecord _ _).settled (settled_refl y)
    · exact (Steady.resumeCheck d).settled
    · exact settled_refl y
  exact (hended (fun n => { n with cellsOut := satInc n.cellsOut })).trans (hafter _ _)

/-! ## Lines -/

theorem Steady.originRelease (r : CallRecord) : Steady s (originRelease s r) := by
  unfold Machine.originRelease
  split
  · exact .offerControl _ _
  · exact .refl s

theorem Steady.localRelease (l : Line) : Steady s (localRelease s l) := by
  unfold Machine.localRelease
  split
  · exact (Steady.setChannel _ .free).trans (.giveNotice _)
  · exact .refl s

theorem Steady.callEnded (l : Line) : Steady s (callEnded s l) := by
  have hrecord (r : CallRecord) : Steady s (onHookRecord s l r) :=
    .ite (.ite (.localRelease l) ((Steady.originRelease r).trans (.releaseOwn r))) (.refl s)
  unfold Machine.callEnded
  dsimp only
  split
  · exact (hrecord _).trans (.setLine l _)
  · exact .setLine l _

theorem Steady.raiseIncident : Steady s (raiseIncident s) := .ite (.withSps (Nat.le_refl _)) (.refl s)

theorem Steady.callBegun (l : Line) : Steady s (callBegun s l) :=
  ((Steady.setLine l _).trans (.attempt l {})).trans .raiseIncident

theorem Steady.gradeAccident (l : Line) : Steady s (gradeAccident s l) := by
  have hlocal (x : State) : Steady x (upgradeLocal x l) := by
    unfold upgradeLocal
    split
    · dsimp only
      split
      · exact (Steady.setChannel _ _).trans (.giveNotice _)
      · exact .giveNotice _
    · exact .refl x
  have hchain (x : State) (r : CallRecord) : Steady x (upgradeChain x r) := by
    unfold upgradeChain
    split
    · exact (Steady.setTable _ _).trans (.offerControl _ _)
    · exact .refl x
  unfold Machine.gradeAccident
  split
  · next r _ =>
    exact .ite (.refl s)
      (.ite (.ite ((Steady.setRecord l _).trans (hlocal _)) ((Steady.setRecord l _).trans (hchain _ _))) (.setRecord l _))
  · exact .refl s

theorem Steady.packVoice (l : Line) (r : CallRecord) (samples : List Byte) : Steady s (packVoice s l r samples) := by
  unfold Machine.packVoice
  split
  · exact .ite (.offerEffect _ _) ((Steady.offerEffect _ _).trans (.countLine l _))
  · split
    · unfold packLocal
      split
      · exact .countLine l _
      · split
        · next hfloor => exact .officePush _ (pool_of_floor hfloor)
        · exact (Steady.countLine l _).trans (.countPool .call)
    · exact .refl s

theorem Steady.watchExpired (l : Line) (r : CallRecord) : Steady s (watchExpired s l r) :=
  ((Steady.originRelease r).trans (.countCcu _)).trans (.recordBroken l)

theorem Steady.chainWatchExpired (id : Identity) (g : Grade) : Steady s (chainWatchExpired s id g) := by
  unfold Machine.chainWatchExpired
  dsimp only
  split
  · exact (((Steady.countCcu _).trans (.freeChain _ id)).trans (.offerControl _ _)).trans (.giveNotice _)
  · exact ((Steady.countCcu _).trans (.releaseEntry _ id)).trans (.offerControl _ _)

/-! ## The sign, the weather station and the gantry line -/

theorem Steady.offerReply (side : Option Side) (c : Cell) : Steady s (offerReply s side c) := by
  unfold Machine.offerReply
  split
  · exact .ite (.offerEffect _ c) ((Steady.offerEffect _ c).trans (.countSps _))
  · exact .ite (.answerToOffice c) ((Steady.answerToOffice c).trans (.countSps _))

theorem Steady.finishTask (x : SignTask) (r : SignReason) (written : Nat) : Steady s (finishTask s x r written) := by
  have hreplied (y : State) : Steady y { y with sps := { y.sps with waiting := y.sps.waiting.drop 1, job := none } } :=
    .withSps (by rw [List.length_drop]; exact Nat.sub_le _ _)
  exact ((Steady.countSps _).trans (.offerReply x.side _)).trans (hreplied _)

/-- A change of the sign that waits for no more, before the answer. -/
theorem Steady.finishChanged {y : Sps} (h : y.waiting.length ≤ s.sps.waiting.length) (x : SignTask) (r : SignReason)
    (written : Nat) : Steady s (Machine.finishTask { s with sps := y } x r written) :=
  (Steady.withSps h).trans (.finishTask x r written)

theorem Steady.takeWindow (x : SignTask) : Steady s (takeWindow s x) := by
  unfold Machine.takeWindow
  exact .ite (.finishChanged (by exact Nat.le_refl _) x _ _) (.finishTask x _ _)

theorem Steady.takePixels (x : SignTask) : Steady s (takePixels s x) := by
  unfold Machine.takePixels
  exact .ite (.withSps (Nat.le_refl _)) (.finishTask x _ _)

theorem Steady.pixelStep (x : SignTask) (k : Nat) : Steady s (pixelStep s x k) := by
  unfold Machine.pixelStep
  exact .ite (.finishTask x _ _)
    (.ite (.withSps (Nat.le_refl _)) (.finishChanged (by exact Nat.le_refl _) x _ _))

theorem Steady.takeShow (x : SignTask) : Steady s (takeShow s x) := by
  unfold Machine.takeShow
  split
  · exact .finishChanged (by exact Nat.le_refl _) x _ _
  · exact .finishTask x _ _

theorem Steady.takeClear (x : SignTask) : Steady s (takeClear s x) := by
  unfold Machine.takeClear
  exact .ite (.finishChanged (by exact Nat.le_refl _) x _ _)
    (.ite (.ite (.finishTask x _ _) (.finishChanged (by exact Nat.le_refl _) x _ _))
      (.ite (.finishChanged (by exact Nat.le_refl _) x _ _) (.finishTask x _ _)))

theorem Steady.takeDim (x : SignTask) : Steady s (takeDim s x) := by
  unfold Machine.takeDim
  exact .ite (.finishChanged (by exact Nat.le_refl _) x _ _)
    (.ite (.finishChanged (by exact Nat.le_refl _) x _ _) (.finishTask x _ _))

theorem Steady.withWsu (w : Wsu) : Steady s { s with wsu := w } := .of_within (within_withWsu s w) (by decide)

theorem Steady.settleReasons (a : State) : Steady s (settleReasons a s) := by
  have hon (x : State) : Steady x (reasonsOn x) :=
    .ite (.withSps (Nat.le_refl _)) (.ite (.withSps (Nat.le_refl _)) (.withSps (Nat.le_refl _)))
  have hoff (x : State) : Steady x (reasonsOff x) := .ite (.withSps (Nat.le_refl _)) (.withSps (Nat.le_refl _))
  exact .ite (.ite ((Steady.countWsu _).trans (hon _)) (.countWsu _)) (.ite (.ite (hoff s) (.refl s)) (.refl s))

theorem Steady.conversionEnded (n : Nat) (r : BitVec 12) : Steady s (conversionEnded s n r) := by
  have hlight (x : State) : Steady x (handLight x) := .ite (.withSps (Nat.le_refl _)) (.refl x)
  unfold Machine.conversionEnded
  dsimp only
  split
  · exact ((Steady.withWsu _).trans (hlight _)).trans (.withWsu _)
  · exact (Steady.withWsu _).trans (.withWsu _)

theorem Steady.reportEnded : Steady s (reportEnded s) := by
  have hoffice (x : State) (c : Cell) : Steady x (handReport x c) := by
    unfold handReport
    split
    · next hfloor =>
      exact .ite ((Steady.officePush _ (pool_of_floor hfloor)).trans (.countWsu _))
        ((Steady.countGw _).trans (.countWsu _))
    · exact (Steady.countPool _).trans (.countWsu _)
  have hchain (x : State) (c : Cell) : Steady x (offerReport x c) := by
    unfold offerReport
    split
    · exact .countWsu _
    · exact .ite ((Steady.offerEffect _ c).trans (.countWsu _)) ((Steady.offerEffect _ c).trans (.countWsu _))
  unfold Machine.reportEnded
  dsimp only
  split
  · exact ((Steady.withWsu _).trans (hoffice _ _)).trans (.withWsu _)
  · exact ((Steady.withWsu _).trans (hchain _ _)).trans (.withWsu _)

theorem Steady.withGli (g : Gli) : Steady s { s with gli := g } := .of_within (within_withGli s g) (by decide)

theorem Steady.writeCompleted (body : List Byte) : Steady s (writeCompleted s body) :=
  (((((Steady.withCsd _).trans (.countCsd _)).trans .evalFlow).trans .dispatchPass)).trans (.withGli _)

/-! ## Office cells -/

theorem Steady.popHead : Steady s (popHead s) := .withGw (Nat.le_refl _)

theorem Steady.keepHead : Steady s (keepHead s) := .withGw (Nat.le_refl _)

theorem Steady.rejectHead : Steady s (rejectHead s) := Steady.popHead.trans (.countGw _)

theorem Steady.discardHead : Steady s (discardHead s) := Steady.popHead.trans (.countGw _)

theorem Steady.offerHead (c : Cell) {taken : State → State} (h : ∀ x, Steady x (taken x)) :
    Steady s (offerHead s c taken) := by
  have hoffer : Steady s (Machine.offerEffect s s.inner c) := .offerEffect _ c
  unfold Machine.offerHead
  split
  · exact (hoffer.trans .popHead).trans (h _)
  · exact hoffer.trans .keepHead
  · exact hoffer.trans .keepHead
  · exact hoffer.trans .discardHead
  · exact hoffer.trans .discardHead

/-- R187: the gateway's own block takes an office cell in a buffer that the pool has. -/
theorem settled_consumeOfficeCell (c : Cell) (hfloor : floorMet s (cellClass c) = true) :
    Settled s (consumeOfficeCell s c) := by
  have hfree := pool_of_floor hfloor
  rw [poolFree_eq] at hfree
  have htaken {x : State} (h : Steady { s with inHand := 1 } x) : Settled s { x with inHand := 0 } := by
    refine ⟨h.straps, h.service, h.valid, fun _ => ?_⟩
    have hhand := poolHeld_withInHand s 1
    have hx := h.held (by omega)
    have hlet := poolHeld_withInHand x 0
    omega
  have hcount : Settled s (countNoConsumer s) := (Steady.countNode _).settled
  unfold consumeOfficeCell
  split
  · split
    · exact htaken (.answerPoll none _)
    · exact hcount
  · exact htaken (.answerQuery none _)
  · split
    · refine ⟨rfl, fun _ => rfl, fun _ => rfl, fun hpool => ?_⟩
      have hlength : (s.sps.waiting ++ [({ cell := c, side := none } : SignTask)]).length = s.sps.waiting.length + 1 := by
        rw [List.length_append, List.length_singleton]
      rw [poolHeld_eq] at hfree ⊢
      change s.inHand + tiuHeld (s.side .up) + tiuHeld (s.side .down) + sendingHeld (s.port .sp1).sending
        + sendingHeld (s.port .sp2).sending
        + (s.sps.waiting ++ [({ cell := c, side := none } : SignTask)]).length + s.gw.toOffice.length ≤ 512
      omega
    · exact hcount

theorem settled_deliverHead (c : Cell) : Settled s (deliverHead s c) := by
  have hkeep : Settled s (keepHead (countPool s (cellClass c))) := ((Steady.countPool _).trans .keepHead).settled
  have hoffer (x : State) : Settled x (offerHead x (asLocal x c) (fun y => y)) :=
    (Steady.offerHead _ (fun y => .refl y)).settled
  unfold deliverHead
  split
  · split
    · next hfloor => exact (settled_consumeOfficeCell c hfloor).steady .popHead
    · exact hkeep
  · split
    · split
      · next hfloor =>
        have hmarked : Settled s (markHanded (consumeOfficeCell s c)) :=
          (settled_consumeOfficeCell c hfloor).steady (.withGw (Nat.le_refl _))
        have hoffered (y : State) : Settled y (offerHead y (asLocal y c) (fun z => z)) := hoffer y
        exact hmarked.trans ((Steady.offerHead _ (fun y => .refl y)).settled)
      · exact hkeep
    · exact hoffer s

theorem Steady.officeVoice (c : Cell) : Steady s (officeVoice s c) := by
  unfold Machine.officeVoice
  split
  · exact .offerHead _ (fun y => .refl y)
  · exact (Steady.playLocal _ _ _ _).trans .popHead
  · exact .rejectHead

theorem Steady.officeRelease (c : Cell) : Steady s (officeRelease s c) := by
  unfold Machine.officeRelease
  split
  · exact .offerHead _ (fun y => .freeChain _ _)
  · exact ((Steady.setChannel _ .free).trans (.recordReleased _)).trans .popHead
  · exact .rejectHead

theorem settled_takeHead (k : OfficeKind) : Settled s (takeHead s k) := by
  unfold takeHead
  cases k with
  | deliver c => exact settled_deliverHead c
  | voice c => exact (Steady.officeVoice c).settled
  | release c => exact (Steady.officeRelease c).settled
  | reject => exact Steady.rejectHead.settled

/-! ## Maintenance -/

theorem settled_takeDataByte (value : Byte) : Settled s (takeDataByte s value) := by
  have hclear : Settled s (clearCounts s) := by
    refine settled_of_lighter rfl (Nat.le_refl _) (fun q => ?_) (fun q => ?_) (fun d => ?_) (fun d => ?_) (Nat.le_refl _)
      (Nat.le_refl _)
    · cases q with
      | sp1 => rfl
      | sp2 => rfl
    · cases q with
      | sp1 => exact Nat.le_refl _
      | sp2 => exact Nat.le_refl _
    · cases d with
      | up => rfl
      | down => rfl
    · cases d with
      | up => exact Nat.le_refl _
      | down => exact Nat.le_refl _
  exact .ite hclear (Steady.withMaint _).settled

end

end Sys2Proof.Machine
end

section
/-! PROOFS. The third invariant: no command and no millisecond lets more than 512 buffers be held (R36 to R38). -/

set_option Elab.async false

namespace Sys2Proof.Machine

section
variable {s t u : State}

/-- The commands that can take a port into or out of service, or make an entry of the Reach Table VALID or INVALID. -/
def movesService : Instr → Bool
  | .resetEnd _ | .lossDebounceExpiry _ | .markerWatchExpiry _ | .badCheckCell _ | .hello _ _ | .helloWatchExpiry _
  | .wakeTimerExpiry _ | .beacon _ _ | .reachLapse _ => true
  | _ => false

/-! ## Ends of commands -/

theorem settles_done (h : Settled s t) : Leaves (Settled s) (done s t) :=
  .done (h.trans (settled_ended s t))

theorem settles_same : Leaves (Settled s) (.next s) := .next (settled_refl s)

theorem settles_dataCommand {p : Port} {c : CellData} {i : Instr} {k : Kind} (h : (i, k) ∈ dataCommands p c) :
    Leaves (Settled s) (exec i s) := by
  rw [exec_of_dataCommands h]
  exact settles_done (settled_transitArrival p _ (fun t => spends_carry _ _ (fun _ => spends_consumerOf k c _)))

theorem settles_callCommand {p : Port} {c : CellData} {i : Instr} {k : Kind} (h : (i, k) ∈ callCommands p c) :
    Leaves (Settled s) (exec i s) := by
  rw [exec_of_callCommands h]
  exact settles_done (settled_transitArrival p _ (fun t => spends_takeCall (t.sideOf p) _))

theorem settles_takeTask {k : Kind} {act : State → SignTask → State} (h : ∀ x y, Steady x (act x y)) :
    Leaves (Settled s) (takeTask s k act) := by
  unfold takeTask
  split
  · split
    · exact .ite (settles_done ((Steady.countSps _).trans (h _ _)).settled) settles_same
    · exact settles_same
  · exact settles_same

theorem settled_setPower {w : Power} (h : Settled s t) : Settled s { t with power := w } :=
  h.steady (.of_within (within_withPower t w) (by decide))

/-- A command that changes none of the parts in which the pool, the ports and the Reach Table stand. -/
theorem settles_light {c : Instr} (h : heavyParts.all (fun q => !(touches c).contains q) = true) :
    Leaves (Settled s) (exec c s) := by
  intro t ht
  obtain ⟨u, hu, hwithin⟩ := everyCommandAnswersWithinItsParts c s
  obtain rfl : u = t := by rw [ht] at hu; cases hu; rfl
  exact (Steady.of_within hwithin h).settled

/-! ## Lines, tolls and office cells -/

theorem settles_keyOpen (l : Line) (us : Nat) : Leaves (Settled s) (exec (.keyOpen l us) s) := by
  have hline (x : PhoneLine) : Steady s (s.setLine l x) := .setLine l x
  exact .ite (settles_done ((hline _).trans (.gradeAccident l)).settled) (.next (hline _).settled)

theorem settles_voicePackPeriod (l : Line) (samples : List Byte) :
    Leaves (Settled s) (exec (.voicePackPeriod l samples) s) := by
  have hline (x : PhoneLine) : Steady s (s.setLine l x) := .setLine l x
  refine .ite ?_ settles_same
  split
  · exact settles_done ((hline _).trans (.packVoice l _ samples)).settled
  · exact .next (hline _).settled

theorem settles_setupTimerExpiry (l : Line) : Leaves (Settled s) (exec (.setupTimerExpiry l) s) := by
  refine .ite ?_ settles_same
  split
  · exact .ite (settles_done ((Steady.originRelease _).trans (.recordRefused l)).settled) settles_same
  · exact settles_same

theorem settles_callRetryTimerExpiry (l : Line) : Leaves (Settled s) (exec (.callRetryTimerExpiry l) s) := by
  refine .ite ?_ settles_same
  split
  · exact .ite (settles_done (Steady.attempt l _).settled) settles_same
  · exact settles_same

theorem settles_originVoiceWatchExpiry (l : Line) : Leaves (Settled s) (exec (.originVoiceWatchExpiry l) s) := by
  refine .ite ?_ settles_same
  split
  · exact .ite (settles_done (Steady.watchExpired l _).settled) settles_same
  · exact settles_same

theorem settles_pathEntryTimerExpiry (id : Identity) : Leaves (Settled s) (exec (.pathEntryTimerExpiry id) s) := by
  refine .ite ?_ settles_same
  split
  · exact settles_done ((Steady.releaseBoth id).trans (.countCcu _)).settled
  · exact settles_same

theorem settles_gatewayVoiceWatchExpiry (id : Identity) : Leaves (Settled s) (exec (.gatewayVoiceWatchExpiry id) s) := by
  refine .ite ?_ settles_same
  split
  · exact settles_done (Steady.chainWatchExpired id _).settled
  · exact settles_same

theorem settles_localVoiceWatchExpiry (l : Line) : Leaves (Settled s) (exec (.localVoiceWatchExpiry l) s) := by
  refine .ite ?_ settles_same
  split
  · have hfreed (f : CcuCounts → CcuCounts) (n : Nat) (c : Cell) :
        Steady s (giveNotice (setChannel (s.countCcu f) n .free) c) :=
      ((Steady.countCcu f).trans (.setChannel n .free)).trans (.giveNotice c)
    exact settles_done ((hfreed _ _ _).trans (.recordBroken l)).settled
  · exact settles_same

theorem settles_storeWriteComplete : Leaves (Settled s) (exec .storeWriteComplete s) := by
  refine .ite ?_ settles_same
  split
  · exact settles_done (Steady.writeCompleted _).settled
  · exact settles_same

theorem settles_custodyRetryExpiry (q : Half) : Leaves (Settled s) (exec (.custodyRetryExpiry q) s) := by
  refine .ite ?_ settles_same
  split
  · exact .ite (settles_done (Steady.retryExpired q).settled) settles_same
  · exact settles_same

theorem settles_pixelWrite : Leaves (Settled s) (exec .pixelWrite s) := by
  refine .ite ?_ settles_same
  split
  · exact settles_done (Steady.pixelStep _ _).settled
  · exact settles_same

theorem settles_endOfConversion (r : BitVec 12) : Leaves (Settled s) (exec (.endOfConversion r) s) := by
  refine .ite ?_ settles_same
  split
  · exact .next (Steady.conversionEnded _ r).settled
  · exact settles_same

theorem settles_settleReasons {w : Wsu} : Leaves (Settled s) (.next (settleReasons s { s with wsu := w })) :=
  .next ((Steady.withWsu w).trans (.settleReasons s)).settled

theorem settles_fromOfficeTransferStart : Leaves (Settled s) (exec .fromOfficeTransferStart s) := by
  have hgw (g : Gateway) (h : g.toOffice = s.gw.toOffice) : Settled s { s with gw := g } :=
    (Steady.withGw (Nat.le_of_eq (by rw [h]))).settled
  exact .ite (.ite (.next (hgw _ rfl)) (.next (hgw _ rfl))) settles_same

theorem settles_fromOfficeTransferComplete (c : RawCell) (check : Half) :
    Leaves (Settled s) (exec (.fromOfficeTransferComplete c check) s) := by
  have hgw (g : Gateway) (h : g.toOffice = s.gw.toOffice) : Settled s { s with gw := g } :=
    (Steady.withGw (Nat.le_of_eq (by rw [h]))).settled
  refine .ite ?_ settles_same
  split
  · exact .ite (.next (hgw _ rfl)) (.next (hgw _ rfl))
  · exact .next (hgw _ rfl)
  · exact settles_same

theorem settles_officeSignOrReportCell : Leaves (Settled s) (exec .officeSignOrReportCell s) := by
  change Leaves _ (execOfficeSignOrReportCell s)
  unfold execOfficeSignOrReportCell
  split
  · exact settles_done (settled_deliverHead _)
  · exact settles_same

theorem settles_officeVoice : Leaves (Settled s) (exec .officeVoice s) := by
  change Leaves _ (execOfficeVoice s)
  unfold execOfficeVoice
  split
  · exact settles_done (Steady.officeVoice _).settled
  · exact settles_same

theorem settles_officeCallRelease : Leaves (Settled s) (exec .officeCallRelease s) := by
  change Leaves _ (execOfficeCallRelease s)
  unfold execOfficeCallRelease
  split
  · exact settles_done (Steady.officeRelease _).settled
  · exact settles_same

theorem settles_officeCellRejected : Leaves (Settled s) (exec .officeCellRejected s) := by
  change Leaves _ (execOfficeCellRejected s)
  unfold execOfficeCellRejected
  split
  · exact .next Steady.rejectHead.settled
  · exact settles_same

theorem settles_officeOfferRetry : Leaves (Settled s) (exec .officeOfferRetry s) := by
  change Leaves _ (execOfficeOfferRetry s)
  unfold execOfficeOfferRetry
  split
  · exact settles_done (settled_takeHead _)
  · exact settles_same

/-! ## Ports -/

theorem settles_lightDisappears (p : Port) : Leaves (Settled s) (exec (.lightDisappears p) s) := by
  refine .ite (.next ?_) (.next ?_)
  · exact settled_samePort rfl rfl
  · exact settled_samePort rfl rfl

theorem settles_lockGained (p : Port) : Leaves (Settled s) (exec (.lockGained p) s) := by
  refine .ite (.next ?_) settles_same
  exact settled_samePort rfl rfl

theorem settles_helloPeriod (p : Port) : Leaves (Settled s) (exec (.helloPeriod p) s) := by
  refine .ite (.next ?_) settles_same
  exact settled_samePort rfl rfl

theorem settles_idleTimerExpiry (p : Port) : Leaves (Settled s) (exec (.idleTimerExpiry p) s) := by
  refine .ite (settles_done ?_) settles_same
  exact settled_samePort rfl rfl

theorem settles_dozeRetryExpiry (p : Port) : Leaves (Settled s) (exec (.dozeRetryExpiry p) s) := by
  have hcleared (x : Timer) : Settled s (s.setPort p { s.port p with dozeRetry := x }) := settled_samePort rfl rfl
  have hasked (y : State) : Settled y (askDoze y p) := settled_samePort rfl rfl
  exact .ite (.ite (.next ((hcleared none).trans (hasked _))) (.next (hcleared none))) settles_same

theorem settles_answerWindowExpiry (p : Port) : Leaves (Settled s) (exec (.answerWindowExpiry p) s) := by
  refine .ite (.next ?_) settles_same
  exact settled_samePort rfl rfl

theorem settles_transmitSlot (p : Port) : Leaves (Settled s) (exec (.transmitSlot p) s) := by
  change Leaves _ (execTransmitSlot p s)
  unfold execTransmitSlot
  split
  · next htest =>
    rw [Bool.and_eq_true, Option.isNone_iff_eq_none] at htest
    exact settles_done (settled_slotBegun p htest.2)
  · exact settles_same

theorem settles_transmissionComplete (p : Port) : Leaves (Settled s) (exec (.transmissionComplete p) s) := by
  refine .ite ?_ settles_same
  split
  · exact settles_done (settled_slotEnded p _)
  · exact settles_same

theorem settles_darkPeriodEnd : Leaves (Settled s) (exec .darkPeriodEnd s) := by
  have hdark : Settled s { s with dark := none } := (Steady.of_within (within_withDark s none) (by decide)).settled
  exact .ite (.next ((hdark.trans (settled_leaveDark .sp1)).trans (settled_leaveDark .sp2))) settles_same

theorem settles_holdExpiry (d : Side) : Leaves (Settled s) (exec (.holdExpiry d) s) := by
  refine .ite (.next (Steady.setSide ?_).settled) settles_same
  exact Nat.le_refl _

/-! ## Every command that moves no service -/

theorem exec_settled (c : Instr) (h : movesService c = false) : Leaves (Settled s) (exec c s) := by
  cases c with
  | resetAssert => exact .next (settled_setPower settled_intoReset)
  | mainSupplyFall => exact .next (settled_setPower settled_intoReset)
  | darkPeriodEnd => exact settles_darkPeriodEnd
  | lightFound p => exact .next (settled_lightOn p)
  | lightReturns p => exact .next (settled_lightOn p)
  | lightDisappears p => exact settles_lightDisappears p
  | lockGained p => exact settles_lockGained p
  | malformedCell p => exact .ite (.next (settled_samePort rfl rfl)) settles_same
  | helloPeriod p => exact settles_helloPeriod p
  | idleTimerExpiry p => exact settles_idleTimerExpiry p
  | dozeRetryExpiry p => exact settles_dozeRetryExpiry p
  | dozeReq p c => exact settles_done (settled_arrive p _ (fun _ => settled_takeDozeReq _ p))
  | dozeAck p c => exact settles_done (settled_arrive p _ (fun _ => settled_takeDozeAck p))
  | answerWindowExpiry p => exact settles_answerWindowExpiry p
  | wakeBurst p => exact .ite (settles_done (settled_takeWakeBurst p)) settles_same
  | wakeAck p c => exact settles_done (settled_arrive p _ (fun _ => settled_takeWakeAck p))
  | hold p c => exact settles_done (settled_arrive p _ (fun _ => (Steady.setSide (by exact Nat.le_refl _)).settled))
  | resume p c => exact settles_done (settled_arrive p _ (fun _ => (Steady.setSide (by exact Nat.le_refl _)).settled))
  | holdExpiry d => exact settles_holdExpiry d
  | holdRepeatExpiry d => exact .ite (.next (Steady.makeHold d).settled) settles_same
  | transmitSlot p => exact settles_transmitSlot p
  | transmissionComplete p => exact settles_transmissionComplete p
  | callSetup p c => exact settles_callCommand (p := p) (c := c) (k := .callSetup) (by simp [callCommands])
  | callAccept p c => exact settles_callCommand (p := p) (c := c) (k := .callAccept) (by simp [callCommands])
  | callRefuse p c => exact settles_callCommand (p := p) (c := c) (k := .callRefuse) (by simp [callCommands])
  | callRelease p c => exact settles_callCommand (p := p) (c := c) (k := .callRelease) (by simp [callCommands])
  | callBroken p c => exact settles_callCommand (p := p) (c := c) (k := .callBroken) (by simp [callCommands])
  | callUpgrade p c => exact settles_callCommand (p := p) (c := c) (k := .callUpgrade) (by simp [callCommands])
  | voice p c => exact settles_callCommand (p := p) (c := c) (k := .voice) (by simp [callCommands])
  | pathEntryTimerExpiry id => exact settles_pathEntryTimerExpiry id
  | offhookDebounceExpiry l => exact .ite (settles_done (Steady.callBegun l).settled) settles_same
  | onhookDebounceExpiry l => exact .ite (settles_done (Steady.callEnded l).settled) settles_same
  | keyOpen l us => exact settles_keyOpen l us
  | voicePackPeriod l samples => exact settles_voicePackPeriod l samples
  | setupTimerExpiry l => exact settles_setupTimerExpiry l
  | callRetryTimerExpiry l => exact settles_callRetryTimerExpiry l
  | originVoiceWatchExpiry l => exact settles_originVoiceWatchExpiry l
  | gatewayVoiceWatchExpiry id => exact settles_gatewayVoiceWatchExpiry id
  | localVoiceWatchExpiry l => exact settles_localVoiceWatchExpiry l
  | storeWriteComplete => exact settles_storeWriteComplete
  | dispatchTimerExpiry => exact .ite (settles_done ((Steady.withCsd _).trans .dispatchPass).settled) settles_same
  | custodyRetryExpiry q => exact settles_custodyRetryExpiry q
  | tollRecord p c => exact settles_dataCommand (p := p) (c := c) (k := .tollRecord) (by simp [dataCommands])
  | tollAck p c => exact settles_dataCommand (p := p) (c := c) (k := .tollAck) (by simp [dataCommands])
  | signCommandConsumed p k c =>
    refine settles_dataCommand (p := p) (c := c) (k := signKind k) ?_
    cases k <;> simp [dataCommands, signKind]
  | signReply p c => exact settles_dataCommand (p := p) (c := c) (k := .signReply) (by simp [dataCommands])
  | weatherReport p c => exact settles_dataCommand (p := p) (c := c) (k := .weatherReport) (by simp [dataCommands])
  | nodeStatus p c => exact settles_dataCommand (p := p) (c := c) (k := .nodeStatus) (by simp [dataCommands])
  | weatherPoll p c => exact settles_dataCommand (p := p) (c := c) (k := .weatherPoll) (by simp [dataCommands])
  | nodeQuery p c => exact settles_dataCommand (p := p) (c := c) (k := .nodeQuery) (by simp [dataCommands])
  | signWindow => exact settles_takeTask (fun _ y => .takeWindow y)
  | signPixels => exact settles_takeTask (fun _ y => .takePixels y)
  | pixelWrite => exact settles_pixelWrite
  | signShow => exact settles_takeTask (fun _ y => .takeShow y)
  | signClear => exact settles_takeTask (fun _ y => .takeClear y)
  | signDim => exact settles_takeTask (fun _ y => .takeDim y)
  | hazardHoldExpiry => exact .ite (.next (Steady.withSps (by exact Nat.le_refl _)).settled) settles_same
  | refreshBoundary =>
    refine .ite (.next (Steady.withSps ?_).settled) settles_same
    unfold boundary
    split
    · exact Nat.le_refl _
    · exact Nat.le_refl _
  | rowPeriod => exact .ite (.next (Steady.withSps (by exact Nat.le_refl _)).settled) settles_same
  | brightnessSlew => exact .ite (.next (Steady.withSps (by exact Nat.le_refl _)).settled) settles_same
  | endOfConversion r => exact settles_endOfConversion r
  | windPulse => exact .ite settles_settleReasons settles_same
  | windWindowStart => exact .ite settles_settleReasons settles_same
  | referenceOverflow x => exact .ite settles_settleReasons settles_same
  | surfaceOverflow => exact .ite settles_settleReasons settles_same
  | reportPeriodEnd => exact .ite (settles_done Steady.reportEnded.settled) settles_same
  | beaconPeriod => exact .ite (.next (Steady.makeBeacon.trans (.setBeaconPeriod _)).settled) settles_same
  | toOfficeTransferStart o => exact .ite (.next (Steady.withGw (by exact Nat.le_refl _)).settled) settles_same
  | toOfficeTransferComplete =>
    refine .ite (.next (Steady.withGw ?_).settled) settles_same
    change (s.gw.toOffice.drop 1).length ≤ _
    rw [List.length_drop]
    exact Nat.sub_le _ _
  | fromOfficeTransferStart => exact settles_fromOfficeTransferStart
  | fromOfficeTransferComplete c check => exact settles_fromOfficeTransferComplete c check
  | officeCellRejected => exact settles_officeCellRejected
  | officeSignOrReportCell => exact settles_officeSignOrReportCell
  | officeVoice => exact settles_officeVoice
  | officeCallRelease => exact settles_officeCallRelease
  | officeOfferRetry => exact settles_officeOfferRetry
  | counterClear => exact .ite (.next (settled_takeDataByte _)) settles_same
  | ignoredWriteByte b => exact .ite (.next (settled_takeDataByte b)) settles_same
  | resetEnd k => cases h
  | lossDebounceExpiry p => cases h
  | markerWatchExpiry p => cases h
  | badCheckCell p => cases h
  | hello p c => cases h
  | helloWatchExpiry p => cases h
  | wakeTimerExpiry p => cases h
  | beacon p c => cases h
  | reachLapse d => cases h
  | _ => exact settles_light rfl

end

end Sys2Proof.Machine
end

section
/-! PROOFS. A side that leaves service: the pool stays within its buffers, and the side's entry of the Reach Table is INVALID
(R34, R36, R65). The third and the fourth invariant. -/

set_option Elab.async false

namespace Sys2Proof.Machine

/-- From `s` to `t` the entry of side `d` alone may become INVALID, no port enters or leaves service, and a pool within its
buffers stays so. -/
structure Lost (d : Side) (s t : State) : Prop where
  straps : t.straps = s.straps
  service : ∀ q, inServiceState (t.port q).state = inServiceState (s.port q).state
  valid : ∀ x, (t.entry x).valid = if x = d then false else (s.entry x).valid
  held : s.poolHeld ≤ 512 → t.poolHeld ≤ 512

section
variable {s t u : State} {d : Side}

theorem Handled.thenLost (h : Settled s t) (k : Lost d t u) : Lost d s u := by
  refine ⟨k.straps.trans h.straps, fun q => (k.service q).trans (h.service q), fun x => ?_, fun hs => k.held (h.held hs)⟩
  rw [k.valid x, h.valid x]

theorem Lost.trans (h : Lost d s t) (k : Settled t u) : Lost d s u :=
  ⟨k.straps.trans h.straps, fun q => (k.service q).trans (h.service q), fun x => (k.valid x).trans (h.valid x),
    fun hs => k.held (h.held hs)⟩

theorem entry_setEntry (s : State) (d x : Side) (e : ReachEntry) :
    (s.setEntry d e).entry x = if x = d then e else s.entry x := by
  cases d with
  | up => cases x with
    | up => rfl
    | down => rfl
  | down => cases x with
    | up => rfl
    | down => rfl

theorem lost_setEntry {e : ReachEntry} (h : e.valid = false) : Lost d s (s.setEntry d e) := by
  refine ⟨rfl, fun _ => rfl, fun x => ?_, fun hs => hs⟩
  rw [entry_setEntry]
  split
  · exact h
  · rfl

theorem lost_invalidateEntry : Lost d s (invalidateEntry s d) := by
  unfold invalidateEntry
  split
  · exact (lost_setEntry rfl).trans (Steady.custodyReachLost d).settled
  · next hinvalid =>
    refine ⟨rfl, fun _ => rfl, fun x => ?_, fun hs => hs⟩
    split
    · next hx => rw [hx]; exact Bool.eq_false_iff.mpr hinvalid
    · rfl

theorem settled_flushSide : Settled s (flushSide s d) := by
  have hflushed : Settled s (s.setSide d (flushedTiu (s.side d) (s.sidePort d).sending)) :=
    (Steady.setSide (Nat.zero_le _)).settled
  have hidle (x : State) (v : PortUnit) (hv : v = { x.sidePort d with sending := none }) :
      Settled x (x.setPort (x.portOf d) v) := by
    rw [hv]
    exact settled_setPort rfl (Nat.zero_le _)
  exact (hflushed.trans (hidle _ _ rfl)).steady (.resumeCheck d)

/-- R34: the consumers of PORT-DOWN. -/
theorem lost_portDown (p : Port) : Lost (s.sideOf p) s (portDown s p) := by
  have hcounted (f : PortCounts → PortCounts) : Settled s (s.countPort p f) := settled_samePort rfl rfl
  have hflushed (f : PortCounts → PortCounts) (x : Side) : Settled s (flushSide (s.countPort p f) x) :=
    (hcounted f).trans settled_flushSide
  exact ((((hflushed _ _).thenLost lost_invalidateEntry).trans (Steady.circuitsPortDown _).settled).trans
    (Steady.custodyPortDown _).settled).trans Steady.gatewayPortDown.settled

theorem lost_lapseEntry : Lost d s (lapseEntry s d) :=
  (lost_setEntry rfl).trans (Steady.custodyReachLost d).settled

/-! ## The third invariant -/

theorem Settled.pool (h : Settled s t) (hs : poolBounded s) : poolBounded t := h.held hs

theorem pool_setPort {p : Port} {v : PortUnit} (hsending : v.sending = (s.port p).sending) (h : poolBounded s) :
    poolBounded (s.setPort p v) := by
  rw [poolBounded, poolHeld_setPort s p v hsending]
  exact h

theorem pool_portDown (p : Port) (h : poolBounded s) : poolBounded (portDown s p) := (lost_portDown p).held h

theorem pool_loseLock (p : Port) (h : poolBounded s) : poolBounded (loseLock s p) := by
  unfold loseLock
  dsimp only
  split
  · exact pool_setPort rfl h
  · exact pool_portDown p (pool_setPort rfl h)
  · exact pool_portDown p (pool_setPort rfl h)
  · exact pool_portDown p (pool_setPort rfl h)
  · exact pool_setPort rfl h
  · exact h

theorem pool_seekHello (p : Port) (c : CellData) (m : Neighbour) (h : poolBounded s) : poolBounded (seekHello s p c m) := by
  unfold seekHello
  dsimp only
  split
  · exact (settled_portUp true p).held (pool_setPort rfl h)
  · exact pool_setPort rfl h

theorem pool_takeHello (p : Port) (c : CellData) (h : poolBounded s) : poolBounded (takeHello s p c) := by
  unfold takeHello
  split
  · unfold checkedHello
    dsimp only
    split
    · split
      · exact pool_portDown p (pool_setPort rfl h)
      · exact pool_setPort rfl h
    · split
      · unfold serviceHello
        dsimp only
        split
        · exact pool_setPort rfl h
        · exact pool_seekHello p c _ (pool_portDown p (pool_setPort rfl h))
      · exact pool_seekHello p c _ h
  · exact pool_setPort rfl h

theorem pool_refreshEntry (c : Cell) (h : poolBounded s) : poolBounded (refreshEntry s d c) := by
  have hentry (e : ReachEntry) : poolBounded (s.setEntry d e) := h
  unfold refreshEntry
  split
  · exact hentry _
  · exact Steady.dispatchPass.held (hentry _)

theorem inHand_refreshEntry (c : Cell) : (refreshEntry s d c).inHand = s.inHand :=
  within_refreshEntry s d c .inHand (by decide)

theorem pool_takeBeacon (c : Cell) (hhand : s.inHand = 1) (h : poolBounded s) : poolBounded (takeBeacon s d c) := by
  have hdrop {x : State} (hx : poolBounded x) : poolBounded { x with inHand := 0 } := settled_drop.held hx
  have hdropped : poolBounded { s with inHand := 0 } := hdrop h
  have hcount (f : ReachCounts → ReachCounts) : poolBounded (State.countEntry { s with inHand := 0 } d f) := hdropped
  unfold takeBeacon
  split
  · exact hcount _
  · split
    · have hrefreshed : poolBounded (refreshEntry s d c) := pool_refreshEntry c h
      unfold retireOrHandOn
      split
      · exact hdrop hrefreshed
      · exact (spends_handOnBeacon _ c).held ⟨(inHand_refreshEntry c).trans hhand, hrefreshed⟩
    · exact hcount _

theorem pool_beaconArrival (p : Port) (c : Cell) (h : poolBounded s) :
    poolBounded (arrive s p c (fun x => admitCell x c (fun y => takeBeacon y (y.sideOf p) c))) := by
  have hadmitted {x : State} (hx : poolBounded x) : poolBounded (admitCell x c (fun y => takeBeacon y (y.sideOf p) c)) := by
    unfold admitCell
    split
    · exact hx
    · split
      · exact hx
      · next hfree =>
        have hsum := poolHeld_withInHand x 1
        rw [poolFree_eq] at hfree
        exact pool_takeBeacon c rfl (show State.poolHeld { x with inHand := 1 } ≤ 512 by omega)
  have hreceived : poolBounded (receiveCell s p c) := pool_setPort rfl h
  unfold arrive
  split
  · exact h
  · dsimp only
    split
    · exact pool_setPort rfl hreceived
    · split
      · exact hadmitted (pool_setPort rfl hreceived)
      · exact pool_setPort rfl hreceived

theorem pool_ended (h : poolBounded t) : poolBounded (ended s t) := (settled_ended s t).held h

theorem started_waiting (s : State) (k : Straps) : (started s k).sps.waiting = [] := by
  have hreset : (resetValues s k).sps.waiting = [] := by rw [resetValues_sps]
  cases hfault : strapFault k with
  | true => rw [started_of_fault s k hfault]; exact hreset
  | false =>
    rw [started_sps s k hfault]
    split
    · exact hreset
    · exact hreset

theorem pool_started (s : State) (k : Straps) : poolBounded (started s k) := by
  have hparts := started_parts s k
  have hports : (started s k).ports = (resetValues s k).ports := hparts .ports (by decide)
  have hport (q : Port) : (started s k).port q = (resetValues s k).port q := by rw [State.port, hports, State.port]
  have hhand : (started s k).inHand = 0 := hparts .inHand (by decide)
  have hgw : (started s k).gw = (resetValues s k).gw := hparts .gw (by decide)
  have hzero : (started s k).poolHeld = 0 := by
    rw [poolHeld_eq, hhand, side_of_within hparts (by decide), side_of_within hparts (by decide), hport, hport, hgw,
      started_waiting]
    rfl
  rw [poolBounded, hzero]
  exact Nat.zero_le _

theorem exec_keeps_pool (c : Instr) (h : poolBounded s) : Leaves poolBounded (exec c s) := by
  cases hmoves : movesService c with
  | false => exact fun t ht => (exec_settled c hmoves t ht).held h
  | true =>
    cases c with
    | resetEnd k => exact .ite (.next h) (.next (pool_started s k))
    | lossDebounceExpiry p =>
      refine .ite (.done (pool_ended ?_)) (.next h)
      exact (show poolBounded (lightLost s p) by
        unfold lightLost
        dsimp only
        split
        · exact pool_portDown p (pool_setPort rfl h)
        · exact pool_setPort rfl h)
    | markerWatchExpiry p => exact .ite (.done (pool_ended (pool_loseLock p h))) (.next h)
    | badCheckCell p =>
      refine .ite (.done (pool_ended ?_)) (.next h)
      exact (show poolBounded (badCell s p) by
        unfold badCell
        dsimp only
        split
        · exact pool_loseLock p (pool_setPort rfl h)
        · exact pool_setPort rfl h)
    | hello p c =>
      have hreceived (x : Cell) : poolBounded (receiveCell s p x) := pool_setPort rfl h
      refine .ite (.next h) (.ite (.next (pool_setPort rfl (hreceived _))) ?_)
      split
      · exact .next h
      · exact .done (pool_ended (pool_takeHello p c (pool_setPort rfl (hreceived _))))
      · exact .next (pool_setPort rfl (hreceived _))
      · exact .done (pool_ended (pool_takeHello p c (pool_setPort rfl (hreceived _))))
      · exact .done (pool_ended (pool_takeHello p c (pool_setPort rfl (hreceived _))))
      · exact .done (pool_ended (pool_takeHello p c (pool_setPort rfl (hreceived _))))
    | helloWatchExpiry p => exact .ite (.done (pool_ended (pool_portDown p (pool_setPort rfl h)))) (.next h)
    | wakeTimerExpiry p => exact .ite (.done (pool_ended (pool_portDown p (pool_setPort rfl h)))) (.next h)
    | beacon p c => exact .done (pool_ended (pool_beaconArrival p _ h))
    | reachLapse d => exact .ite (.done (pool_ended (lost_lapseEntry.held h))) (.next h)
    | _ => cases hmoves

theorem tick_settled (s : State) : Settled s (tick s) := by
  cases hrun : s.running with
  | false => rw [tick_of_stopped hrun]; exact settled_refl s
  | true =>
    have hparts := within_tick s
    refine settled_of_lighter (straps_of_within hparts (by decide)) ?_ (fun q => by rw [tick_port hrun]; rfl)
      (fun q => by rw [tick_port hrun]; exact Nat.le_refl _) (fun d => ?_)
      (fun d => by rw [tick_side hrun]; exact Nat.le_refl _) ?_ ?_
    · exact Nat.le_of_eq (show (tick s).inHand = s.inHand from hparts .inHand (by decide))
    · rw [tick_entry hrun]
      unfold tickEntry
      split
      · rfl
      · split
        · rfl
        · rfl
    · exact Nat.le_of_eq (by rw [tick, if_pos hrun])
    · exact Nat.le_of_eq (by rw [tick, if_pos hrun])

end

/-- Settles O6: nothing takes a buffer that the pool has not. -/
theorem stepsKeepThePoolBounded : Obligations.StepsKeepThePoolBounded := by
  intro s t h
  have hleaves : Leaves poolBounded (step s) :=
    .step ((tick_settled s).held h) (fun c _ _ => exec_keeps_pool c h)
  exact hleaves t

end Sys2Proof.Machine
end

section
/-! PROOFS. The fourth invariant: an entry of the Reach Table is VALID only while its side is in service (R65). -/

set_option Elab.async false

namespace Sys2Proof.Machine

section
variable {s t : State} {d : Side}

theorem portOf_sideOf (s : State) (p : Port) : s.portOf (s.sideOf p) = p := port_of_side s.straps p

theorem sideOf_portOf (s : State) (d : Side) : s.sideOf (s.portOf d) = d := side_of_port s.straps d

theorem portOf_ne_of_side {p : Port} (h : d ≠ s.sideOf p) : s.portOf d ≠ p := by
  intro heq
  rw [← heq, sideOf_portOf] at h
  exact h rfl

theorem portOf_of_straps (h : t.straps = s.straps) (d : Side) : t.portOf d = s.portOf d := by
  rw [State.portOf, h, State.portOf]

theorem inService_eq (s : State) (d : Side) : s.inService d = inServiceState (s.port (s.portOf d)).state := rfl

theorem Handled.inService {fits : Prop} (h : Handled fits s t) (d : Side) : t.inService d = s.inService d := by
  rw [inService_eq, inService_eq, portOf_of_straps h.straps, h.service]

theorem Handled.reach {fits : Prop} (h : Handled fits s t) (hs : reachInService s) : reachInService t := by
  intro d hvalid
  rw [h.inService]
  exact hs d ((h.valid d).symm.trans hvalid)

/-- A port changes and the other side's entry is as it was. -/
theorem inService_setPort_ne {p : Port} {v : PortUnit} (h : d ≠ s.sideOf p) :
    (s.setPort p v).inService d = s.inService d := by
  rw [inService_eq, inService_eq, portOf_of_straps (setPort_straps s p v), setPort_ne s p _ v (portOf_ne_of_side h)]

theorem inService_setPort_same {p : Port} {v : PortUnit} :
    (s.setPort p v).inService (s.sideOf p) = inServiceState v.state := by
  rw [inService_eq, portOf_of_straps (setPort_straps s p v), portOf_sideOf, setPort_port]

/-- A port that does not leave service. -/
theorem reach_setPort {p : Port} {v : PortUnit}
    (hservice : inServiceState (s.port p).state = true → inServiceState v.state = true) (h : reachInService s) :
    reachInService (s.setPort p v) := by
  intro d hvalid
  have hs : s.inService d = true := h d hvalid
  by_cases hd : d = s.sideOf p
  · rw [hd, inService_setPort_same]
    rw [hd, inService_eq, portOf_sideOf] at hs
    exact hservice hs
  · rw [inService_setPort_ne hd]
    exact hs

/-- R65: whatever the port that goes down has become, the entry of its side is INVALID. -/
theorem reach_portDown {p : Port} {v : PortUnit} (h : reachInService s) : reachInService (portDown (s.setPort p v) p) := by
  obtain ⟨hstraps, hservice, hvalid, _⟩ := lost_portDown (s := s.setPort p v) p
  intro d hd
  rw [hvalid d] at hd
  split at hd
  · cases hd
  · next hother =>
    have hs : s.inService d = true := h d hd
    have hkept : (s.setPort p v).inService d = s.inService d := inService_setPort_ne hother
    rw [inService_eq, portOf_of_straps hstraps, hservice, ← inService_eq, hkept]
    exact hs

theorem reach_loseLock (p : Port) (h : reachInService s) : reachInService (loseLock s p) := by
  unfold loseLock
  dsimp only
  split
  · next hseek => exact reach_setPort (by rw [hseek]; exact fun hin => hin) h
  · exact reach_portDown h
  · exact reach_portDown h
  · exact reach_portDown h
  · exact reach_setPort (fun hin => hin) h
  · exact h

theorem reach_seekHello (p : Port) (c : CellData) (m : Neighbour) (h : reachInService s) :
    reachInService (seekHello s p c m) := by
  unfold seekHello
  dsimp only
  split
  · exact (settled_portUp true p).reach (reach_setPort (fun _ => rfl) h)
  · exact reach_setPort (fun hin => hin) h

theorem reach_takeHello (p : Port) (c : CellData) (h : reachInService s) : reachInService (takeHello s p c) := by
  unfold takeHello
  split
  · unfold checkedHello
    dsimp only
    split
    · split
      · exact reach_portDown h
      · next hout => exact reach_setPort (fun hin => absurd hin hout) h
    · split
      · unfold serviceHello
        dsimp only
        split
        · exact reach_setPort (fun hin => hin) h
        · exact reach_seekHello p c _ (reach_portDown h)
      · exact reach_seekHello p c _ h
  · exact reach_setPort (fun hin => hin) h

/-- R62, R65: a beacon refreshes the entry of a side in service. -/
theorem reach_refreshEntry (c : Cell) (hside : s.inService d = true) (h : reachInService s) :
    reachInService (refreshEntry s d c) := by
  have hentry (e : ReachEntry) : reachInService (s.setEntry d e) := by
    intro x hx
    rw [entry_setEntry] at hx
    split at hx
    · next heq => rw [heq]; exact hside
    · exact h x hx
  unfold refreshEntry
  split
  · exact hentry _
  · exact Steady.dispatchPass.settled.reach (hentry _)

theorem reach_takeBeacon (c : Cell) (hside : s.inService d = true) (h : reachInService s) :
    reachInService (takeBeacon s d c) := by
  have hcount (f : ReachCounts → ReachCounts) : reachInService (State.countEntry { s with inHand := 0 } d f) := by
    intro x hx
    refine h x (Eq.trans ?_ hx)
    have hentry := entry_setEntry { s with inHand := 0 } d x
      { s.entry d with counts := f (s.entry d).counts }
    change (s.entry x).valid = ((State.setEntry { s with inHand := 0 } d
      { s.entry d with counts := f (s.entry d).counts }).entry x).valid
    rw [hentry]
    split
    · next heq => rw [heq]
    · rfl
  unfold takeBeacon
  split
  · exact hcount _
  · split
    · have hrefreshed : reachInService (refreshEntry s d c) := reach_refreshEntry c hside h
      unfold retireOrHandOn
      split
      · exact hrefreshed
      · exact (spends_handOnBeacon _ c).reach hrefreshed
    · exact hcount _

theorem reach_beaconArrival (p : Port) (c : Cell) (h : reachInService s) :
    reachInService (arrive s p c (fun x => admitCell x c (fun y => takeBeacon y (y.sideOf p) c))) := by
  have hadmitted {x : State} (hin : inServiceState (x.port p).state = true) (hx : reachInService x) :
      reachInService (admitCell x c (fun y => takeBeacon y (y.sideOf p) c)) := by
    unfold admitCell
    split
    · exact hx
    · split
      · exact hx
      · refine reach_takeBeacon c ?_ hx
        rw [inService_eq, portOf_sideOf]
        exact hin
  have hreceived : reachInService (receiveCell s p c) := (settled_receiveCell p c).reach h
  unfold arrive
  split
  · exact h
  · dsimp only
    split
    · exact reach_setPort (fun hin => hin) hreceived
    · split
      · next hin =>
        refine hadmitted ?_ ((settled_takeIn p).reach hreceived)
        rw [(settled_takeIn (s := receiveCell s p c) p).service, (settled_receiveCell p c).service]
        exact hin
      · exact reach_setPort (fun hin => hin) hreceived

theorem reach_lapseEntry (h : reachInService s) : reachInService (lapseEntry s d) := by
  obtain ⟨hstraps, hservice, hvalid, _⟩ := lost_lapseEntry (s := s) (d := d)
  intro x hx
  rw [hvalid x] at hx
  split at hx
  · cases hx
  · rw [inService_eq, portOf_of_straps hstraps, hservice]
    exact h x hx

theorem reach_ended (h : reachInService t) : reachInService (ended s t) := (settled_ended s t).reach h

theorem reach_started (s : State) (k : Straps) : reachInService (started s k) := by
  intro d hd
  rw [entry_of_within (started_parts s k) (by decide), resetValues_unreached] at hd
  cases hd

theorem exec_keeps_reach (c : Instr) (h : reachInService s) : Leaves reachInService (exec c s) := by
  cases hmoves : movesService c with
  | false => exact fun t ht => (exec_settled c hmoves t ht).reach h
  | true =>
    cases c with
    | resetEnd k => exact .ite (.next h) (.next (reach_started s k))
    | lossDebounceExpiry p =>
      refine .ite (.done (reach_ended ?_)) (.next h)
      exact (show reachInService (lightLost s p) by
        unfold lightLost
        dsimp only
        split
        · exact reach_portDown h
        · next hout => exact reach_setPort (fun hin => absurd hin hout) h)
    | markerWatchExpiry p => exact .ite (.done (reach_ended (reach_loseLock p h))) (.next h)
    | badCheckCell p =>
      refine .ite (.done (reach_ended ?_)) (.next h)
      exact (show reachInService (badCell s p) by
        unfold badCell
        dsimp only
        split
        · exact reach_loseLock p (reach_setPort (fun hin => hin) h)
        · exact reach_setPort (fun hin => hin) h)
    | hello p c =>
      have hreceived (x : Cell) : reachInService (receiveCell s p x) := (settled_receiveCell p x).reach h
      have hgood {x : State} (hx : reachInService x) : reachInService (goodCell x p) := reach_setPort (fun hin => hin) hx
      have htaken {x : State} (hx : reachInService x) : reachInService (takeIn x p) := (settled_takeIn p).reach hx
      refine .ite (.next h) (.ite (.next (reach_setPort (fun hin => hin) (hreceived _))) ?_)
      split
      · exact .next h
      · exact .done (reach_ended (reach_takeHello p c (hgood (hreceived _))))
      · exact .next (hgood (hreceived _))
      · exact .done (reach_ended (reach_takeHello p c (htaken (hreceived _))))
      · exact .done (reach_ended (reach_takeHello p c (htaken (hreceived _))))
      · exact .done (reach_ended (reach_takeHello p c (htaken (hreceived _))))
    | helloWatchExpiry p => exact .ite (.done (reach_ended (reach_portDown h))) (.next h)
    | wakeTimerExpiry p => exact .ite (.done (reach_ended (reach_portDown h))) (.next h)
    | beacon p c => exact .done (reach_ended (reach_beaconArrival p _ h))
    | reachLapse d => exact .ite (.done (reach_ended (reach_lapseEntry h))) (.next h)
    | _ => cases hmoves

end

/-- Settles O7: a side that leaves service has its entry made INVALID, and a beacon makes an entry VALID where it arrived. -/
theorem stepsKeepReachInService : Obligations.StepsKeepReachInService := by
  intro s t h
  have hleaves : Leaves reachInService (step s) :=
    .step ((tick_settled s).reach h) (fun c _ _ => exec_keeps_reach c h)
  exact hleaves t

end Sys2Proof.Machine
end

section
/-! PROOFS. HELLO in SEEK, doze, wake and back-pressure (O15, O17, O18, O19). -/

set_option Elab.async false

namespace Sys2Proof.Machine

section
variable {s t : State} {p : Port}

/-! ## What the end of a command leaves in a port -/

theorem ended_port_fields (s t : State) (p : Port) :
    (ended s t).port p
      = { t.port p with
          slotDozeReq := ((ended s t).port p).slotDozeReq, dozeRetry := ((ended s t).port p).dozeRetry } := by
  rw [ended_port]
  exact settleDoze_fields s t p

theorem ended_port_same (h : dozeBecame s t p = false) : (ended s t).port p = t.port p := by
  rw [ended_port]
  exact settleDoze_same s t p h

/-- A port that stays as it is while the calls and the queues of its side stay. -/
theorem ended_port_of_same (hport : t.port p = s.port p) (hside : t.sideOf p = s.sideOf p)
    (htable : t.table (s.sideOf p) = s.table (s.sideOf p)) (htiu : t.side (s.sideOf p) = s.side (s.sideOf p)) :
    (ended s t).port p = s.port p := by
  rw [ended_port_same, hport]
  refine dozeBecame_of_port p (by rw [hport]; exact fun hup hidle => ⟨hup, hidle⟩) hside.symm ?_ ?_
  · rw [hside]; exact htable
  · rw [hside]; exact htiu

theorem exec_done (c : Instr) (h : exec c s = done s t) : exec c s = .next (ended s t) := by
  rw [h, done_ended]

/-- A command that leaves a changed port alone, with what the end of the command may ask of it. -/
theorem ended_setPort_only (v : PortUnit) : onlyPort s (ended s (s.setPort p v)) p := by
  intro q hq
  exact ended_port_of_same (setPort_ne s p q v hq) rfl rfl rfl

/-! ## PORT-UP -/

/-- R33: a port that is UP takes PORT-UP with its count alone. -/
theorem portUp_port (fromSeek : Bool) (hup : (s.port p).state = .up) :
    (portUp fromSeek s p).port p
      = { s.port p with counts := { (s.port p).counts with portUps := satInc (s.port p).counts.portUps } } := by
  have hcounted : (s.countPort p (fun n => { n with portUps := satInc n.portUps })).port p
      = { s.port p with counts := { (s.port p).counts with portUps := satInc (s.port p).counts.portUps } } :=
    setPort_port s p _
  have hsteady : Steady (s.countPort p (fun n => { n with portUps := satInc n.portUps })) (portUp fromSeek s p) := by
    have hpassed (d : Side) := (Steady.holdCheck (s := s.countPort p (fun n => { n with portUps := satInc n.portUps })) d).trans
      .dispatchPass
    exact .ite ((hpassed _).trans .gatewayPortUp) (hpassed _)
  rcases hsteady.ports p with hsame | ⟨hdoze, _⟩
  · rw [hsame, hcounted]
  · rw [hcounted, hup] at hdoze
    cases hdoze

end

/-! ## HELLO in SEEK -/

section
variable {s : State} {p : Port} {c : CellData} {r : Role}

theorem sideCheck_of_fits {d : Side} {origin : Byte} (hne : origin ≠ s.station) (h : neighbourFits s d origin r) :
    sideCheck s d origin r = none := by
  unfold sideCheck
  rw [if_neg hne]
  cases d with
  | up =>
    obtain ⟨hless, hrole⟩ := h
    exact if_neg (fun hbad => hbad.elim (fun hgt => absurd hless (Nat.lt_asymm hgt)) hrole)
  | down =>
    obtain ⟨hless, hrole⟩ := h
    exact if_neg (fun hbad => hbad.elim (fun hgt => absurd hless (Nat.lt_asymm hgt)) hrole)

theorem sideCheck_of_own {d : Side} {origin : Byte} (h : origin = s.station) :
    sideCheck s d origin r = some .duplicate := if_pos h

theorem sideCheck_of_misfit {d : Side} {origin : Byte} (hne : origin ≠ s.station) (h : ¬ neighbourFits s d origin r) :
    sideCheck s d origin r = some .misordered := by
  have hnat : origin.toNat ≠ s.station.toNat := fun heq => hne (BitVec.eq_of_toNat_eq heq)
  unfold sideCheck
  rw [if_neg hne]
  cases d with
  | up =>
    have hbad : s.station.toNat < origin.toNat ∨ r = .gatewayD := by
      refine Classical.byContradiction (fun hgood => ?_)
      rw [not_or] at hgood
      exact h ⟨by omega, hgood.2⟩
    exact if_pos hbad
  | down =>
    have hbad : origin.toNat < s.station.toNat ∨ r = .gatewayU := by
      refine Classical.byContradiction (fun hgood => ?_)
      rw [not_or] at hgood
      exact h ⟨by omega, hgood.2⟩
    exact if_pos hbad

theorem takeHello_of_role (hrole : roleOfCode? (payloadByte c 0) = some r) : takeHello s p c = checkedHello s p c r := by
  unfold takeHello
  rw [hrole]

theorem checkedHello_of_seek (hseek : (s.port p).state = .seek) (hfits : sideCheck s (s.sideOf p) c.origin r = none) :
    checkedHello s p c r = seekHello s p c ⟨c.origin, r⟩ := by
  unfold checkedHello
  dsimp only
  rw [hfits]
  dsimp only
  rw [hseek]
  rfl

theorem checkedHello_of_misfit {f : PortFault} (hseek : (s.port p).state = .seek)
    (hfits : sideCheck s (s.sideOf p) c.origin r = some f) :
    checkedHello s p c r = s.setPort p (enterFault (s.port p) ⟨c.origin, r⟩ f) := by
  unfold checkedHello
  dsimp only
  rw [hfits]
  dsimp only
  rw [hseek]
  rfl

theorem goodCell_port (s : State) (p : Port) : (goodCell s p).port p = { s.port p with receive := none, badRun := 0 } :=
  setPort_port s p _

/-- R24: what becomes of a HELLO with a role in SEEK. -/
theorem exec_hello_seek (hreceives : receives s p = true) (hgood : headerOk (cellOf .hello c) = true)
    (hseek : (s.port p).state = .seek) (hrole : roleOfCode? (payloadByte c 0) = some r) :
    exec (.hello p c) s = .next (ended s (checkedHello (goodCell s p) p c r)) := by
  rw [exec_hello_of_seek c hreceives hgood hseek, takeHello_of_role hrole, done_ended]

end

/-- Settles O15: `checkedHello` decides, and PORT-UP leaves a port that is UP but for its count. -/
theorem helloInSeekBringsThePortUp : Obligations.HelloInSeekBringsThePortUp := by
  intro p c r s hreceives hgood hseek hrole
  have hexec := exec_hello_seek hreceives hgood hseek hrole
  have hport : (goodCell s p).port p = { s.port p with receive := none, badRun := 0 } := goodCell_port s p
  have hseek' : ((goodCell s p).port p).state = .seek := by rw [hport]; exact hseek
  refine ⟨fun hne hfits => ?fits, fun hown => ?own, fun hne hmisfit => ?misfit⟩
  case fits =>
    have hchecked : checkedHello (goodCell s p) p c r = seekHello (goodCell s p) p c ⟨c.origin, r⟩ :=
      checkedHello_of_seek hseek' (sideCheck_of_fits hne hfits)
    rw [hexec, hchecked]
    refine ⟨fun hheard => ?heard, fun hdeaf => ?deaf⟩
    case heard =>
      have htest : heardUs (goodCell s p) c = true := by
        rw [heardUs, beq_iff_eq]
        exact hheard
      have hup : seekHello (goodCell s p) p c ⟨c.origin, r⟩
          = portUp true ((goodCell s p).setPort p
              (enterUpFromSeek (goodCell s p) (recordNeighbour ((goodCell s p).port p) ⟨c.origin, r⟩))) p := if_pos htest
      rw [hup]
      refine ⟨_, rfl, ?_⟩
      rw [ended_port_fields, portUp_port true (by rw [setPort_port]; rfl), setPort_port, hport]
      exact ⟨rfl, rfl, rfl, rfl, rfl, rfl, rfl⟩
    case deaf =>
      have htest : ¬ heardUs (goodCell s p) c = true := by
        rw [heardUs, beq_iff_eq]
        exact hdeaf
      have hplaced : seekHello (goodCell s p) p c ⟨c.origin, r⟩
          = s.setPort p (placeHello (goodCell s p) (recordNeighbour ((goodCell s p).port p) ⟨c.origin, r⟩)) := by
        unfold seekHello
        dsimp only
        rw [if_neg htest]
        exact setPort_setPort s p _ _
      rw [hplaced]
      refine ⟨_, rfl, ?_, ?_, ?_, ended_setPort_only _⟩
      · rw [ended_port_fields, setPort_port, hport]; exact hseek
      · rw [ended_port_fields, setPort_port]; rfl
      · rw [ended_port_fields, setPort_port]; rfl
  case own =>
    have hchecked : checkedHello (goodCell s p) p c r
        = (goodCell s p).setPort p (enterFault ((goodCell s p).port p) ⟨c.origin, r⟩ .duplicate) :=
      checkedHello_of_misfit hseek' (sideCheck_of_own hown)
    rw [hexec, hchecked]
    refine ⟨_, rfl, ?_⟩
    rw [ended_port_fields, setPort_port, hport]
    exact ⟨rfl, rfl, rfl, rfl⟩
  case misfit =>
    have hchecked : checkedHello (goodCell s p) p c r
        = (goodCell s p).setPort p (enterFault ((goodCell s p).port p) ⟨c.origin, r⟩ .misordered) :=
      checkedHello_of_misfit hseek' (sideCheck_of_misfit hne hmisfit)
    rw [hexec, hchecked]
    refine ⟨_, rfl, ?_⟩
    rw [ended_port_fields, setPort_port]
    exact ⟨rfl, rfl, rfl⟩

/-! ## Doze -/

section
variable {s : State} {p : Port}

theorem receives_of_taken {c : Cell} (h : cellTaken s p c = true) :
    receives s p = true ∧ headerOk c = true ∧ inServiceState (s.port p).state = true := by
  rw [cellTaken, Bool.and_eq_true, Bool.and_eq_true] at h
  exact ⟨h.1.1, h.1.2, h.2⟩

theorem takeIn_port (s : State) (p : Port) :
    (takeIn s p).port p
      = { s.port p with
          receive := none, badRun := 0, counts := { (s.port p).counts with cellsIn := satInc (s.port p).counts.cellsIn } } :=
  setPort_port s p _

theorem takeIn_setPort (v : PortUnit) : (takeIn s p).setPort p v = s.setPort p v := setPort_setPort s p _ v

theorem dozeCondition_iff :
    s.dozeCondition p = true
      ↔ (s.port p).state = .up ∧ (s.port p).idle = some 0 ∧ s.table (s.sideOf p) = []
        ∧ tiuQuiet (s.side (s.sideOf p)) = true := by
  rw [State.dozeCondition, Bool.and_eq_true, Bool.and_eq_true, Bool.and_eq_true, beq_iff_eq, beq_iff_eq,
    List.isEmpty_iff, and_assoc, and_assoc]

/-- R29: a port whose doze condition becomes true asks for doze. -/
theorem ended_asks {t : State} (hafter : t.dozeCondition p = true) (hbefore : s.dozeCondition p = false)
    (hretry : (t.port p).dozeRetry = none) :
    ((ended s t).port p).slotDozeReq = some (linkCell t.station .dozeReq) ∧ ((ended s t).port p).dozeRetry = some 5000 := by
  have hbecame : dozeBecame s t p = true := by
    rw [dozeBecame, hafter, hbefore, hretry]
    rfl
  rw [ended_port, settleDoze_port, if_pos hbecame]
  exact ⟨rfl, rfl⟩

/-- R28, R29: the idle timer runs out. -/
theorem exec_idleTimerExpiry (hfree : s.portFree p = true) (hup : (s.port p).state = .up)
    (hruns : (s.port p).idle.isSome = true) :
    exec (.idleTimerExpiry p) s = .next (ended s (s.setPort p { s.port p with idle := some 0 })) := by
  have htest : (s.portFree p && (s.port p).state == .up && (s.port p).idle.isSome) = true := by
    rw [hfree, hup, hruns]
    rfl
  have hexec : exec (.idleTimerExpiry p) s = done s (s.setPort p { s.port p with idle := some 0 }) := if_pos htest
  rw [hexec, done_ended]

theorem exec_dozeReq {c : CellData} (h : cellTaken s p (cellOf .dozeReq c) = true) :
    exec (.dozeReq p c) s = .next (ended s (takeDozeReq (s.dozeCondition p) (takeIn s p) p)) := by
  have hexec : exec (.dozeReq p c) s
      = done s (arrive s p (cellOf .dozeReq c) (fun t => takeDozeReq (s.dozeCondition p) t p)) := rfl
  rw [hexec, arrive_taken s p _ _ h, done_ended]

theorem exec_dozeAck {c : CellData} (h : cellTaken s p (cellOf .dozeAck c) = true) :
    exec (.dozeAck p c) s = .next (ended s (takeDozeAck (takeIn s p) p)) := by
  have hexec : exec (.dozeAck p c) s = done s (arrive s p (cellOf .dozeAck c) (fun t => takeDozeAck t p)) := rfl
  rw [hexec, arrive_taken s p _ _ h, done_ended]

/-- R29: a DOZE-REQ is granted where the condition holds, and answered again in DOZE. -/
theorem takeDozeReq_granted (h : s.dozeCondition p = true ∨ (s.port p).state = .doze) :
    ∃ v, takeDozeReq (s.dozeCondition p) (takeIn s p) p = s.setPort p v ∧ v.state = .doze
      ∧ v.slotDozeAck = some (linkCell s.station .dozeAck) ∧ v.counts.cellsIn = satInc (s.port p).counts.cellsIn := by
  have hstate : ((takeIn s p).port p).state = (s.port p).state := by rw [takeIn_port]
  unfold takeDozeReq
  dsimp only
  split
  · next hup =>
    have hready : s.dozeCondition p = true := by
      refine h.resolve_right (fun hdoze => ?_)
      rw [hstate, hdoze] at hup
      cases hup
    rw [if_pos hready, takeIn_setPort]
    refine ⟨_, rfl, rfl, rfl, ?_⟩
    rw [takeIn_port]
    rfl
  · next hdoze =>
    rw [takeIn_setPort]
    refine ⟨_, rfl, hdoze, rfl, ?_⟩
    rw [takeIn_port]
    rfl
  · next hnotUp hnotDoze =>
    rcases h with hready | hdoze
    · exact absurd (hstate.trans (dozeCondition_iff.mp hready).1) hnotUp
    · exact absurd (hstate.trans hdoze) hnotDoze

/-- R30: a DOZE-ACK to a request that stands. -/
theorem takeDozeAck_asked (hup : (s.port p).state = .up) (hasked : (s.port p).dozeRetry.isSome = true) :
    ∃ v, takeDozeAck (takeIn s p) p = s.setPort p v
      ∧ v.state = (if tiuQuiet (s.side (s.sideOf p)) then .doze else .waking)
      ∧ v.counts.dozeEntries = satInc (s.port p).counts.dozeEntries := by
  have htest : ((takeIn s p).port p).state = .up ∧ ((takeIn s p).port p).dozeRetry.isSome = true := by
    rw [takeIn_port]
    exact ⟨hup, hasked⟩
  have hside : (takeIn s p).side ((takeIn s p).sideOf p) = s.side (s.sideOf p) := rfl
  unfold takeDozeAck
  dsimp only
  rw [if_pos htest, hside]
  split
  · rw [takeIn_setPort, takeIn_port]
    exact ⟨_, rfl, rfl, rfl⟩
  · rw [takeIn_setPort, takeIn_port]
    exact ⟨_, rfl, rfl, rfl⟩

end

/-- Settles O17: each command through the port it leaves; the other port's doze condition stays as it was. -/
theorem dozeIsAskedAndGranted : Obligations.DozeIsAskedAndGranted := by
  intro p c s hfree
  refine ⟨fun hup hruns hidle => ?idle, fun hretry => ?retry, fun htaken hready => ?request, fun htaken hup hasked => ?ack⟩
  case idle =>
    refine ⟨_, exec_idleTimerExpiry hfree hup hruns, ?_, ?_, ended_setPort_only _, fun htable hquiet hretry => ?_⟩
    · rw [ended_port_fields, setPort_port]
    · rw [ended_port_fields, setPort_port]; exact hup
    · refine ended_asks ?_ ?_ ?_
      · rw [dozeCondition_iff, setPort_port]
        exact ⟨hup, rfl, htable, hquiet⟩
      · rw [Bool.eq_false_iff]
        exact fun hcondition => hidle (dozeCondition_iff.mp hcondition).2.1
      · rw [setPort_port]; exact hretry
  case retry =>
    have htest : (s.portFree p && (s.port p).dozeRetry.isSome) = true := by
      rw [hfree, hretry]
      rfl
    have hexec : exec (.dozeRetryExpiry p) s
        = if s.dozeCondition p then .next (askDoze (s.setPort p { s.port p with dozeRetry := none }) p)
          else .next (s.setPort p { s.port p with dozeRetry := none }) := if_pos htest
    rw [hexec]
    split
    · rw [askDoze, setPort_setPort, setPort_port]
      rfl
    · rfl
  case request =>
    obtain ⟨v, heq, hdoze, hack, hcount⟩ := takeDozeReq_granted hready
    rw [exec_dozeReq htaken, heq]
    refine ⟨_, rfl, ?_, ?_, ended_setPort_only v, ?_⟩
    · rw [ended_port_fields, setPort_port]; exact hdoze
    · rw [ended_port_fields, setPort_port]; exact hack
    · rw [ended_port_fields, setPort_port]; exact hcount
  case ack =>
    obtain ⟨v, heq, hstate, hcount⟩ := takeDozeAck_asked hup hasked
    rw [exec_dozeAck htaken, heq]
    refine ⟨_, rfl, ended_setPort_only v, ?_, ?_⟩
    · rw [ended_port_fields, setPort_port]; exact hstate
    · rw [ended_port_fields, setPort_port]; exact hcount

/-! ## Wake -/

section
variable {s : State} {p : Port}

/-- R32: what a wake burst makes of a port in service. -/
theorem takeWakeBurst_port (hin : inServiceState (s.port p).state = true) :
    ((takeWakeBurst s p).port p).state = .up
      ∧ ((takeWakeBurst s p).port p).slotWakeAck = some (linkCell s.station .wakeAck)
      ∧ ((s.port p).state ≠ .up →
          ((takeWakeBurst s p).port p).idle = some 5000 ∧ ((takeWakeBurst s p).port p).wakeTimer = none)
      ∧ ((s.port p).state = .waking →
          ((takeWakeBurst s p).port p).counts.portUps = satInc (s.port p).counts.portUps)
      ∧ ((s.port p).state ≠ .waking → ((takeWakeBurst s p).port p).counts.portUps = (s.port p).counts.portUps) := by
  unfold takeWakeBurst
  dsimp only
  split
  · next hdoze =>
    rw [setPort_port]
    exact ⟨rfl, rfl, fun _ => ⟨rfl, rfl⟩, fun hwaking => (by rw [hdoze] at hwaking; cases hwaking), fun _ => rfl⟩
  · next hwaking =>
    rw [portUp_port false (by rw [setPort_port]; rfl), setPort_port]
    exact ⟨rfl, rfl, fun _ => ⟨rfl, rfl⟩, fun _ => rfl, fun hnot => absurd hwaking hnot⟩
  · next hup =>
    rw [setPort_port]
    exact ⟨hup, rfl, fun hnot => absurd hup hnot, fun hwaking => (by rw [hup] at hwaking; cases hwaking), fun _ => rfl⟩
  · next hnotDoze hnotWaking hnotUp =>
    cases hstate : (s.port p).state with
    | up => exact absurd hstate hnotUp
    | doze => exact absurd hstate hnotDoze
    | waking => exact absurd hstate hnotWaking
    | dark => rw [hstate] at hin; cases hin
    | seek => rw [hstate] at hin; cases hin
    | fault => rw [hstate] at hin; cases hin

theorem takeWakeAck_port (hwaking : (s.port p).state = .waking) :
    (takeWakeAck s p).port p
      = { enterUpFromWake (s.port p) with
          counts := { (s.port p).counts with portUps := satInc (s.port p).counts.portUps } } := by
  rw [takeWakeAck, if_pos hwaking, portUp_port false (by rw [setPort_port]; rfl), setPort_port]
  rfl

end

/-- Settles O18: each command through the port it leaves. -/
theorem wakeBringsTheSideUp : Obligations.WakeBringsTheSideUp := by
  intro p c s hfree
  refine ⟨fun hwaking hwindow htimer => ?window, fun hlock hin => ?burst, fun htaken hwaking => ?ack⟩
  case window =>
    have htest : (s.portFree p && (s.port p).state == .waking && (s.port p).answerWindow.isSome
        && (s.port p).wakeTimer.isSome) = true := by
      rw [hfree, hwaking, hwindow, htimer]
      rfl
    exact if_pos htest
  case burst =>
    have htest : receives s p = true := by rw [receives, hfree, hlock]; rfl
    have hexec : exec (.wakeBurst p) s = done s (takeWakeBurst s p) := if_pos htest
    obtain ⟨hup, hack, htimers, hcounted, hkept⟩ := takeWakeBurst_port hin
    rw [hexec, done_ended]
    refine ⟨_, rfl, ?_⟩
    rw [ended_port_fields]
    exact ⟨hup, hack, htimers, hcounted, hkept⟩
  case ack =>
    have hexec : exec (.wakeAck p c) s = done s (arrive s p (cellOf .wakeAck c) (fun t => takeWakeAck t p)) := rfl
    have hport : ((takeIn s p).port p).state = .waking := by rw [takeIn_port]; exact hwaking
    rw [hexec, arrive_taken s p _ _ htaken, done_ended]
    refine ⟨_, rfl, ?_⟩
    rw [ended_port_fields, takeWakeAck_port hport, takeIn_port]
    exact ⟨rfl, rfl, rfl, rfl, rfl⟩

/-! ## Back-pressure -/

section
variable {s : State} {p : Port} {d : Side}

theorem ended_side (s t : State) (d : Side) : (ended s t).side d = t.side d := by
  rw [ended]
  rfl

/-- R46: a HOLD or RESUME at the tail of a queue that holds none. -/
theorem putBackPressure_of_room {v : Tiu} {c : Cell} (hnone : v.insLink.any isBackPressure = false)
    (hroom : v.insLink.length < 8) : putBackPressure v c = { v with insLink := v.insLink ++ [c] } := by
  have htest : ¬ hasBackPressure v.insLink = true := by rw [hasBackPressure, hnone]; decide
  have hplace : v.insLink.length < insCapacity .link := hroom
  rw [putBackPressure, if_neg htest, if_pos hplace]

/-- R46: a HOLD or RESUME takes the place of the one that waits. -/
theorem putBackPressure_of_waiting {v : Tiu} {c : Cell} (h : v.insLink.any isBackPressure = true) :
    putBackPressure v c = { v with insLink := v.insLink.map (fun x => if isBackPressure x then c else x) } := by
  have htest : hasBackPressure v.insLink = true := h
  rw [putBackPressure, if_pos htest]

/-- A LINK cell taken by its side alone. -/
theorem sideTaken (f : Tiu → Tiu) :
    Within [.inHand, .ports, .tiu] s (ended s ((takeIn s p).setSide (s.sideOf p) (f (s.side (s.sideOf p)))))
      ∧ (ended s ((takeIn s p).setSide (s.sideOf p) (f (s.side (s.sideOf p))))).side (s.sideOf p)
        = f (s.side (s.sideOf p))
      ∧ (ended s ((takeIn s p).setSide (s.sideOf p) (f (s.side (s.sideOf p))))).side (otherSide (s.sideOf p))
        = s.side (otherSide (s.sideOf p)) := by
  have hother : otherSide (s.sideOf p) ≠ s.sideOf p := by cases s.sideOf p <;> decide
  refine ⟨?_, ?_, ?_⟩
  · rw [ended]
    exact within_ended ((within_takeIn s p).seq (within_setSide (takeIn s p) _ _) : Within [.ports, .tiu] s _)
  · rw [ended_side, side_setSide, if_pos rfl]
  · rw [ended_side, side_setSide, if_neg hother]
    rfl

theorem exec_holdRepeatExpiry (hlive : s.live = true) (hin : s.inService d = true)
    (hsent : (s.side d).holdRepeat.isSome = true) (hdepth : 32 < (s.side (otherSide d)).tqData.length) :
    exec (.holdRepeatExpiry d) s = .next (makeHold s d) := by
  have htest : (s.live && s.inService d && (s.side d).holdRepeat.isSome
      && decide (resumeDepth < (s.side (otherSide d)).tqData.length)) = true := by
    rw [hlive, hin, hsent, decide_eq_true (show resumeDepth < _ from hdepth)]
    rfl
  exact if_pos htest

end

/-- Settles O19: a HOLD and a RESUME change their side alone, the timers by `makeHold`. -/
theorem backPressureIsKeptPerSide : Obligations.BackPressureIsKeptPerSide := by
  refine ⟨fun p c s => ⟨fun htaken => ?hold, fun htaken => ?resume⟩, fun d s hlive => ⟨fun hheld => ?expiry,
    fun hin hsent hdepth => ⟨fun hnone hroom => ?tail, fun hwaits => ?place⟩⟩⟩
  case hold =>
    have hexec : exec (.hold p c) s
        = done s (arrive s p (cellOf .hold c) (fun t => t.setSide (t.sideOf p) (takeHold (t.side (t.sideOf p))))) := rfl
    rw [hexec, arrive_taken s p _ _ htaken, done_ended]
    exact ⟨_, rfl, sideTaken takeHold⟩
  case resume =>
    have hexec : exec (.resume p c) s
        = done s (arrive s p (cellOf .resume c)
            (fun t => t.setSide (t.sideOf p) (takeResume (t.side (t.sideOf p))))) := rfl
    rw [hexec, arrive_taken s p _ _ htaken, done_ended]
    exact ⟨_, rfl, sideTaken takeResume⟩
  case expiry =>
    have htest : (s.live && (s.side d).holdExpiry.isSome) = true := by rw [hlive, hheld]; rfl
    exact if_pos htest
  case tail =>
    rw [exec_holdRepeatExpiry hlive hin hsent hdepth, makeHold, putBackPressure_of_room hnone hroom]
    rfl
  case place =>
    rw [exec_holdRepeatExpiry hlive hin hsent hdepth, makeHold, putBackPressure_of_waiting hwaits]
    rfl

end Sys2Proof.Machine
end

section
/-! PROOFS. The gantry line: the receiver, the assembler and the store write (O40, O41, O42). -/

set_option Elab.async false

namespace Sys2Proof.Machine

section
variable {s t : State} {g : Gli} {c : FifoChar} {body : List Byte} {damaged : Bool}

/-! ## The receiver and the transmitter -/

theorem fifoPush_of_room (c : FifoChar) (h : g.fifo.length < 64) :
    fifoPush g c = { g with fifo := g.fifo ++ [{ c with overrun := g.lossPending }], lossPending := false } :=
  if_pos h

theorem fifoPush_of_full (c : FifoChar) (h : 64 ≤ g.fifo.length) :
    fifoPush g c = { g with lossPending := true, counts := { g.counts with overruns := satInc g.counts.overruns } } :=
  if_neg (Nat.not_lt.2 h)

/-- R103: of the counts a push raises only OVERRUNS. -/
theorem fifoPush_counts (g : Gli) (c : FifoChar) :
    (fifoPush g c).counts = { g.counts with overruns := (fifoPush g c).counts.overruns } := by
  unfold fifoPush
  split
  · rfl
  · rfl

theorem fifoPush_lineBreak (g : Gli) (c : FifoChar) : (fifoPush g c).lineBreak = g.lineBreak := by
  unfold fifoPush
  split
  · rfl
  · rfl

theorem takeCharacter_of_framed {value : Byte} {parityBit stopBit : Bool}
    (h : ¬ (value = 0 ∧ parityBit = false ∧ stopBit = false)) :
    takeCharacter g value parityBit stopBit = takeFramed g value parityBit stopBit := if_neg h

/-- The counts a framed character raises before it is pushed. -/
def framedCounts (n : GliCounts) (value : Byte) (parityBit stopBit : Bool) : GliCounts :=
  { n with
    charsReceived := satInc n.charsReceived
    parityErrors := if parityOdd value parityBit then satInc n.parityErrors else n.parityErrors
    framingErrors := if stopBit then n.framingErrors else satInc n.framingErrors }

theorem takeFramed_eq (g : Gli) (value : Byte) (parityBit stopBit : Bool) :
    takeFramed g value parityBit stopBit
      = fifoPush { g with counts := framedCounts g.counts value parityBit stopBit }
          { value := value, parity := parityOdd value parityBit, framing := !stopBit, brk := false, overrun := false } := by
  unfold takeFramed framedCounts
  cases parityOdd value parityBit with
  | true =>
    cases stopBit with
    | true => rfl
    | false => rfl
  | false =>
    cases stopBit with
    | true => rfl
    | false => rfl

theorem exec_characterReceived {value : Byte} {parityBit stopBit : Bool} (hworks : s.gantryWorks = true)
    (hline : s.gli.lineBreak = false) :
    exec (.characterReceived value parityBit stopBit) s
      = .next { s with gli := takeCharacter s.gli value parityBit stopBit } := by
  refine if_pos ?_
  rw [hworks, hline]
  rfl

theorem exec_breakDetected (hworks : s.gantryWorks = true) (hline : s.gli.lineBreak = false) :
    exec .breakDetected s = .next { s with gli := takeBreak s.gli } := by
  refine if_pos ?_
  rw [hworks, hline]
  rfl

theorem exec_transmitControlCharacter (hworks : s.gantryWorks = true) :
    exec .transmitControlCharacter s = .next { s with gli := sendControl s.gli } := if_pos hworks

theorem sendControl_of_flow {f : FlowChar} (h : g.flowPlace = some f) :
    sendControl g = { g with flowPlace := none, txChar := some (flowCode f), counts := countFlow g.counts f } := by
  unfold sendControl
  rw [h]

theorem sendControl_of_answer {a : Answer} {rest : List Answer} (hflow : g.flowPlace = none) (h : g.answers = a :: rest) :
    sendControl g
      = placeHeld { g with answers := rest, txChar := some (answerCode a), counts := countAnswer g.counts a } := by
  unfold sendControl
  rw [hflow, h]

theorem sendControl_of_rest (hflow : g.flowPlace = none) (h : g.answers = []) :
    sendControl g = { g with txChar := none } := by
  unfold sendControl
  rw [hflow, h]

theorem answerReader_of_room (a : Answer) (h : g.answers.length < 7) :
    answerReader g a = { g with answers := g.answers ++ [a] } := if_pos h

theorem answerReader_of_full (a : Answer) (h : 7 ≤ g.answers.length) :
    answerReader g a = { g with heldAnswer := some a } := if_neg (Nat.not_lt.2 h)

/-- R105: a held answer takes the place that has freed. -/
theorem placeHeld_of_room (h : g.answers.length < 7) :
    placeHeld g = { g with heldAnswer := none, answers := g.answers ++ g.heldAnswer.toList } := by
  unfold placeHeld
  split
  · next a hheld =>
    rw [hheld]
    exact answerReader_of_room a (by exact h)
  · next hheld =>
    rw [hheld, Option.toList_none, List.append_nil, ← hheld]

end

/-- Settles O40. -/
theorem gantryLineReceivesAndAnswers : Obligations.GantryLineReceivesAndAnswers := by
  intro s hworks
  refine ⟨fun hline => ⟨fun value parityBit stopBit hframed => ?_, ?_⟩, if_pos hworks, fun f hflow => ?_,
    fun a rest hflow hanswers hlength => ?_, fun hflow hanswers => ?_⟩
  · refine ⟨_, exec_characterReceived hworks hline, within_withGli _ _, ?_⟩
    rw [takeCharacter_of_framed hframed, takeFramed_eq]
    refine ⟨?_, ?_, fun hroom => ?_, fun hfull => ?_⟩
    · exact congrArg GliCounts.charsReceived (fifoPush_counts _ _)
    · exact congrArg GliCounts.framingErrors (fifoPush_counts _ _)
    · rw [fifoPush_of_room _ (by exact hroom)]
      exact ⟨rfl, rfl⟩
    · rw [fifoPush_of_full _ (by exact hfull)]
      exact ⟨rfl, rfl, rfl⟩
  · refine ⟨_, exec_breakDetected hworks hline, within_withGli _ _, ?_, ?_, fun hroom => ?_⟩
    · exact fifoPush_lineBreak _ _
    · exact congrArg GliCounts.breaks (fifoPush_counts _ _)
    · exact congrArg Gli.fifo (fifoPush_of_room _ (by exact hroom))
  · refine ⟨_, exec_transmitControlCharacter hworks, within_withGli _ _, ?_⟩
    rw [sendControl_of_flow hflow]
    cases f with
    | xon => exact ⟨rfl, rfl, rfl⟩
    | xoff => exact ⟨rfl, rfl, rfl⟩
  · refine ⟨_, exec_transmitControlCharacter hworks, within_withGli _ _, ?_⟩
    have hroom : rest.length < 7 := by
      rw [hanswers, List.length_cons] at hlength
      omega
    rw [sendControl_of_answer hflow hanswers, placeHeld_of_room (by exact hroom)]
    cases a with
    | ack => exact ⟨rfl, rfl, rfl⟩
    | nak => exact ⟨rfl, rfl, rfl⟩
  · rw [exec_transmitControlCharacter hworks, sendControl_of_rest hflow hanswers]

section
variable {s t : State} {g : Gli} {c : FifoChar} {rest : List FifoChar} {body : List Byte} {damaged : Bool}

/-! ## The assembler -/

theorem isSor_iff : isSor c = true ↔ c.value = 0x1C ∧ c.parity = false ∧ c.framing = false ∧ c.brk = false := by
  simp only [isSor, Bool.and_eq_true, beq_iff_eq, Bool.not_eq_true', and_assoc]

theorem tagged_iff : tagged c = true ↔ c.parity = true ∨ c.framing = true ∨ c.overrun = true := by
  simp only [tagged, Bool.or_eq_true, or_assoc]

theorem unprintable_iff (b : Byte) : unprintable b = true ↔ b.toNat < 0x20 ∨ 0x7E < b.toNat := by
  simp only [unprintable, Bool.or_eq_true, decide_eq_true_eq]

theorem exec_assemblerTakeCharacter (hworks : s.gantryWorks = true) (hheld : s.gli.heldAnswer = none)
    (hfifo : s.gli.fifo = c :: rest) (hidle : ∀ body, s.gli.assembler ≠ .write body) :
    exec .assemblerTakeCharacter s = .next { s with gli := assemblerTakes s { s.gli with fifo := rest } c } := by
  have hready : assemblerReady s.gli = true := by
    unfold assemblerReady
    rw [hheld]
    cases hstate : s.gli.assembler with
    | write body => exact absurd hstate (hidle body)
    | hunt => rfl
    | assemble body damaged => rfl
  rw [show exec .assemblerTakeCharacter s = execAssemblerTakeCharacter s from rfl, execAssemblerTakeCharacter, hworks, hready,
    hfifo]
  rfl

theorem assemblerTakes_of_hunt (h : g.assembler = .hunt) :
    assemblerTakes s g c = { g with assembler := if isSor c then .assemble [] false else .hunt } := by
  unfold assemblerTakes
  rw [h]
  dsimp only
  split
  · rfl
  · rw [← h]

theorem assemblerTakes_of_assemble (h : g.assembler = .assemble body damaged) :
    assemblerTakes s g c = assembleCharacter s g body damaged c := by
  unfold assemblerTakes
  rw [h]

theorem assembleCharacter_of_sor (h : isSor c = true) :
    assembleCharacter s g body damaged c
      = { g with
          assembler := .assemble [] false
          counts := { g.counts with recordsTruncated := satInc g.counts.recordsTruncated } } := if_pos h

theorem assembleCharacter_of_break (h : isSor c = false) (hbrk : c.brk = true) :
    assembleCharacter s g body damaged c
      = { g with assembler := .hunt, counts := { g.counts with recordsBroken := satInc g.counts.recordsBroken } } := by
  rw [assembleCharacter, h, hbrk]
  rfl

theorem assembleCharacter_of_body (h : isSor c = false) (hbrk : c.brk = false) (hlen : body.length < 20) :
    assembleCharacter s g body damaged c = bodyCharacter g body damaged c := by
  rw [assembleCharacter, h, hbrk]
  exact if_pos hlen

theorem assembleCharacter_of_check (h : isSor c = false) (hbrk : c.brk = false) (hlen : 20 ≤ body.length) :
    assembleCharacter s g body damaged c = judgeRecord s g body damaged c := by
  rw [assembleCharacter, h, hbrk]
  exact if_neg (Nat.not_lt.2 hlen)

/-- R108: the record is good. -/
theorem judgeRecord_good_iff :
    (damaged || tagged c || !sumGood body c.value) = false
      ↔ damaged = false ∧ ¬ (c.parity = true ∨ c.framing = true ∨ c.overrun = true)
        ∧ ((body.map BitVec.toNat).sum + c.value.toNat) % 256 = 0 := by
  rw [Bool.or_eq_false_iff, Bool.or_eq_false_iff, ← Bool.not_eq_true (tagged c), tagged_iff, Bool.not_eq_false', sumGood,
    beq_iff_eq, and_assoc]

theorem judgeRecord_of_good (h : (damaged || tagged c || !sumGood body c.value) = false) :
    judgeRecord s g body damaged c = offerStore s g body := by
  rw [judgeRecord, h]
  rfl

theorem judgeRecord_of_bad (h : (damaged || tagged c || !sumGood body c.value) = true) :
    judgeRecord s g body damaged c = judgeDamaged g := by
  rw [judgeRecord, h]
  rfl

theorem offerStore_of_full (h : 256 ≤ s.csd.store.length) :
    offerStore s g body
      = answerReader { g with assembler := .hunt, counts := { g.counts with recordsFull := satInc g.counts.recordsFull } }
          .nak := if_pos h

theorem offerStore_of_held (h : s.csd.store.length < 256) (hheld : findEntry s s.csd.nextSeq ≠ none) :
    offerStore s g body
      = answerReader { g with assembler := .hunt, counts := { g.counts with sequenceHeld := satInc g.counts.sequenceHeld } }
          .nak := by
  rw [offerStore, if_neg (by exact Nat.not_le.2 h), if_pos (Option.isSome_iff_ne_none.2 hheld)]

theorem offerStore_of_taken (h : s.csd.store.length < 256) (hfree : findEntry s s.csd.nextSeq = none) :
    offerStore s g body = { g with assembler := .write body } := by
  rw [offerStore, if_neg (by exact Nat.not_le.2 h), hfree]
  rfl

/-- R110: an answer takes an answer place, or is held. -/
theorem answerReader_fields (g : Gli) (a : Answer) :
    (answerReader g a).fifo = g.fifo ∧ (answerReader g a).assembler = g.assembler ∧ (answerReader g a).counts = g.counts
      ∧ (g.answers.length < 7 →
          (answerReader g a).answers = g.answers ++ [a] ∧ (answerReader g a).heldAnswer = g.heldAnswer)
      ∧ (7 ≤ g.answers.length → (answerReader g a).answers = g.answers ∧ (answerReader g a).heldAnswer = some a) := by
  rcases Nat.lt_or_ge g.answers.length 7 with hroom | hfull
  · rw [answerReader_of_room a hroom]
    exact ⟨rfl, rfl, rfl, fun _ => ⟨rfl, rfl⟩, fun h => absurd hroom (Nat.not_lt.2 h)⟩
  · rw [answerReader_of_full a hfull]
    exact ⟨rfl, rfl, rfl, fun h => absurd h (Nat.not_lt.2 hfull), fun _ => ⟨rfl, rfl⟩⟩

/-- What a refused record leaves: HUNT, a NAK, and the count of the reason. -/
def answeredNak (g : Gli) (n : GliCounts) : Gli := answerReader { g with assembler := .hunt, counts := n } .nak

theorem answeredNak_fields (n : GliCounts) (hheld : g.heldAnswer = none) :
    (answeredNak g n).fifo = g.fifo ∧ (answeredNak g n).assembler = .hunt ∧ (answeredNak g n).counts = n
      ∧ (g.answers.length < 7 →
          (answeredNak g n).answers = g.answers ++ [.nak] ∧ (answeredNak g n).heldAnswer = none)
      ∧ (7 ≤ g.answers.length →
          (answeredNak g n).answers = g.answers ∧ (answeredNak g n).heldAnswer = some .nak) := by
  obtain ⟨hfifo, hhunt, hcounts, hroom, hfull⟩ := answerReader_fields { g with assembler := .hunt, counts := n } .nak
  exact ⟨hfifo, hhunt, hcounts, fun h => ⟨(hroom h).1, (hroom h).2.trans hheld⟩, hfull⟩

/-- R108, R109: the check character's three refusals and the one record that is written. -/
theorem judgeRecord_fields (hheld : g.heldAnswer = none) :
    let good := damaged = false ∧ ¬ (c.parity = true ∨ c.framing = true ∨ c.overrun = true)
      ∧ ((body.map BitVec.toNat).sum + c.value.toNat) % 256 = 0
    let taken := s.csd.store.length < 256 ∧ findEntry s s.csd.nextSeq = none
    let r := judgeRecord s g body damaged c
    r.fifo = g.fifo
      ∧ (good → taken → r.assembler = .write body ∧ r.answers = g.answers)
      ∧ (¬ (good ∧ taken) → r.assembler = .hunt
          ∧ (g.answers.length < 7 → r.answers = g.answers ++ [.nak] ∧ r.heldAnswer = none)
          ∧ (7 ≤ g.answers.length → r.answers = g.answers ∧ r.heldAnswer = some .nak))
      ∧ (¬ good → r.counts.recordsDamaged = satInc g.counts.recordsDamaged)
      ∧ (good → 256 ≤ s.csd.store.length → r.counts.recordsFull = satInc g.counts.recordsFull)
      ∧ (good → s.csd.store.length < 256 → findEntry s s.csd.nextSeq ≠ none →
          r.counts.sequenceHeld = satInc g.counts.sequenceHeld) := by
  intro good taken r
  have hrefusal (n : GliCounts) (hr : r = answeredNak g n) := by
    exact hr ▸ answeredNak_fields (g := g) n hheld
  cases hjudge : (damaged || tagged c || !sumGood body c.value) with
  | true =>
    have hbad : ¬ good := fun h => Bool.false_ne_true ((judgeRecord_good_iff.2 h).symm.trans hjudge)
    obtain ⟨hfifo, hhunt, hcounts, hroom, hfull⟩ := hrefusal _ (judgeRecord_of_bad hjudge)
    exact ⟨hfifo, fun h => absurd h hbad, fun _ => ⟨hhunt, hroom, hfull⟩,
      fun _ => congrArg GliCounts.recordsDamaged hcounts, fun h => absurd h hbad, fun h => absurd h hbad⟩
  | false =>
    have hgood : good := judgeRecord_good_iff.1 hjudge
    have hr : r = offerStore s g body := judgeRecord_of_good hjudge
    rcases Nat.lt_or_ge s.csd.store.length 256 with hstore | hstore
    · by_cases hfind : findEntry s s.csd.nextSeq = none
      · have hr' : r = { g with assembler := .write body } := hr.trans (offerStore_of_taken hstore hfind)
        rw [hr']
        exact ⟨rfl, fun _ _ => ⟨rfl, rfl⟩, fun h => absurd ⟨hgood, hstore, hfind⟩ h, fun h => absurd hgood h,
          fun _ h => absurd hstore (Nat.not_lt.2 h), fun _ _ h => absurd hfind h⟩
      · obtain ⟨hfifo, hhunt, hcounts, hroom, hfull⟩ := hrefusal _ (hr.trans (offerStore_of_held hstore hfind))
        exact ⟨hfifo, fun _ h => absurd h.2 hfind, fun _ => ⟨hhunt, hroom, hfull⟩, fun h => absurd hgood h,
          fun _ h => absurd hstore (Nat.not_lt.2 h), fun _ _ _ => congrArg GliCounts.sequenceHeld hcounts⟩
    · obtain ⟨hfifo, hhunt, hcounts, hroom, hfull⟩ := hrefusal _ (hr.trans (offerStore_of_full hstore))
      exact ⟨hfifo, fun _ h => absurd h.1 (Nat.not_lt.2 hstore), fun _ => ⟨hhunt, hroom, hfull⟩,
        fun h => absurd hgood h, fun _ _ => congrArg GliCounts.recordsFull hcounts,
        fun _ h => absurd h (Nat.not_lt.2 hstore)⟩

end

/-- Settles O41. -/
theorem assemblerBuildsRecords : Obligations.AssemblerBuildsRecords := by
  intro c rest s hworks hheld hfifo sor bad
  have hsor (h : ¬ sor) : isSor c = false := Bool.eq_false_iff.2 (fun k => h (isSor_iff.1 k))
  refine ⟨fun hhunt => ?_, fun body damaged hstate => ?_⟩
  · refine ⟨_, exec_assemblerTakeCharacter hworks hheld hfifo (fun body h => nomatch hhunt.symm.trans h),
      within_withGli _ _, ?_⟩
    rw [assemblerTakes_of_hunt (by exact hhunt)]
    exact ⟨rfl, fun h => if_pos (isSor_iff.2 h), fun h => if_neg (Bool.eq_false_iff.1 (hsor h))⟩
  · have hexec := exec_assemblerTakeCharacter hworks hheld hfifo (fun body h => nomatch hstate.symm.trans h)
    rw [assemblerTakes_of_assemble (by exact hstate)] at hexec
    refine ⟨fun h => ?_, fun hbrk => ?_, fun h hbrk hlen => ?_, fun h hbrk hlen => ?_⟩
    · exact ⟨_, hexec, within_withGli _ _, assembleCharacter_of_sor (isSor_iff.2 h)⟩
    · have hnot : ¬ sor := fun h => Bool.false_ne_true (h.2.2.2.symm.trans hbrk)
      exact ⟨_, hexec, within_withGli _ _, assembleCharacter_of_break (hsor hnot) hbrk⟩
    · refine ⟨_, hexec, within_withGli _ _, ?_⟩
      rw [assembleCharacter_of_body (hsor h) hbrk hlen]
      refine ⟨rfl, _, rfl, ?_⟩
      rw [Bool.or_eq_true, Bool.or_eq_true, tagged_iff, unprintable_iff, or_assoc]
    · refine ⟨_, hexec, within_withGli _ _, ?_⟩
      rw [assembleCharacter_of_check (hsor h) hbrk hlen]
      exact judgeRecord_fields (g := { s.gli with fifo := rest }) hheld

section
variable {s t u : State} {body : List Byte}

/-! ## The store write -/

/-- What a dispatch pass leaves of the custody store: which records stand in it, in order, the next sequence, and the
counts of what enters and leaves it. -/
def SameRecords (s t : State) : Prop :=
  t.csd.store.map (fun e => (e.sequence, e.body)) = s.csd.store.map (fun e => (e.sequence, e.body))
    ∧ t.csd.nextSeq = s.csd.nextSeq
    ∧ t.csd.counts
      = { s.csd.counts with
          tollDispatches := t.csd.counts.tollDispatches, dispatchRefused := t.csd.counts.dispatchRefused,
          directionSwitches := t.csd.counts.directionSwitches }

theorem SameRecords.trans (h : SameRecords s t) (k : SameRecords t u) : SameRecords s u := by
  obtain ⟨hstore, hseq, hcounts⟩ := h
  obtain ⟨kstore, kseq, kcounts⟩ := k
  refine ⟨kstore.trans hstore, kseq.trans hseq, ?_⟩
  rw [kcounts, hcounts]

theorem SameRecords.of_csd (h : t.csd = s.csd) : SameRecords s t := by
  rw [SameRecords, h]
  exact ⟨rfl, rfl, rfl⟩

theorem sameRecords_changeEntry (s : State) (q : Half) {f : CustodyEntry → CustodyEntry}
    (hf : ∀ e, (f e).sequence = e.sequence ∧ (f e).body = e.body) : SameRecords s (s.changeEntry q f) := by
  refine ⟨?_, rfl, rfl⟩
  rw [show (s.changeEntry q f).csd.store = s.csd.store.map (fun e => if e.sequence = q then f e else e) from rfl,
    List.map_map]
  refine List.map_congr_left (fun e _ => ?_)
  obtain ⟨hseq, hbody⟩ := hf e
  rw [Function.comp_apply]
  split
  · rw [hseq, hbody]
  · rfl

theorem csd_offerEffect (s : State) (d : Side) (c : Cell) : (offerEffect s d c).csd = s.csd :=
  within_offerEffect s d c .csd (by decide)

theorem sameRecords_dispatched (s : State) (e : CustodyEntry) (d : Side) : SameRecords s (dispatched s e d) :=
  (SameRecords.of_csd (csd_offerEffect s d (recordCell s e))).trans
    ((sameRecords_changeEntry _ e.sequence (f := fun x => { x with state := .dispatching d }) (fun _ => ⟨rfl, rfl⟩)).trans
      ⟨rfl, rfl, rfl⟩)

theorem sameRecords_dispatchRefusal (s : State) (e : CustodyEntry) (d : Side) : SameRecords s (dispatchRefusal s e d) :=
  (SameRecords.of_csd (csd_offerEffect s d (recordCell s e))).trans ⟨rfl, rfl, rfl⟩

theorem sameRecords_directed {e : CustodyEntry} {d : Side} (h : directed s e = some (d, t)) : SameRecords s t := by
  unfold directed at h
  split at h
  · cases h
    exact (sameRecords_changeEntry s e.sequence (f := fun x => { x with sameDirection := 0 }) (fun _ => ⟨rfl, rfl⟩)).trans
      ⟨rfl, rfl, rfl⟩
  · split at h
    · cases h
      exact SameRecords.of_csd rfl
    · cases h

theorem sameRecords_passSteps (n : Nat) : ∀ s : State, SameRecords s (passSteps n s) := by
  induction n with
  | zero => exact fun s => SameRecords.of_csd rfl
  | succ n ih =>
    intro s
    unfold passSteps
    split
    · exact SameRecords.of_csd rfl
    · split
      · exact SameRecords.of_csd rfl
      · split
        · exact SameRecords.of_csd rfl
        · next hdirected =>
          split
          · exact (sameRecords_directed hdirected).trans ((sameRecords_dispatched _ _ _).trans (ih _))
          · exact (sameRecords_directed hdirected).trans (sameRecords_dispatchRefusal _ _ _)

theorem sameRecords_dispatchPass (s : State) : SameRecords s (dispatchPass s) := by
  unfold dispatchPass
  split
  · exact sameRecords_passSteps _ s
  · exact SameRecords.of_csd rfl

theorem csd_evalFlow (s : State) : (evalFlow s).csd = s.csd := within_evalFlow s .csd (by decide)

/-- R111: what the flow state and the answers are after a store change. -/
theorem gli_evalFlow (s : State) :
    (evalFlow s).gli.answers = s.gli.answers
      ∧ (240 ≤ s.csd.store.length → (evalFlow s).gli.flowStopped = true
          ∧ (s.gli.flowStopped = false → (evalFlow s).gli.flowPlace = some .xoff))
      ∧ (s.gli.flowStopped = false → s.csd.store.length < 240 → (evalFlow s).gli.flowStopped = false) := by
  have hfree : storeFree s = 256 - s.csd.store.length := rfl
  unfold evalFlow
  rw [show flowStopFree = 16 from rfl, show flowRunFree = 48 from rfl, hfree]
  cases hstopped : s.gli.flowStopped with
  | false =>
    rw [Bool.not_false, Bool.true_and, Bool.false_and]
    by_cases hlow : 256 - s.csd.store.length ≤ 16
    · rw [if_pos (decide_eq_true hlow)]
      exact ⟨rfl, fun _ => ⟨rfl, fun _ => rfl⟩, fun _ h => absurd hlow (by omega)⟩
    · rw [if_neg (by rw [decide_eq_true_eq]; exact hlow), if_neg Bool.false_ne_true]
      exact ⟨rfl, fun h => absurd h (by omega), fun _ _ => hstopped⟩
  | true =>
    rw [Bool.not_true, Bool.false_and, Bool.true_and, if_neg Bool.false_ne_true]
    split
    · next hrun => exact ⟨rfl, fun h => absurd (of_decide_eq_true hrun) (by omega), nofun⟩
    · exact ⟨rfl, fun _ => ⟨hstopped, nofun⟩, nofun⟩

/-- The state in which a completed write has stored its record. -/
def recordStored (s : State) (body : List Byte) : State :=
  State.countCsd { s with csd := storeRecord s.csd body } (fun n => { n with recordsStored := satInc n.recordsStored })

theorem writeCompleted_csd (s : State) (body : List Byte) :
    (writeCompleted s body).csd = (dispatchPass (evalFlow (recordStored s body))).csd := rfl

theorem writeCompleted_gli (s : State) (body : List Byte) :
    (writeCompleted s body).gli = answerReader { (evalFlow (recordStored s body)).gli with assembler := .hunt } .ack := by
  rw [← gli_dispatchPass (evalFlow (recordStored s body))]
  rfl

theorem sameRecords_writeCompleted (s : State) (body : List Byte) :
    SameRecords (recordStored s body) (writeCompleted s body) :=
  (SameRecords.of_csd (csd_evalFlow _)).trans
    ((sameRecords_dispatchPass _).trans (SameRecords.of_csd (writeCompleted_csd s body)))

theorem exec_storeWriteComplete (hworks : s.gantryWorks = true) (hwrite : s.gli.assembler = .write body) :
    exec .storeWriteComplete s = done s (writeCompleted s body) := by
  rw [show exec .storeWriteComplete s = execStoreWriteComplete s from rfl, execStoreWriteComplete, hworks, hwrite]
  rfl

theorem flow_answerReader (g : Gli) (a : Answer) :
    (answerReader g a).flowStopped = g.flowStopped ∧ (answerReader g a).flowPlace = g.flowPlace := by
  unfold answerReader
  split
  · exact ⟨rfl, rfl⟩
  · exact ⟨rfl, rfl⟩

end

/-- Settles O42. -/
theorem storeWriteAddsTheRecord : Obligations.StoreWriteAddsTheRecord := by
  intro body s hworks hwrite
  refine ⟨_, (exec_storeWriteComplete hworks hwrite).trans (done_ended _ _), ?_⟩
  rw [ended_csd, ended_gli]
  obtain ⟨hstore, hseq, hcounts⟩ := sameRecords_writeCompleted s body
  rw [hstore, hseq, writeCompleted_gli]
  obtain ⟨_, hhunt, _, hroom, hfull⟩ :=
    answerReader_fields { (evalFlow (recordStored s body)).gli with assembler := .hunt } .ack
  obtain ⟨hstopped, hplace⟩ := flow_answerReader { (evalFlow (recordStored s body)).gli with assembler := .hunt } .ack
  obtain ⟨hanswers, hlow, hrunning⟩ := gli_evalFlow (recordStored s body)
  have hlength : (recordStored s body).csd.store.length = s.csd.store.length + 1 := storeRecord_length s.csd body
  rw [hlength] at hlow hrunning
  refine ⟨?_, rfl, ?_, hhunt, fun h => ?_, fun h => ?_, fun h => ⟨?_, fun k => ?_⟩, fun h k => ?_⟩
  · exact List.map_append
  · rw [hcounts]
    rfl
  · rw [(hroom (by rw [hanswers]; exact h)).1, hanswers]
    rfl
  · exact (hfull (by rw [hanswers]; exact h)).2
  · rw [hstopped]
    exact (hlow h).1
  · rw [hplace]
    exact (hlow h).2 k
  · rw [hstopped]
    exact hrunning h k

end Sys2Proof.Machine
end

section
/-! PROOFS. The transmitter: what a slot sends, the data choice, and the end of a transmission (O21, O22, O23). -/

set_option Elab.async false

namespace Sys2Proof.Machine

section
variable {s t : State} {p : Port} {d : Side} {v : Tiu}

/-! ## The state a slot leaves -/

theorem ended_tiu (s t : State) : (ended s t).tiu = t.tiu := by rw [ended]

theorem exec_transmitSlot (hfree : s.portFree p = true) (hidle : (s.port p).sending = none) :
    exec (.transmitSlot p) s = .next (ended s (slotBegun s p)) := by
  refine exec_done _ (if_pos ?_)
  rw [hfree, hidle]
  rfl

theorem nextDozeSlot_fields (u : PortUnit) : nextDozeSlot u = { u with dozeSlot := (nextDozeSlot u).dozeSlot } := by
  unfold nextDozeSlot
  split
  · rfl
  · rfl

theorem nextDozeSlot_of_awake {u : PortUnit} (h : u.state ≠ .doze) : nextDozeSlot u = u := if_neg h

theorem slotBegun_of_burst (hwaking : (s.port p).state = .waking) (hleft : 0 < (s.port p).burstLeft) :
    slotBegun s p = s.setPort p { s.port p with burstLeft := (s.port p).burstLeft - 1, wire := .wakeMarker } :=
  if_pos ⟨hwaking, hleft⟩

theorem slotBegun_of_open (h : ¬ ((s.port p).state = .waking ∧ 0 < (s.port p).burstLeft)) :
    slotBegun s p = (openSlot s p).setPort p (nextDozeSlot ((openSlot s p).port p)) := if_neg h

theorem slotBegun_of_portCell {c : Cell} {u : PortUnit} (hup : (s.port p).state = .up)
    (h : portChoice (s.port p) = some (c, u)) (hstate : u.state = .up) :
    slotBegun s p = s.setPort p (beginCell u ⟨c, .portSlot⟩) := by
  have hopen : openSlot s p = s.setPort p (beginCell u ⟨c, .portSlot⟩) := by
    rw [openSlot, h]
  have hawake : (beginCell u ⟨c, .portSlot⟩).state ≠ .doze := by
    rw [show (beginCell u ⟨c, .portSlot⟩).state = u.state from rfl, hstate]
    decide
  rw [slotBegun_of_open (by rw [hup]; exact fun hand => absurd hand.1 (by decide)), hopen, setPort_setPort, setPort_port,
    nextDozeSlot_of_awake hawake]

/-- The waiting port cells are all sent or gone. -/
def slotsEmpty (u : PortUnit) : Prop :=
  u.slotWakeAck = none ∧ u.slotDozeAck = none ∧ u.slotDozeReq = none ∧ u.slotHello = none

theorem portChoice_of_empty {u : PortUnit} (h : slotsEmpty u) : portChoice u = none := by
  obtain ⟨hwake, hack, hreq, hhello⟩ := h
  unfold portChoice
  rw [hwake, hack, hreq, hhello]
  rfl

/-- R48: a slot that no port cell takes is the TIU's. -/
theorem slotBegun_of_empty (hslots : slotsEmpty (s.port p)) (hin : inServiceState (s.port p).state = true)
    (hburst : (s.port p).state = .waking → (s.port p).burstLeft = 0) :
    slotBegun s p = (tiuSlot s p).setPort p (nextDozeSlot ((tiuSlot s p).port p)) := by
  have hopen : openSlot s p = tiuSlot s p := by
    rw [openSlot, portChoice_of_empty hslots, hin]
    rfl
  rw [slotBegun_of_open (fun hand => absurd hand.2 (Nat.not_lt.2 (Nat.le_of_eq (hburst hand.1)))), hopen]

theorem tiuSlot_of_some {y : Sending}
    (h : tiuChoice (s.table (s.sideOf p)) ((s.port p).state == .up) (s.side (s.sideOf p)) = (some y, v)) :
    tiuSlot s p = (s.setSide (s.sideOf p) v).setPort p (beginCell (s.port p) y) := by
  rw [tiuSlot, h]

theorem tiuSlot_of_none
    (h : tiuChoice (s.table (s.sideOf p)) ((s.port p).state == .up) (s.side (s.sideOf p)) = (none, v)) :
    tiuSlot s p = (s.setSide (s.sideOf p) v).setPort p { s.port p with wire := emptyWire (s.port p) } := by
  rw [tiuSlot, h]

/-- R48: a slot that carries a cell of the TIU. -/
theorem slot_sends {y : Sending} (hfree : s.portFree p = true) (hidle : (s.port p).sending = none)
    (hslots : slotsEmpty (s.port p)) (hin : inServiceState (s.port p).state = true)
    (hburst : (s.port p).state = .waking → (s.port p).burstLeft = 0)
    (h : tiuChoice (s.table (s.sideOf p)) ((s.port p).state == .up) (s.side (s.sideOf p)) = (some y, v)) :
    ∃ t, exec (.transmitSlot p) s = .next t ∧ (t.port p).sending = some y ∧ t.side (s.sideOf p) = v
      ∧ (t.port p).idle = (beginCell (s.port p) y).idle := by
  refine ⟨_, exec_transmitSlot hfree hidle, ?_⟩
  rw [slotBegun_of_empty hslots hin hburst, tiuSlot_of_some h, setPort_setPort, setPort_port, ended_side,
    ended_port_fields, setPort_port, nextDozeSlot_fields]
  exact ⟨rfl, setSide_side _ _ _, rfl⟩

/-- R48: a slot for which the TIU has no cell. -/
theorem slot_rests (hfree : s.portFree p = true) (hidle : (s.port p).sending = none)
    (hslots : slotsEmpty (s.port p)) (hup : (s.port p).state = .up)
    (h : tiuChoice (s.table (s.sideOf p)) ((s.port p).state == .up) (s.side (s.sideOf p)) = (none, v)) :
    ∃ t, exec (.transmitSlot p) s = .next t ∧ (t.port p).sending = none ∧ (t.port p).wire = .emptySlot
      ∧ t.side (s.sideOf p) = v := by
  refine ⟨_, exec_transmitSlot hfree hidle, ?_⟩
  have hwire : emptyWire (s.port p) = .emptySlot := if_neg (by rw [hup]; exact fun hand => absurd hand.1 (by decide))
  rw [slotBegun_of_empty hslots (by rw [hup]; rfl) (by rw [hup]; exact nofun), tiuSlot_of_none h, setPort_setPort,
    setPort_port, ended_side, ended_port_fields, setPort_port, nextDozeSlot_fields]
  exact ⟨hidle, hwire, setSide_side _ _ _⟩

/-! ## The TIU's choice -/

theorem tiuChoice_of_link {table : List SrtEntry} {full : Bool} {y : Sending} {w : Tiu} (h : linkChoice v = some (y, w)) :
    tiuChoice table full v = (some y, w) := by
  rw [tiuChoice, h]

theorem linkChoice_of_queue {c : Cell} {q : List Cell} (h : v.insLink = c :: q) :
    linkChoice v = some (⟨c, .linkIns⟩, { v with insLink := q }) := by
  unfold linkChoice
  rw [h]

theorem linkChoice_of_beacon {c : Cell} (h : v.insLink = []) (hslot : v.beaconSlot = some c) :
    linkChoice v = some (⟨c, .beaconSlot⟩, { v with beaconSlot := none }) := by
  unfold linkChoice
  rw [h, hslot]

theorem linkChoice_of_none (h : v.insLink = []) (hslot : v.beaconSlot = none) : linkChoice v = none := by
  unfold linkChoice
  rw [h, hslot]

/-- R48: without LINK cell or beacon, an UP port's slot goes to TQ-CALL, the CALL queue and the data choice. -/
theorem tiuChoice_of_traffic {table : List SrtEntry} (h : v.insLink = []) (hslot : v.beaconSlot = none) :
    tiuChoice table true v
      = match trafficChoice (stripVoice table v) with
        | some (y, w) => (some y, w)
        | none => (none, stripVoice table v) := by
  rw [tiuChoice, linkChoice_of_none h hslot]
  rfl

theorem unreserved_iff {table : List SrtEntry} {c : Cell} :
    unreserved table c = true ↔ c.kind = .voice ∧ heldIn table (callOf c.toCellData) = false := by
  rw [unreserved, Bool.and_eq_true, beq_iff_eq, Bool.not_eq_true']

theorem strippedHead_of_reserved {table : List SrtEntry} {c : Cell} (q : List Cell) (h : unreserved table c = false) :
    strippedHead table (c :: q) = 0 := by
  rw [strippedHead, List.takeWhile_cons_of_neg (by rw [h]; decide), List.length_nil]

theorem strippedHead_of_unreserved {table : List SrtEntry} {c : Cell} (q : List Cell) (h : unreserved table c = true) :
    strippedHead table (c :: q) = strippedHead table q + 1 := by
  rw [strippedHead, List.takeWhile_cons_of_pos h, List.length_cons, strippedHead]

theorem satAdd_satInc {w : Nat} (x : BitVec w) (k : Nat) : satAdd (satInc x) k = satAdd x (k + 1) := by
  have hlt := x.isLt
  unfold satAdd satInc
  split
  · next hmax =>
    have hx : x.toNat = 2 ^ w - 1 := by rw [hmax, BitVec.toNat_allOnes]
    rw [hx, Nat.min_eq_right (by omega), Nat.min_eq_right (by omega)]
  · next hne =>
    have hx : x.toNat ≠ 2 ^ w - 1 := fun heq =>
      hne (BitVec.eq_of_toNat_eq (by rw [BitVec.toNat_allOnes]; exact heq))
    have hone : (x + 1).toNat = x.toNat + 1 := by
      rw [BitVec.toNat_add, show (1 : BitVec w).toNat = 1 % 2 ^ w from rfl, Nat.mod_eq_of_lt (show 1 < 2 ^ w by omega),
        Nat.mod_eq_of_lt (by omega)]
    rw [hone, Nat.add_assoc, Nat.add_comm 1 k]

theorem satAdd_zero {w : Nat} (x : BitVec w) : satAdd x 0 = x := by
  have hlt := x.isLt
  rw [satAdd, Nat.add_zero, Nat.min_eq_left (by omega), BitVec.ofNat_toNat, BitVec.setWidth_eq]

theorem stripVoice_of_call (table : List SrtEntry) {c : Cell} {q : List Cell} (h : v.tqCall = c :: q)
    (hreserved : unreserved table c = false) : (stripVoice table v).tqCall = c :: q := by
  have hstrip : strippedHead table v.tqCall = 0 := by rw [h, strippedHead_of_reserved q hreserved]
  unfold stripVoice
  rw [hstrip, h]
  rfl

theorem stripVoice_of_insCall (table : List SrtEntry) {c : Cell} {q : List Cell} (h : v.tqCall = [])
    (hins : v.insCall = c :: q) (hreserved : unreserved table c = false) :
    (stripVoice table v).tqCall = [] ∧ (stripVoice table v).insCall = c :: q := by
  have hstrip : strippedHead table v.insCall = 0 := by rw [hins, strippedHead_of_reserved q hreserved]
  unfold stripVoice
  rw [hstrip, h, hins]
  exact ⟨rfl, rfl⟩

theorem stripVoice_of_empty (table : List SrtEntry) (h : v.tqCall = []) (hins : v.insCall = []) : stripVoice table v = v := by
  have hcall : strippedHead table v.tqCall = 0 := by rw [h]; rfl
  have hnone : strippedHead table v.insCall = 0 := by rw [hins]; rfl
  have hnil : (v.tqCall.drop 0).isEmpty = true := by rw [h]; rfl
  unfold stripVoice
  rw [hcall, hnone, if_pos hnil]
  dsimp only
  rw [Nat.add_zero, satAdd_zero, List.drop_zero, List.drop_zero]

/-- The counts of a side with one more VOICE-UNRESERVED. -/
def countUnreserved (v : Tiu) : Tiu :=
  { v with counts := { v.counts with voiceUnreserved := satInc v.counts.voiceUnreserved } }

/-- R44: an unreserved VOICE at the head of TQ-CALL is stripped with those behind it. -/
theorem stripVoice_drops_call (table : List SrtEntry) {c : Cell} {q : List Cell} (h : v.tqCall = c :: q)
    (hbare : unreserved table c = true) :
    stripVoice table v = stripVoice table (countUnreserved { v with tqCall := q }) := by
  have hstrip : strippedHead table v.tqCall = strippedHead table q + 1 := by rw [h, strippedHead_of_unreserved q hbare]
  have hdrop : v.tqCall.drop (strippedHead table q + 1) = q.drop (strippedHead table q) := by rw [h, List.drop_succ_cons]
  have hsum : strippedHead table q + 1 + strippedHead table v.insCall
      = strippedHead table q + strippedHead table v.insCall + 1 := by omega
  unfold stripVoice countUnreserved
  dsimp only
  rw [hstrip, hdrop, satAdd_satInc, satAdd_satInc, hsum]

/-- R44: the same at the head of the CALL insertion queue. -/
theorem stripVoice_drops_insCall (table : List SrtEntry) {c : Cell} {q : List Cell} (h : v.tqCall = [])
    (hins : v.insCall = c :: q) (hbare : unreserved table c = true) :
    stripVoice table v = stripVoice table (countUnreserved { v with insCall := q }) := by
  have hstrip : strippedHead table v.insCall = strippedHead table q + 1 := by rw [hins, strippedHead_of_unreserved q hbare]
  have hdrop : v.insCall.drop (strippedHead table q + 1) = q.drop (strippedHead table q) := by rw [hins, List.drop_succ_cons]
  unfold stripVoice countUnreserved
  dsimp only
  rw [h, hstrip, hdrop, satAdd_satInc]
  rfl

theorem trafficChoice_of_call {c : Cell} {q : List Cell} (h : v.tqCall = c :: q) :
    trafficChoice v = some (⟨c, .tqCall⟩, { v with tqCall := q }) := by
  unfold trafficChoice
  rw [h]

theorem trafficChoice_of_insCall {c : Cell} {q : List Cell} (h : v.tqCall = []) (hins : v.insCall = c :: q) :
    trafficChoice v = some (⟨c, .callIns⟩, { v with insCall := q }) := by
  unfold trafficChoice
  rw [h, hins]

theorem trafficChoice_of_data (h : v.tqCall = []) (hins : v.insCall = []) : trafficChoice v = dataChoice v := by
  unfold trafficChoice
  rw [h, hins]

theorem keepSlot_of_none {st : PortState} {lock : Bool} {slot : Option Cell} (h : slot = none) :
    keepSlot st lock slot = none := by
  rw [h]
  rfl

theorem portChoice_of_wakeAck {u : PortUnit} {c : Cell} (h : keepSlot u.state u.lock u.slotWakeAck = some c) :
    portChoice u = some (c, { u with slotWakeAck := none }) := by
  rw [portChoice, h]

theorem portChoice_of_dozeAck {u : PortUnit} {c : Cell} (hwake : keepSlot u.state u.lock u.slotWakeAck = none)
    (h : keepSlot u.state u.lock u.slotDozeAck = some c) : portChoice u = some (c, { u with slotDozeAck := none }) := by
  rw [portChoice, hwake, h]

theorem portChoice_of_dozeReq {u : PortUnit} {c : Cell} (hwake : keepSlot u.state u.lock u.slotWakeAck = none)
    (hack : keepSlot u.state u.lock u.slotDozeAck = none) (h : keepSlot u.state u.lock u.slotDozeReq = some c) :
    portChoice u = some (c, { u with slotDozeReq := none }) := by
  rw [portChoice, hwake, hack, h]

theorem portChoice_of_hello {u : PortUnit} {c : Cell} (hwake : keepSlot u.state u.lock u.slotWakeAck = none)
    (hack : keepSlot u.state u.lock u.slotDozeAck = none) (hreq : keepSlot u.state u.lock u.slotDozeReq = none)
    (h : keepSlot u.state u.lock u.slotHello = some c) : portChoice u = some (c, { u with slotHello := none }) := by
  rw [portChoice, hwake, hack, hreq, h]

/-- R22: a port cell that may be sent. -/
theorem keepSlot_of_maySend {st : PortState} {lock : Bool} {slot : Option Cell} {c : Cell} (hslot : slot = some c)
    (h : maySend st lock c.kind = true) : keepSlot st lock slot = some c := by
  rw [hslot, keepSlot, if_pos h]

/-- R22: a slot that carries a port cell leaves the TIUs alone. -/
theorem slot_sends_portCell {c : Cell} {u : PortUnit} (hfree : s.portFree p = true) (hidle : (s.port p).sending = none)
    (hup : (s.port p).state = .up) (h : portChoice (s.port p) = some (c, u)) (hstate : u.state = .up) :
    exec (.transmitSlot p) s = .next (ended s (s.setPort p (beginCell u ⟨c, .portSlot⟩))) := by
  rw [exec_transmitSlot hfree hidle, slotBegun_of_portCell hup h hstate]

/-- R22: the port cells of an UP port, in the order they are sent. -/
theorem slot_sends_first (hfree : s.portFree p = true) (hidle : (s.port p).sending = none)
    (hup : (s.port p).state = .up) :
    (∀ c, (s.port p).slotWakeAck = some c → c.kind = .wakeAck →
        ∃ t, exec (.transmitSlot p) s = .next t ∧ (t.port p).sending = some ⟨c, .portSlot⟩
          ∧ (t.port p).wire = .cell c (cellCheck c) ∧ (t.port p).slotWakeAck = none ∧ t.tiu = s.tiu)
      ∧ (∀ c, (s.port p).slotWakeAck = none → (s.port p).slotDozeAck = some c → c.kind = .dozeAck →
        ∃ t, exec (.transmitSlot p) s = .next t ∧ (t.port p).sending = some ⟨c, .portSlot⟩
          ∧ (t.port p).slotDozeAck = none ∧ t.tiu = s.tiu)
      ∧ (∀ c, (s.port p).slotWakeAck = none → (s.port p).slotDozeAck = none → (s.port p).slotDozeReq = some c →
          c.kind = .dozeReq →
        ∃ t, exec (.transmitSlot p) s = .next t ∧ (t.port p).sending = some ⟨c, .portSlot⟩
          ∧ (t.port p).slotDozeReq = none ∧ t.tiu = s.tiu)
      ∧ (∀ c, (s.port p).slotWakeAck = none → (s.port p).slotDozeAck = none → (s.port p).slotDozeReq = none →
          (s.port p).slotHello = some c → c.kind = .hello →
        ∃ t, exec (.transmitSlot p) s = .next t ∧ (t.port p).sending = some ⟨c, .portSlot⟩
          ∧ (t.port p).slotHello = none ∧ t.tiu = s.tiu) := by
  have hmay (k : Kind) (h : maySend .up (s.port p).lock k = true) : maySend (s.port p).state (s.port p).lock k = true := by
    rw [hup]
    exact h
  refine ⟨fun c hslot hkind => ?_, fun c hwake hslot hkind => ?_, fun c hwake hack hslot hkind => ?_,
    fun c hwake hack hreq hslot hkind => ?_⟩
  · have hkeep := keepSlot_of_maySend hslot (hmay c.kind (by rw [hkind]; rfl))
    refine ⟨_, slot_sends_portCell hfree hidle hup
      (portChoice_of_wakeAck hkeep) hup, ?_⟩
    rw [ended_port_fields, setPort_port]
    exact ⟨rfl, rfl, rfl, ended_tiu _ _⟩
  · have hkeep := keepSlot_of_maySend hslot (hmay c.kind (by rw [hkind]; rfl))
    refine ⟨_, slot_sends_portCell hfree hidle hup
      (portChoice_of_dozeAck (keepSlot_of_none hwake) hkeep) hup, ?_⟩
    rw [ended_port_fields, setPort_port]
    exact ⟨rfl, rfl, ended_tiu _ _⟩
  · have hkeep := keepSlot_of_maySend hslot (hmay c.kind (by rw [hkind]; rfl))
    refine ⟨_, slot_sends_portCell hfree hidle hup
      (portChoice_of_dozeReq (keepSlot_of_none hwake) (keepSlot_of_none hack) hkeep) hup, ?_⟩
    have hlink : ¬ ((s.port p).state = .up ∧ cellClass c ≠ .link) := fun hand =>
      hand.2 (show kindClass c.kind = .link by rw [hkind]; rfl)
    have hquiet : dozeBecame s (s.setPort p (beginCell { s.port p with slotDozeReq := none } ⟨c, .portSlot⟩)) p = false := by
      refine dozeBecame_of_port p (fun _ hzero => ⟨hup, ?_⟩) rfl rfl rfl
      rw [setPort_port, beginCell] at hzero
      rw [← hzero]
      exact (if_neg hlink).symm
    rw [ended_port_same hquiet, setPort_port]
    exact ⟨rfl, rfl, ended_tiu _ _⟩
  · have hkeep := keepSlot_of_maySend hslot (hmay c.kind (by rw [hkind]; rfl))
    refine ⟨_, slot_sends_portCell hfree hidle hup
      (portChoice_of_hello (keepSlot_of_none hwake) (keepSlot_of_none hack) (keepSlot_of_none hreq) hkeep) hup, ?_⟩
    rw [ended_port_fields, setPort_port]
    exact ⟨rfl, rfl, ended_tiu _ _⟩

theorem setSide_setSide (s : State) (d : Side) (v w : Tiu) : (s.setSide d v).setSide d w = s.setSide d w := by
  cases d with
  | up => rfl
  | down => rfl

/-- R48: the TIU's part of a slot depends on its side through the choice alone. -/
theorem tiuSlot_setSide {v : Tiu}
    (h : tiuChoice (s.table (s.sideOf p)) ((s.port p).state == .up) v
      = tiuChoice (s.table (s.sideOf p)) ((s.port p).state == .up) (s.side (s.sideOf p))) :
    tiuSlot (s.setSide (s.sideOf p) v) p = tiuSlot s p := by
  have hchoice : tiuChoice ((s.setSide (s.sideOf p) v).table (s.sideOf p)) ((s.port p).state == .up)
      ((s.setSide (s.sideOf p) v).side (s.sideOf p))
      = tiuChoice (s.table (s.sideOf p)) ((s.port p).state == .up) (s.side (s.sideOf p)) := by
    rw [setSide_side]
    exact h
  cases hx : tiuChoice (s.table (s.sideOf p)) ((s.port p).state == .up) (s.side (s.sideOf p)) with
  | mk sent w =>
    cases sent with
    | some y =>
      rw [tiuSlot_of_some hx, tiuSlot_of_some (s := s.setSide (s.sideOf p) v) (hchoice.trans hx)]
      exact congrArg (State.setPort · p _) (setSide_setSide s _ v w)
    | none =>
      rw [tiuSlot_of_none hx, tiuSlot_of_none (s := s.setSide (s.sideOf p) v) (hchoice.trans hx)]
      exact congrArg (State.setPort · p _) (setSide_setSide s _ v w)

/-- R44: a slot sends what it would send without an unreserved VOICE at the head of its CALL queues. -/
theorem slot_same_without (hfree : s.portFree p = true) (hidle : (s.port p).sending = none)
    (hslots : slotsEmpty (s.port p)) (hup : (s.port p).state = .up)
    (h : tiuChoice (s.table (s.sideOf p)) true v = tiuChoice (s.table (s.sideOf p)) true (s.side (s.sideOf p))) :
    ∃ t u, exec (.transmitSlot p) s = .next t ∧ exec (.transmitSlot p) (s.setSide (s.sideOf p) v) = .next u
      ∧ t.tiu = u.tiu ∧ (t.port p).sending = (u.port p).sending ∧ (t.port p).wire = (u.port p).wire
      ∧ (t.port p).idle = (u.port p).idle := by
  have hfull : ((s.port p).state == .up) = true := by rw [hup]; rfl
  have hslot : slotBegun (s.setSide (s.sideOf p) v) p = slotBegun s p := by
    have hin : inServiceState (s.port p).state = true := by rw [hup]; rfl
    have hburst : (s.port p).state = .waking → (s.port p).burstLeft = 0 := by rw [hup]; exact nofun
    rw [slotBegun_of_empty (s := s.setSide (s.sideOf p) v) hslots hin hburst, slotBegun_of_empty hslots hin hburst,
      tiuSlot_setSide (by rw [hfull]; exact h)]
  refine ⟨_, _, exec_transmitSlot hfree hidle, exec_transmitSlot (s := s.setSide (s.sideOf p) v) hfree hidle, ?_⟩
  rw [hslot, ended_tiu, ended_tiu, ended_port_fields, ended_port_fields (s.setSide (s.sideOf p) v)]
  exact ⟨rfl, rfl, rfl, rfl⟩

end

/-- Settles O21. -/
theorem transmitterTakesTheFirstQueue : Obligations.TransmitterTakesTheFirstQueue := by
  intro p s hfree hidle
  refine ⟨fun hwaking hleft => ?_, fun hup => slot_sends_first hfree hidle hup, ?_⟩
  · refine ⟨_, exec_transmitSlot hfree hidle, ?_⟩
    rw [slotBegun_of_burst hwaking hleft, ended_port_fields, setPort_port]
    exact ⟨rfl, rfl, hidle, ended_tiu _ _⟩
  · intro hwake hack hreq hhello hin hburst
    have hslots : slotsEmpty (s.port p) := ⟨hwake, hack, hreq, hhello⟩
    have hreserved {c : Cell} (h : c.kind ≠ .voice ∨ heldIn (s.table (s.sideOf p)) (callOf c.toCellData) = true) :
        unreserved (s.table (s.sideOf p)) c = false := by
      rw [Bool.eq_false_iff, Ne, unreserved_iff, Classical.not_and_iff_not_or_not, Bool.not_eq_false]
      exact h
    refine ⟨fun c q hlink => ?_, fun c hlink hslot => ?_, fun c q hup hlink hslot hcall hc => ?_,
      fun c q hup hlink hslot hcall hins hc => ?_, fun c q x hup hlink hslot hvoice hheld hx => ?_⟩
    · obtain ⟨t, hexec, hsending, hside, _⟩ :=
        slot_sends hfree hidle hslots hin hburst (tiuChoice_of_link (linkChoice_of_queue hlink))
      exact ⟨t, hexec, hsending, hside⟩
    · obtain ⟨t, hexec, hsending, hside, _⟩ :=
        slot_sends hfree hidle hslots hin hburst (tiuChoice_of_link (linkChoice_of_beacon hlink hslot))
      exact ⟨t, hexec, hsending, hside⟩
    · have hchoice := tiuChoice_of_traffic (table := s.table (s.sideOf p)) hlink hslot
      rw [trafficChoice_of_call (stripVoice_of_call _ hcall (hreserved hc))] at hchoice
      obtain ⟨t, hexec, hsending, hside, hrestart⟩ :=
        slot_sends hfree hidle hslots hin hburst (by rw [hup]; exact hchoice)
      exact ⟨t, hexec, hsending, congrArg Tiu.tqCall hside, fun hclass => hrestart.trans (if_pos ⟨hup, hclass⟩)⟩
    · have hchoice := tiuChoice_of_traffic (table := s.table (s.sideOf p)) hlink hslot
      obtain ⟨hnone, hsome⟩ := stripVoice_of_insCall _ hcall hins (hreserved hc)
      rw [trafficChoice_of_insCall hnone hsome] at hchoice
      obtain ⟨t, hexec, hsending, hside, _⟩ :=
        slot_sends hfree hidle hslots hin hburst (by rw [hup]; exact hchoice)
      exact ⟨t, hexec, hsending, congrArg Tiu.insCall hside⟩
    · have hbare : unreserved (s.table (s.sideOf p)) c = true := unreserved_iff.2 ⟨hvoice, hheld⟩
      refine slot_same_without hfree hidle hslots hup ?_
      rcases hx with ⟨hcall, rfl⟩ | ⟨hcall, hins, rfl⟩
      · rw [tiuChoice_of_traffic hlink hslot, tiuChoice_of_traffic (by exact hlink) (by exact hslot),
          stripVoice_drops_call _ hcall hbare]
        rfl
      · rw [tiuChoice_of_traffic hlink hslot, tiuChoice_of_traffic (by exact hlink) (by exact hslot),
          stripVoice_drops_insCall _ hcall hins hbare]
        rfl

section
variable {v : Tiu}

/-! ## The data choice -/

theorem dataChoice_of_held (h : v.holdExpiry.isSome = true) : dataChoice v = none := if_pos h

/-- R49: a local cell goes when TQ-DATA is empty or has had four slots in a row. -/
theorem dataChoice_of_local {y : Sending} {w : Tiu} (hheld : v.holdExpiry = none) (h : localData v = some (y, w))
    (hturn : v.tqData = [] ∨ 4 ≤ v.fairness) : dataChoice v = some (y, { w with fairness := 0 }) := by
  unfold dataChoice
  rw [hheld, h]
  cases hq : v.tqData with
  | nil => rfl
  | cons c q =>
    rcases hturn with hnil | hfair
    · exact absurd (hnil.symm.trans hq) (List.cons_ne_nil _ _).symm
    · exact if_pos hfair

theorem dataChoice_of_transit {y : Sending} {w : Tiu} {c : Cell} {q : List Cell} (hheld : v.holdExpiry = none)
    (h : localData v = some (y, w)) (hq : v.tqData = c :: q) (hturn : v.fairness < 4) :
    dataChoice v = some (⟨c, .tqData⟩, { v with tqData := q, fairness := v.fairness + 1 }) := by
  unfold dataChoice
  rw [hheld, h, hq]
  exact if_neg (Nat.not_le.2 hturn)

theorem dataChoice_of_alone {c : Cell} {q : List Cell} (hheld : v.holdExpiry = none) (h : localData v = none)
    (hq : v.tqData = c :: q) : dataChoice v = some (⟨c, .tqData⟩, { v with tqData := q }) := by
  unfold dataChoice
  rw [hheld, h, hq]
  rfl

theorem localData_of_toll {c : Cell} {q : List Cell} (h : v.insToll = c :: q) :
    localData v = some (⟨c, .tollIns⟩, { v with insToll := q }) := by
  unfold localData
  rw [h]

theorem localData_of_sign {c : Cell} {q : List Cell} (htoll : v.insToll = []) (h : v.insSign = c :: q) :
    localData v = some (⟨c, .signIns⟩, { v with insSign := q }) := by
  unfold localData
  rw [htoll, h]

theorem localData_of_report {c : Cell} {q : List Cell} (htoll : v.insToll = []) (hsign : v.insSign = [])
    (h : v.insReport = c :: q) : localData v = some (⟨c, .reportIns⟩, { v with insReport := q }) := by
  unfold localData
  rw [htoll, hsign, h]

theorem localData_of_none (htoll : v.insToll = []) (hsign : v.insSign = []) (h : v.insReport = []) :
    localData v = none := by
  unfold localData
  rw [htoll, hsign, h]

theorem localData_of_mem {x : Cell} (h : x ∈ v.insToll ++ v.insSign ++ v.insReport) : ∃ y w, localData v = some (y, w) := by
  cases htoll : v.insToll with
  | cons c q => exact ⟨_, _, localData_of_toll htoll⟩
  | nil =>
    cases hsign : v.insSign with
    | cons c q => exact ⟨_, _, localData_of_sign htoll hsign⟩
    | nil =>
      cases hreport : v.insReport with
      | cons c q => exact ⟨_, _, localData_of_report htoll hsign hreport⟩
      | nil =>
        rw [htoll, hsign, hreport] at h
        exact absurd h List.not_mem_nil

/-- R49: where no LINK cell, beacon or CALL cell waits the slot is the data choice's. -/
theorem tiuChoice_of_data {table : List SrtEntry} (hlink : v.insLink = []) (hslot : v.beaconSlot = none)
    (hcall : v.tqCall = []) (hins : v.insCall = []) :
    tiuChoice table true v = match dataChoice v with | some (y, w) => (some y, w) | none => (none, v) := by
  rw [tiuChoice_of_traffic hlink hslot, stripVoice_of_empty table hcall hins, trafficChoice_of_data hcall hins]

end

/-- Settles O22. -/
theorem dataChoiceIsFair : Obligations.DataChoiceIsFair := by
  intro p s hfree hidle hup hwake hack hreq hhello hlink hslot hcall hins
  have hslots : slotsEmpty (s.port p) := ⟨hwake, hack, hreq, hhello⟩
  have hchoice := tiuChoice_of_data (table := s.table (s.sideOf p)) hlink hslot hcall hins
  have hsends {y : Sending} {w : Tiu} (h : dataChoice (s.side (s.sideOf p)) = some (y, w)) :
      ∃ t, exec (.transmitSlot p) s = .next t ∧ (t.port p).sending = some y ∧ t.side (s.sideOf p) = w := by
    rw [h] at hchoice
    obtain ⟨t, hexec, hsending, hside, _⟩ := slot_sends hfree hidle hslots (by rw [hup]; rfl) (by rw [hup]; exact nofun)
      (by rw [hup]; exact hchoice)
    exact ⟨t, hexec, hsending, hside⟩
  refine ⟨fun hheld => ?_, fun hfreed => ⟨fun c q htoll hturn => ?_, fun c q htoll hsign hturn => ?_,
    fun c q htoll hsign hreport hturn => ?_, fun c q x hq hturn hmem => ?_, fun c q hq htoll hsign hreport => ?_⟩⟩
  · rw [dataChoice_of_held hheld] at hchoice
    exact slot_rests hfree hidle hslots hup (by rw [hup]; exact hchoice)
  · exact hsends (dataChoice_of_local hfreed (localData_of_toll htoll) hturn)
  · exact hsends (dataChoice_of_local hfreed (localData_of_sign htoll hsign) hturn)
  · exact hsends (dataChoice_of_local hfreed (localData_of_report htoll hsign hreport) hturn)
  · obtain ⟨y, w, hlocal⟩ := localData_of_mem hmem
    exact hsends (dataChoice_of_transit hfreed hlocal hq hturn)
  · exact hsends (dataChoice_of_alone hfreed (localData_of_none htoll hsign hreport) hq)

section
variable {s t : State} {p : Port} {x : Sending}

/-! ## The end of a transmission -/

theorem exec_transmissionComplete (hfree : s.portFree p = true) (hx : (s.port p).sending = some x) :
    exec (.transmissionComplete p) s = .next (ended s (slotEnded s p x)) := by
  refine exec_done _ ?_
  rw [show exec (.transmissionComplete p) s = execTransmissionComplete p s from rfl, execTransmissionComplete, hfree, hx]
  rfl

theorem afterSlot_of_record (d : Side) (hsource : x.source = .tollIns) (hkind : x.cell.kind = .tollRecord) :
    afterSlot s d x = completeRecord s d x.cell.reference := by
  unfold afterSlot
  rw [hsource]
  exact if_pos hkind

theorem afterSlot_of_data (d : Side) (hsource : x.source = .tqData) : afterSlot s d x = resumeCheck s d := by
  unfold afterSlot
  rw [hsource]

/-- R53: the release touches the LINK queue, the hold and the counts of the other side alone. -/
theorem resumeCheck_other (s : State) (b : Side) :
    (resumeCheck s b).side b = s.side b
      ∧ tiuQuiet ((resumeCheck s b).side (otherSide b)) = tiuQuiet (s.side (otherSide b)) := by
  unfold resumeCheck
  split
  · unfold makeResume
    refine ⟨?_, ?_⟩
    · have hother := setSide_other s (otherSide b)
        { putBackPressure (s.side (otherSide b)) (linkCell s.station .resume) with
          holdRepeat := none
          counts :=
            let n := (putBackPressure (s.side (otherSide b)) (linkCell s.station .resume)).counts
            { n with resumesSent := satInc n.resumesSent } }
      rwa [other_other] at hother
    · rw [setSide_side]
      unfold putBackPressure
      split
      · rfl
      · split
        · rfl
        · rfl
  · exact ⟨rfl, rfl⟩

/-- R53: the count of RESUMEs is not one that a full LINK queue raises. -/
theorem putBackPressure_resumesSent (v : Tiu) (c : Cell) :
    (putBackPressure v c).counts.resumesSent = v.counts.resumesSent := by
  unfold putBackPressure
  split
  · rfl
  · split
    · rfl
    · rfl

theorem resumeCheck_releases {b : Side} (hlow : (s.side b).tqData.length ≤ 32)
    (hheld : (s.side (otherSide b)).holdRepeat.isSome = true) (hin : s.inService (otherSide b) = true) :
    ((resumeCheck s b).side (otherSide b)).holdRepeat = none
      ∧ ((resumeCheck s b).side (otherSide b)).counts.resumesSent
        = satInc (s.side (otherSide b)).counts.resumesSent := by
  have hdue : (decide ((s.side b).tqData.length ≤ resumeDepth) && (s.side (otherSide b)).holdRepeat.isSome
      && s.inService (otherSide b)) = true := by
    rw [hheld, hin, decide_eq_true (by exact hlow)]
    rfl
  rw [resumeCheck, if_pos hdue, makeResume, setSide_side]
  exact ⟨rfl, congrArg satInc (putBackPressure_resumesSent _ _)⟩

theorem afterSlot_of_other (d : Side) (htoll : x.source = .tollIns → x.cell.kind ≠ .tollRecord) (hdata : x.source ≠ .tqData) :
    afterSlot s d x = s := by
  unfold afterSlot
  split
  · next hsource => exact if_neg (htoll hsource)
  · next hsource => exact absurd hsource hdata
  · rfl

/-- R50: what follows a slot keeps its own side's queues, and the traffic of both. -/
theorem afterSlot_side (s : State) (d : Side) (x : Sending) :
    (afterSlot s d x).side d = s.side d
      ∧ tiuQuiet ((afterSlot s d x).side (otherSide d)) = tiuQuiet (s.side (otherSide d)) := by
  have hrecord (q : Half) (e : Side) : (completeRecord s d q).side e = s.side e :=
    side_of_within (within_completeRecord s d q) (by decide) e
  unfold afterSlot
  split
  · split
    · rw [hrecord, hrecord]
      exact ⟨rfl, rfl⟩
    · exact ⟨rfl, rfl⟩
  · exact resumeCheck_other s d
  · exact ⟨rfl, rfl⟩

/-- The port, its count raised, as a completed transmission leaves it. -/
def slotDone (s : State) (p : Port) : State :=
  s.setPort p
    { s.port p with
      sending := none, counts := { (s.port p).counts with cellsOut := satInc (s.port p).counts.cellsOut } }

theorem slotEnded_eq (s : State) (p : Port) (x : Sending) : slotEnded s p x = afterSlot (slotDone s p) (s.sideOf p) x := rfl

theorem slotEnded_ports (s : State) (p q : Port) (x : Sending) : (slotEnded s p x).port q = (slotDone s p).port q := by
  have hports : (slotEnded s p x).ports = (slotDone s p).ports := within_afterSlot (slotDone s p) (s.sideOf p) x .ports (by decide)
  rw [State.port, hports]
  rfl

/-- R28: the end of a transmission makes no doze condition true. -/
theorem dozeBecame_slotEnded (s : State) (p q : Port) (x : Sending) : dozeBecame s (slotEnded s p x) q = false := by
  obtain ⟨hown, hother⟩ := afterSlot_side (slotDone s p) (s.sideOf p) x
  have hwithin := within_afterSlot (slotDone s p) (s.sideOf p) x
  have hside : (slotEnded s p x).sideOf q = s.sideOf q := by
    have hstraps : (slotEnded s p x).straps = s.straps := hwithin .straps (by decide)
    rw [State.sideOf, hstraps]
    rfl
  have hquiet (e : Side) : tiuQuiet ((slotEnded s p x).side e) = tiuQuiet (s.side e) := by
    rcases Classical.em (e = s.sideOf p) with rfl | hne
    · exact congrArg tiuQuiet hown
    · have he : e = otherSide (s.sideOf p) := by
        cases e with
        | up => cases hd : s.sideOf p with | up => exact absurd hd.symm hne | down => rfl
        | down => cases hd : s.sideOf p with | down => exact absurd hd.symm hne | up => rfl
      rw [he]
      exact hother
  refine dozeBecame_false _ _ _ (fun h => ?_)
  obtain ⟨hup, hidle, htable, htiu⟩ := dozeCondition_iff.1 h
  rw [slotEnded_ports] at hup hidle
  rw [hside] at htable htiu
  have hfields : ((slotDone s p).port q).state = (s.port q).state ∧ ((slotDone s p).port q).idle = (s.port q).idle := by
    rcases Classical.em (q = p) with rfl | hne
    · rw [slotDone, setPort_port]
      exact ⟨rfl, rfl⟩
    · rw [slotDone, setPort_ne _ _ _ _ hne]
      exact ⟨rfl, rfl⟩
  refine dozeCondition_iff.2 ⟨hfields.1.symm.trans hup, hfields.2.symm.trans hidle, ?_, (hquiet _).symm.trans htiu⟩
  rw [← htable]
  exact (table_of_within hwithin (by decide) _).symm

end

/-- Settles O23. -/
theorem transmissionCompletes : Obligations.TransmissionCompletes := by
  intro p x s hfree hx
  refine ⟨_, exec_transmissionComplete hfree hx, ?_⟩
  have hport (q : Port) : (ended s (slotEnded s p x)).port q = (slotDone s p).port q :=
    (ended_port_same (dozeBecame_slotEnded s p q x)).trans (slotEnded_ports s p q x)
  have honly : onlyPort s (ended s (slotEnded s p x)) p := fun q hq => by rw [hport, slotDone, setPort_ne _ _ _ _ hq]
  rw [hport, ended_side, ended_side, ended_tiu, ended_csd, slotEnded_eq]
  refine ⟨?_, ?_, honly, ?_, fun hsource hkind hfitted => ?_, fun hsource => ?_,
    fun hsource hlow hheld hin => ?_, fun hsource => ?_⟩
  · rw [slotDone, setPort_port]
  · rw [slotDone, setPort_port]
  · exact (afterSlot_side (slotDone s p) (s.sideOf p) x).1
  · rw [afterSlot_of_record _ hsource hkind, completeRecord, if_pos (by exact hfitted)]
    exact ⟨rfl, rfl⟩
  · rcases Classical.em (x.source = .tqData) with hdata | hdata
    · rw [afterSlot_of_data _ hdata]
      exact within_resumeCheck (slotDone s p) (s.sideOf p) .csd (by decide)
    · rw [afterSlot_of_other _ (fun h => absurd h hsource) hdata]
      rfl
  · have hservice : (slotDone s p).inService (otherSide (s.sideOf p)) = true := by
      rw [slotDone, inService_setPort_ne (by cases s.sideOf p with | up => decide | down => decide)]
      exact hin
    rw [afterSlot_of_data _ hsource]
    exact resumeCheck_releases (s := slotDone s p) hlow hheld hservice
  · rcases Classical.em (x.source = .tollIns) with htoll | htoll
    · by_cases hkind : x.cell.kind = .tollRecord
      · rw [afterSlot_of_record _ htoll hkind]
        exact within_completeRecord (slotDone s p) (s.sideOf p) _ .tiu (by decide)
      · rw [afterSlot_of_other _ (fun _ => hkind) hsource]
        rfl
    · rw [afterSlot_of_other _ (fun h => absurd h htoll) hsource]
      rfl

end Sys2Proof.Machine
end

section
/-! PROOFS. Data cells: passed on, dropped and counted, or delivered here with a copy that goes on (O20). -/

set_option Elab.async false

namespace Sys2Proof.Machine

section
variable {s t : State} {p : Port} {a b d : Side} {c : CellData} {i : Instr} {k : Kind} {x : Cell}

/-! ## The end of a command, part by part -/

theorem ended_node (s t : State) : (ended s t).node = t.node := by rw [ended]
theorem ended_wsu (s t : State) : (ended s t).wsu = t.wsu := by rw [ended]
theorem ended_gw (s t : State) : (ended s t).gw = t.gw := by rw [ended]
theorem ended_maint (s t : State) : (ended s t).maint = t.maint := by rw [ended]
theorem ended_inHand (s t : State) : (ended s t).inHand = 0 := by rw [ended]

/-! ## The pool -/

theorem poolHeld_setSide_same {v : Tiu} (h : tiuHeld v = tiuHeld (s.side d)) : (s.setSide d v).poolHeld = s.poolHeld := by
  have hsum := poolHeld_setSide s d v
  omega

theorem poolHeld_wakeSide (s : State) (d : Side) : (wakeSide s d).poolHeld = s.poolHeld := by
  unfold wakeSide
  split
  · exact poolHeld_setPort s (s.portOf d) (enterWaking (s.sidePort d)) rfl
  · rfl

theorem poolHeld_holdCheck (s : State) (b : Side) : (holdCheck s b).poolHeld = s.poolHeld := by
  unfold holdCheck
  split
  · exact poolHeld_setSide_same (tiuHeld_putBackPressure (s.side (otherSide b)) (linkCell s.station .hold))
  · rfl

/-! ## Back-pressure toward where the data comes from -/

theorem holdCheck_quiet (h : (s.side b).tqData.length < 96) : holdCheck s b = s := by
  refine if_neg ?_
  rw [decide_eq_false (show ¬ holdDepth ≤ (s.side b).tqData.length from Nat.not_le.2 h)]
  exact Bool.false_ne_true

theorem holdCheck_holds (h : 96 ≤ (s.side b).tqData.length) (hnone : (s.side (otherSide b)).holdRepeat = none)
    (hin : s.inService (otherSide b) = true) : holdCheck s b = makeHold s (otherSide b) := by
  refine if_pos ?_
  rw [decide_eq_true (show holdDepth ≤ (s.side b).tqData.length from h), hnone, hin]
  rfl

theorem putBackPressure_holdsSent (v : Tiu) (c : Cell) : (putBackPressure v c).counts.holdsSent = v.counts.holdsSent := by
  unfold putBackPressure
  split
  · rfl
  · split
    · rfl
    · rfl

theorem makeHold_side (s : State) (a : Side) :
    ((makeHold s a).side a).holdRepeat = some 100
      ∧ ((makeHold s a).side a).counts.holdsSent = satInc (s.side a).counts.holdsSent := by
  rw [makeHold, setSide_side]
  exact ⟨rfl, congrArg satInc (putBackPressure_holdsSent _ _)⟩

/-- R51: the test leaves the waiting reports of both sides. -/
theorem holdCheck_reports (s : State) (b d : Side) : ((holdCheck s b).side d).insReport = (s.side d).insReport := by
  unfold holdCheck
  split
  · rw [makeHold, side_setSide]
    split
    · next heq =>
      rw [heq]
      unfold putBackPressure
      split
      · rfl
      · split
        · rfl
        · rfl
    · rfl
  · rfl

/-! ## Forwarding -/

theorem side_wakeSide (s : State) (b d : Side) : (wakeSide s b).side d = s.side d :=
  side_of_within (within_wakeSide s b) (by decide) d

theorem node_holdCheck (s : State) (b : Side) : (holdCheck s b).node = s.node := within_holdCheck s b .node (by decide)

theorem inService_wakeSide (s : State) (b d : Side) : (wakeSide s b).inService d = s.inService d :=
  (Steady.wakeSide (s := s) b).settled.inService d

theorem inService_holdCheck (s : State) (b d : Side) : (holdCheck s b).inService d = s.inService d :=
  service_of_within (within_holdCheck s b) (by decide) (by decide) d

/-- R41: a data cell is placed by a side in service. -/
theorem transitAnswer_of_data (hin : s.inService b = true) (hclass : cellClass x ≠ .call) : transitAnswer s b x = .placed := by
  have hvoice : x.kind ≠ .voice := fun h => hclass (by rw [cellClass, h]; rfl)
  have hbare : unreserved (s.table b) x = false := by
    rw [Bool.eq_false_iff, Ne, unreserved_iff]
    exact fun hand => hvoice hand.1
  have hcall : (cellClass x == .call) = false := beq_eq_false_iff_ne.2 hclass
  rw [transitAnswer, hin, hbare, hcall]
  rfl

theorem forwardCell_of_data (hin : s.inService b = true) (hclass : cellClass x ≠ .call) :
    forwardCell s b x
      = holdCheck (wakeSide (s.setSide b { s.side b with tqData := (s.side b).tqData ++ [hopped x] }) b) b := by
  have hpush : transitPush (s.side b) (hopped x) = { s.side b with tqData := (s.side b).tqData ++ [hopped x] } :=
    if_neg (by rw [beq_iff_eq]; exact hclass)
  unfold forwardCell
  rw [transitAnswer_of_data hin hclass, hpush]

theorem forwardCell_of_absent (hin : s.inService b = false) :
    forwardCell s b x = s.countNode (fun n => { n with undelivered := satInc n.undelivered }) := by
  have hanswer : transitAnswer s b x = .undelivered := if_pos (by rw [hin]; rfl)
  unfold forwardCell
  rw [hanswer]

/-- R31: forwarding out of a side changes no port but its own. -/
theorem forwardCell_port (q : Port) (hq : q ≠ s.portOf b) : (forwardCell s b x).port q = s.port q := by
  unfold forwardCell
  split
  · have hports : (holdCheck (wakeSide (s.setSide b (transitPush (s.side b) (hopped x))) b) b).ports
        = (wakeSide (s.setSide b (transitPush (s.side b) (hopped x))) b).ports := within_holdCheck _ b .ports (by decide)
    rw [State.port, hports]
    change (wakeSide (s.setSide b (transitPush (s.side b) (hopped x))) b).port q = s.port q
    unfold wakeSide
    split
    · exact setPort_ne (s.setSide b (transitPush (s.side b) (hopped x))) _ q _ hq
    · rfl
  · rfl
  · rfl
  · rfl

/-- R41, R51: what a data cell passed on leaves on the two sides. -/
theorem forwardCell_sides (hin : s.inService b = true) (hclass : cellClass x ≠ .call) :
    (forwardCell s b x).side b = { s.side b with tqData := (s.side b).tqData ++ [hopped x] }
      ∧ ((s.side b).tqData.length + 1 < 96 → (forwardCell s b x).side (otherSide b) = s.side (otherSide b))
      ∧ (96 ≤ (s.side b).tqData.length + 1 → (s.side (otherSide b)).holdRepeat = none → s.inService (otherSide b) = true →
          ((forwardCell s b x).side (otherSide b)).holdRepeat = some 100
            ∧ ((forwardCell s b x).side (otherSide b)).counts.holdsSent
              = satInc (s.side (otherSide b)).counts.holdsSent) := by
  rw [forwardCell_of_data hin hclass]
  generalize hv : ({ s.side b with tqData := (s.side b).tqData ++ [hopped x] } : Tiu) = v
  have hown : (wakeSide (s.setSide b v) b).side b = v := by rw [side_wakeSide, setSide_side]
  have hother : (wakeSide (s.setSide b v) b).side (otherSide b) = s.side (otherSide b) := by
    rw [side_wakeSide, setSide_other]
  have hlength : v.tqData.length = (s.side b).tqData.length + 1 := by
    rw [← hv, List.length_append, List.length_singleton]
  refine ⟨by rw [holdCheck_side, hown], fun h => ?_, fun h hnone hservice => ?_⟩
  · rw [holdCheck_quiet (by rw [hown, hlength]; exact h), hother]
  · have hserved : (wakeSide (s.setSide b v) b).inService (otherSide b) = true := by
      rw [inService_wakeSide]
      exact hservice
    rw [holdCheck_holds (by rw [hown, hlength]; exact h) (by rw [hother]; exact hnone) hserved, ← hother]
    exact makeHold_side _ _

/-! ## Carriage -/

theorem class_of_dataCommands (h : (i, k) ∈ dataCommands p c) : kindClass k ≠ .call := by
  simp only [dataCommands, List.mem_cons, Prod.mk.injEq, List.not_mem_nil, or_false] at h
  rcases h with ⟨_, rfl⟩ | ⟨_, rfl⟩ | ⟨_, rfl⟩ | ⟨_, rfl⟩ | ⟨_, rfl⟩ | ⟨_, rfl⟩ | ⟨_, rfl⟩ | ⟨_, rfl⟩ | ⟨_, rfl⟩ | ⟨_, rfl⟩ |
    ⟨_, rfl⟩ | ⟨_, rfl⟩ <;> decide

theorem carriage_of_node (hgw : s.isGateway = false) (hne : x.target ≠ s.station) (hall : x.target ≠ 255) :
    carriage s x = .forward := by
  rw [carriage, if_neg hne, hgw]
  exact if_neg hall

theorem carriage_of_all (hgw : s.isGateway = false) (hne : x.target ≠ s.station) (hall : x.target = 255) :
    carriage s x = .consumeAndForward := by
  rw [carriage, if_neg hne, hgw]
  exact if_pos hall

theorem carriage_of_stray (hgw : s.isGateway = true) (hne : x.target ≠ s.station) (hall : x.target ≠ 255)
    (hany : x.target ≠ 254) : carriage s x = .undelivered := by
  have hout : (decide (x.target = anyGateway) || decide (x.target = allStations)) = false := by
    rw [decide_eq_false (show ¬ x.target = anyGateway from hany), decide_eq_false (show ¬ x.target = allStations from hall)]
    rfl
  rw [carriage, if_neg hne, hgw, hout]
  rfl

/-- R8: what a granted data cell's command leaves, by the consumer and the carriage. -/
theorem exec_data_granted (h : (i, k) ∈ dataCommands p c) (hgrant : cellGranted s p (cellOf k c) = true) :
    ∃ u, exec i s = .next (ended s (carry (met s p u) (s.sideOf p) (cellOf k c) (consumerOf k c (s.sideOf p))))
      ∧ Admitted s p u := by
  obtain ⟨u, heq, hu⟩ := transit_granted s p (cellOf k c)
    (fun t => carry t (t.sideOf p) (cellOf k c) (consumerOf k c (t.sideOf p))) hgrant
  exact ⟨u, exec_done i ((exec_of_dataCommands h).trans (by rw [heq]; rfl)), hu⟩

theorem carry_of_forward {consume : State → State} (h : carriage s x = .forward) :
    carry s a x consume = passOn s (otherSide a) x := by
  unfold carry
  rw [h]

theorem carry_of_copy {consume : State → State} (h : carriage s x = .consumeAndForward) :
    carry s a x consume = consume (passCopy s (otherSide a) x) := by
  unfold carry
  rw [h]

theorem carry_of_undelivered {consume : State → State} (h : carriage s x = .undelivered) :
    carry s a x consume = countUndelivered { s with inHand := 0 } := by
  unfold carry
  rw [h]

theorem carry_of_consume {consume : State → State} (h : carriage s x = .consume) : carry s a x consume = consume s := by
  unfold carry
  rw [h]

theorem otherSide_ne (d : Side) : otherSide d ≠ d := by
  cases d with
  | up => decide
  | down => decide

/-- What a port keeps from the grant of a cell to the end of its command. -/
theorem ended_granted_port {u : PortUnit} (hu : Admitted s p u) (hport : t.port p = u) :
    ((ended s t).port p).counts.cellsIn = satInc (s.port p).counts.cellsIn
      ∧ ((s.port p).state = .doze → ((ended s t).port p).state = .waking) := by
  rw [ended_port_fields, hport]
  refine ⟨?_, fun hdoze => hu.woken hdoze⟩
  dsimp only
  rw [hu.counts]

/-- R12, R13: a node that takes cells has a station number of its own. -/
theorem station_ne_all_of_granted (h : cellGranted s p x = true) : s.station ≠ 255 := by
  intro hstation
  simp only [cellGranted, Bool.and_eq_true] at h
  obtain ⟨hfree, _⟩ := portFree_of_receives (receives_of_taken h.1.1).1
  simp only [State.portFree, State.portLive, State.live, strapFault, stationRangeFault, Bool.and_eq_true, Bool.not_eq_true',
    Bool.or_eq_false_iff] at hfree
  obtain ⟨⟨⟨_, ⟨⟨_, hrange⟩, _⟩, _⟩, _⟩, _⟩ := hfree
  rw [show strapStation s.straps = 255 from hstation] at hrange
  exact absurd hrange (by decide)

/-- R40: a taken cell is put to the hop limit and the pool. -/
theorem exec_data_taken (h : (i, k) ∈ dataCommands p c) (htaken : cellTaken s p (cellOf k c) = true) :
    exec i s
      = .next (ended s (admitCell (stir (takeIn s p) p) (cellOf k c)
          (fun t => carry t (t.sideOf p) (cellOf k c) (consumerOf k c (t.sideOf p))))) := by
  refine exec_done i ?_
  rw [exec_of_dataCommands h, transitArrival, arrive_taken s p (cellOf k c) _ htaken]

theorem within_stirred (s : State) (p : Port) : Within [.ports] s (stir (takeIn s p) p) :=
  (within_takeIn s p).trans (within_stir (takeIn s p) p)

theorem poolFree_stirred (s : State) (p : Port) : (stir (takeIn s p) p).poolFree = s.poolFree := by
  obtain ⟨u, hu, hsending, _⟩ := stir_eq (takeIn s p) p
  have htaken : (takeIn s p).poolHeld = s.poolHeld := poolHeld_setPort s p _ rfl
  rw [State.poolFree, hu, poolHeld_setPort (takeIn s p) p u hsending, htaken]
  rfl

/-- What a dropped cell leaves: its port and one count of the node. -/
theorem dropped_counts {f : NodeCounts → NodeCounts} {m : State} (hm : Within [.inHand, .ports] s m) :
    Within [.inHand, .ports, .node] s (ended s (m.countNode f)) ∧ (ended s (m.countNode f)).node = f s.node := by
  refine ⟨within_ended (parts := [.inHand, .ports, .node]) (hm.seq (within_countNode m f)), ?_⟩
  rw [ended_node]
  exact congrArg f (hm .node (by decide))

/-! ## What an offer leaves -/

theorem offerEffect_other (s : State) (d : Side) (x : Cell) :
    (offerEffect s d x).side (otherSide d) = s.side (otherSide d) := by
  unfold offerEffect
  split
  · split
    · exact setSide_other s d _
    · rw [side_wakeSide, setSide_other]
  · rfl
  · exact setSide_other s d _
  · exact setSide_other s d _
  · rfl

/-- The counts of the node that no offer raises. -/
def sameDrops (m n : NodeCounts) : Prop :=
  n.transitDrop = m.transitDrop ∧ n.undelivered = m.undelivered ∧ n.noConsumer = m.noConsumer

theorem sameDrops_countNoSide (n : NodeCounts) (k : Class) : sameDrops n (countNoSide n k) := by
  cases k with
  | _ => exact ⟨rfl, rfl, rfl⟩

theorem sameDrops_countPoolRefused (n : NodeCounts) (k : Class) : sameDrops n (countPoolRefused n k) := by
  cases k with
  | _ => exact ⟨rfl, rfl, rfl⟩

theorem sameDrops_offerEffect (s : State) (d : Side) (x : Cell) : sameDrops s.node (offerEffect s d x).node := by
  unfold offerEffect
  split
  · split
    · exact ⟨rfl, rfl, rfl⟩
    · have hnode : (wakeSide (s.setSide d (insPush (s.side d) x)) d).node = s.node :=
        within_wakeSide (s.setSide d (insPush (s.side d) x)) d .node (by decide)
      rw [hnode]
      exact ⟨rfl, rfl, rfl⟩
  · exact sameDrops_countNoSide s.node _
  · exact ⟨rfl, rfl, rfl⟩
  · exact ⟨rfl, rfl, rfl⟩
  · exact sameDrops_countPoolRefused s.node _

/-! ## The blocks that answer -/

theorem answerPoll_other (s : State) (a : Side) (poll : CellData) :
    (answerPoll s (some a) poll).side (otherSide a) = s.side (otherSide a)
      ∧ sameDrops s.node (answerPoll s (some a) poll).node := by
  unfold answerPoll
  dsimp only
  split
  · exact ⟨offerEffect_other s a _, sameDrops_offerEffect s a _⟩
  · exact ⟨offerEffect_other s a _, sameDrops_offerEffect s a _⟩

theorem answerQuery_other (s : State) (a : Side) (query : CellData) :
    (answerQuery s (some a) query).side (otherSide a) = s.side (otherSide a)
      ∧ sameDrops s.node (answerQuery s (some a) query).node := by
  unfold answerQuery
  dsimp only
  split
  · exact ⟨offerEffect_other { s with freeUses := s.freeUses + 1 } a _,
      sameDrops_offerEffect { s with freeUses := s.freeUses + 1 } a _⟩
  · exact ⟨offerEffect_other { s with freeUses := s.freeUses + 1 } a _,
      sameDrops_offerEffect { s with freeUses := s.freeUses + 1 } a _⟩

/-- R45: a report taken stands last in the queue of its class. -/
theorem offer_report_taken (hclass : cellClass x = .report) (h : takesLocal s d .report = true) :
    offerAnswer s d x = .taken
      ∧ (offerEffect s d x).side d = { s.side d with insReport := (s.side d).insReport ++ [x] } := by
  have hvoice : x.kind ≠ .voice := fun hk => absurd (show cellClass x = .call by rw [cellClass, hk]; rfl) (by rw [hclass]; decide)
  have htaken : offerAnswer s d x = .taken := offer_taken s d x (by rw [hclass]; exact h) hvoice
  obtain ⟨hside, _, _⟩ := offerEffect_taken s d x htaken
  refine ⟨htaken, ?_⟩
  rw [hside]
  unfold insPush
  rw [hclass]

/-- R171: a poll answered out of side `a`. -/
theorem answerPoll_taken (poll : CellData) (h : takesLocal s a .report = true) :
    ((answerPoll s (some a) poll).side a)
        = { s.side a with insReport := (s.side a).insReport ++ [reportCell s poll.origin poll.reference 1] }
      ∧ (answerPoll s (some a) poll).wsu
        = { s.wsu with counts := { s.wsu.counts with pollsAnswered := satInc s.wsu.counts.pollsAnswered } } := by
  obtain ⟨htaken, hside⟩ := offer_report_taken (x := reportCell s poll.origin poll.reference 1) rfl h
  have hwsu : (offerEffect s a (reportCell s poll.origin poll.reference 1)).wsu = s.wsu :=
    within_offerEffect s a _ .wsu (by decide)
  have hanswer : answerPoll s (some a) poll
      = countPollAnswered (offerEffect s a (reportCell s poll.origin poll.reference 1)) :=
    if_pos (beq_iff_eq.2 htaken)
  rw [hanswer]
  refine ⟨hside, ?_⟩
  rw [countPollAnswered, State.countWsu, hwsu]

theorem queryPayload_length (s : State) : (queryPayload s).length = 52 := by
  rw [queryPayload, List.length_append, List.length_map]
  rfl

/-- R197: a query answered out of side `a`. -/
theorem answerQuery_taken (query : CellData) (h : takesLocal s a .report = true) :
    ((answerQuery s (some a) query).side a)
        = { s.side a with insReport := (s.side a).insReport ++ [statusCell s query] }
      ∧ (answerQuery s (some a) query).maint
        = { s.maint with queriesAnswered := satInc s.maint.queriesAnswered } := by
  obtain ⟨htaken, hside⟩ := offer_report_taken (s := { s with freeUses := s.freeUses + 1 }) (x := statusCell s query) rfl h
  have hmaint : (offerEffect { s with freeUses := s.freeUses + 1 } a (statusCell s query)).maint = s.maint :=
    within_offerEffect { s with freeUses := s.freeUses + 1 } a _ .maint (by decide)
  have hanswer : answerQuery s (some a) query
      = countQueryAnswered (offerEffect { s with freeUses := s.freeUses + 1 } a (statusCell s query)) :=
    if_pos (beq_iff_eq.2 htaken)
  rw [hanswer]
  refine ⟨hside, ?_⟩
  rw [countQueryAnswered, hmaint]

/-! ## Cells for ALL -/

/-- The state `t` in which the continuing copy of a cell for ALL has left, seen from the arrival side `a`; `held` is the
buffers that cell and copy hold. -/
structure CopyLeft (s t : State) (a : Side) (held : Nat) : Prop where
  straps : t.straps = s.straps
  sps : t.sps = s.sps
  wsu : t.wsu = s.wsu
  maint : t.maint = s.maint
  noConsumer : t.node.noConsumer = s.node.noConsumer
  pool : t.poolFree = (s.holding held).poolFree
  service : t.inService a = s.inService a
  reports : (t.side a).insReport = (s.side a).insReport

theorem CopyLeft.takes {held : Nat} (h : CopyLeft s t a held) :
    takesLocal t a .report = takesLocal (s.holding held) a .report := by
  have hlength : (insQueue (t.side a) .report).length = (insQueue ((s.holding held).side a) .report).length :=
    congrArg List.length h.reports
  rw [takesLocal, takesLocal, h.service, h.pool, hlength]
  rfl

/-- R6: the data cells that may be targeted ALL. -/
def SentToAll (k : Kind) : Prop :=
  k = .signWindow ∨ k = .signPixels ∨ k = .signShow ∨ k = .signClear ∨ k = .signDim ∨ k = .weatherPoll ∨ k = .nodeQuery

theorem sentToAll_of_header (h : (i, k) ∈ dataCommands p c) (hok : headerOk (cellOf k c) = true) (hall : c.target = 255) :
    SentToAll k := by
  have hkind : allowsAll k = true := by
    simp only [headerOk, Bool.and_eq_true, Bool.or_eq_true, bne_iff_ne] at hok
    exact hok.1.1.1.2.resolve_left (fun hne => hne hall)
  simp only [dataCommands, List.mem_cons, Prod.mk.injEq, List.not_mem_nil, or_false] at h
  unfold SentToAll
  rcases h with ⟨_, rfl⟩ | ⟨_, rfl⟩ | ⟨_, rfl⟩ | ⟨_, rfl⟩ | ⟨_, rfl⟩ | ⟨_, rfl⟩ | ⟨_, rfl⟩ | ⟨_, rfl⟩ | ⟨_, rfl⟩ | ⟨_, rfl⟩ |
    ⟨_, rfl⟩ | ⟨_, rfl⟩
  · exact absurd hkind (by decide)
  · exact absurd hkind (by decide)
  · exact .inl rfl
  · exact .inr (.inl rfl)
  · exact .inr (.inr (.inl rfl))
  · exact .inr (.inr (.inr (.inl rfl)))
  · exact .inr (.inr (.inr (.inr (.inl rfl))))
  · exact absurd hkind (by decide)
  · exact absurd hkind (by decide)
  · exact absurd hkind (by decide)
  · exact .inr (.inr (.inr (.inr (.inr (.inl rfl)))))
  · exact .inr (.inr (.inr (.inr (.inr (.inr rfl)))))

/-- The local copy of a SIGN command for ALL. -/
theorem delivered_sign {held : Nat} (h : CopyLeft s t a held) (hreply : k ≠ .weatherPoll ∧ k ≠ .nodeQuery) :
    deliveredHere s (consumeSign a (cellOf k c) t) a held k c := by
  refine ⟨fun _ hfitted => ?_, fun _ hfitted => ?_, fun hpoll => absurd hpoll hreply.1, fun _ =>
    ⟨fun hpoll => absurd hpoll hreply.1, fun hquery => absurd hquery hreply.2⟩⟩
  · rw [consumeSign, h.straps, if_pos hfitted, ← h.sps]
  · rw [consumeSign, h.straps, if_neg (by rw [hfitted]; exact Bool.false_ne_true), ← h.noConsumer]
    rfl

theorem delivered_poll {held : Nat} (h : CopyLeft s t a held) :
    deliveredHere s (consumePoll a (cellOf .weatherPoll c) t) a held .weatherPoll c := by
  refine ⟨nofun, nofun, fun _ hfitted => ?_, fun htakes => ⟨fun _ hfitted => ?_, nofun⟩⟩
  · rw [consumePoll, h.straps, if_neg (by rw [hfitted]; exact Bool.false_ne_true), ← h.noConsumer]
    rfl
  · rw [consumePoll, h.straps, if_pos hfitted]
    obtain ⟨hside, hwsu⟩ := answerPoll_taken (s := t) (cellOf .weatherPoll c).toCellData (h.takes.trans htakes)
    rw [hside, hwsu]
    dsimp only
    rw [h.reports, h.wsu, reportCell, State.station, h.straps, h.wsu]
    exact ⟨rfl, rfl⟩

theorem delivered_query {held : Nat} (h : CopyLeft s t a held) :
    deliveredHere s (answerQuery t (some a) c) a held .nodeQuery c := by
  refine ⟨nofun, nofun, nofun, fun htakes => ⟨nofun, fun _ => ?_⟩⟩
  obtain ⟨hside, hmaint⟩ := answerQuery_taken (s := t) c (h.takes.trans htakes)
  rw [hside, hmaint, h.maint]
  dsimp only
  rw [h.reports, statusCell, State.station, h.straps]
  exact ⟨⟨_, queryPayload_length t, rfl⟩, rfl⟩

/-- R8, R9: a cell for ALL reaches the block that owns its kind, which leaves the other side and the drop counts alone. -/
theorem delivered_of_copyLeft {held : Nat} (h : CopyLeft s t a held) (hk : SentToAll k) :
    deliveredHere s (consumerOf k c a t) a held k c
      ∧ (consumerOf k c a t).side (otherSide a) = t.side (otherSide a)
      ∧ (consumerOf k c a t).node.transitDrop = t.node.transitDrop
      ∧ (consumerOf k c a t).node.undelivered = t.node.undelivered := by
  have hsign (hreply : k ≠ .weatherPoll ∧ k ≠ .nodeQuery)
      (heq : consumerOf k c a t = consumeSign a (cellOf k c) t) :
      deliveredHere s (consumerOf k c a t) a held k c
        ∧ (consumerOf k c a t).side (otherSide a) = t.side (otherSide a)
        ∧ (consumerOf k c a t).node.transitDrop = t.node.transitDrop
        ∧ (consumerOf k c a t).node.undelivered = t.node.undelivered := by
    rw [heq]
    refine ⟨delivered_sign h hreply, ?_⟩
    unfold consumeSign
    split
    · exact ⟨rfl, rfl, rfl⟩
    · exact ⟨rfl, rfl, rfl⟩
  rcases hk with rfl | rfl | rfl | rfl | rfl | rfl | rfl
  · exact hsign (by decide) rfl
  · exact hsign (by decide) rfl
  · exact hsign (by decide) rfl
  · exact hsign (by decide) rfl
  · exact hsign (by decide) rfl
  · refine ⟨delivered_poll h, ?_⟩
    change (consumePoll a (cellOf .weatherPoll c) t).side (otherSide a) = _ ∧ (consumePoll a (cellOf .weatherPoll c) t).node.transitDrop = _
      ∧ (consumePoll a (cellOf .weatherPoll c) t).node.undelivered = _
    unfold consumePoll
    split
    · obtain ⟨hside, hdrop, hundelivered, _⟩ := answerPoll_other t a (cellOf .weatherPoll c).toCellData
      exact ⟨hside, hdrop, hundelivered⟩
    · exact ⟨rfl, rfl, rfl⟩
  · obtain ⟨hside, hdrop, hundelivered, _⟩ := answerQuery_other t a c
    exact ⟨delivered_query h, hside, hdrop, hundelivered⟩

theorem deliveredHere_ended {held : Nat} (u : State) (h : deliveredHere s t a held k c) :
    deliveredHere s (ended u t) a held k c := by
  unfold deliveredHere at h ⊢
  rw [ended_sps, ended_node, ended_side, ended_wsu, ended_maint]
  exact h

theorem copyLeft_of_node {u : PortUnit} {f : NodeCounts → NodeCounts} (hu : Admitted s p u)
    (hf : (f s.node).noConsumer = s.node.noConsumer) : CopyLeft s ((met s p u).countNode f) a 1 where
  straps := rfl
  sps := rfl
  wsu := rfl
  maint := rfl
  noConsumer := hf
  pool := met_pool s p u hu.sending 1
  service := hu.inService a
  reports := rfl

theorem copyLeft_of_placed {u : PortUnit} (hu : Admitted s p u) (hin : s.inService (otherSide a) = true)
    (hclass : cellClass x ≠ .call) : CopyLeft s (forwardCell (met s p u) (otherSide a) x) a 2 := by
  have hserved : (met s p u).inService (otherSide a) = true := (hu.inService (otherSide a)).trans hin
  have hwithin := (forward_placed (met s p u) (otherSide a) x (transitAnswer_of_data hserved hclass)).1
  refine ⟨hwithin .straps (by decide), hwithin .sps (by decide), hwithin .wsu (by decide), hwithin .maint (by decide),
    congrArg NodeCounts.noConsumer (hwithin .node (by decide)), ?_, ?_, ?_⟩
  · rw [forwardCell_of_data hserved hclass, poolFree_eq, poolHeld_holdCheck, poolHeld_wakeSide]
    have hsum := poolHeld_setSide (met s p u) (otherSide a)
      { (met s p u).side (otherSide a) with tqData := ((met s p u).side (otherSide a)).tqData ++ [hopped x] }
    have hpush : tiuHeld { (met s p u).side (otherSide a) with tqData := ((met s p u).side (otherSide a)).tqData ++ [hopped x] }
        = tiuHeld ((met s p u).side (otherSide a)) + 1 := by
      simp only [tiuHeld, List.length_append, List.length_singleton]
      omega
    have hmet : (met s p u).poolHeld = State.poolHeld { s with inHand := 1 } :=
      poolHeld_setPort (s.holding 1) p u hu.sending
    have hone := poolHeld_withInHand s 1
    have htwo := poolHeld_withInHand s 2
    rw [hpush, hmet] at hsum
    rw [poolFree_eq, show s.holding 2 = { s with inHand := 2 } from rfl]
    omega
  · rw [forwardCell_of_data hserved hclass, inService_holdCheck, inService_wakeSide]
    exact hu.inService a
  · rw [forwardCell_of_data hserved hclass, holdCheck_reports, side_wakeSide, side_setSide, if_neg (otherSide_ne a).symm]
    rfl

end

/-- Settles O20. -/
theorem dataCellsArePassedOnOrCounted : Obligations.DataCellsArePassedOnOrCounted := by
  refine ⟨fun p c i k s h hgw hne hall hgrant hin => ?_, fun p c i k s h => ⟨fun htaken hhops => ?_,
    fun htaken hhops hdry => ?_, fun hgrant hne hall hway => ?_⟩, fun p c i k s h hgw hall hgrant => ?_⟩
  · obtain ⟨u, hexec, hu⟩ := exec_data_granted h hgrant
    have hcarriage : carriage (met s p u) (cellOf k c) = .forward := carriage_of_node hgw hne hall
    have hb : otherSide (s.sideOf p) ≠ s.sideOf p := otherSide_ne _
    have hserved : State.inService { met s p u with inHand := 0 } (otherSide (s.sideOf p)) = true :=
      (hu.inService _).trans hin
    have hback : State.inService { met s p u with inHand := 0 } (otherSide (otherSide (s.sideOf p))) = true := by
      rw [other_other, show State.inService { met s p u with inHand := 0 } (s.sideOf p) = s.inService (s.sideOf p) from
        hu.inService _, inService_eq, portOf_sideOf]
      exact granted_service hgrant
    have hclass : cellClass (cellOf k c) ≠ .call := class_of_dataCommands h
    obtain ⟨hown, hquiet, hholds⟩ := forwardCell_sides hserved hclass
    rw [other_other] at hquiet hholds hback
    rw [carry_of_forward hcarriage, passOn] at hexec
    have hport : (forwardCell { met s p u with inHand := 0 } (otherSide (s.sideOf p)) (cellOf k c)).port p = u := by
      exact (forwardCell_port (s := { met s p u with inHand := 0 }) p (fun heq => portOf_ne_of_side hb heq.symm)).trans
        (met_port s p u)
    obtain ⟨hcells, hdoze⟩ := ended_granted_port hu hport
    refine ⟨_, hexec, ?_, ended_inHand _ _, ?_, ?_, ?_, hcells, hdoze⟩
    · have hplaced := (forward_placed { met s p u with inHand := 0 } (otherSide (s.sideOf p)) (cellOf k c)
        (transitAnswer_of_data hserved hclass)).1
      have hmet : Within [.inHand, .ports] s { met s p u with inHand := 0 } :=
        (within_met s p u).trans (within_withInHand (met s p u) 0).widen
      exact within_ended (parts := [.inHand, .ports, .tiu]) (hmet.seq hplaced)
    · rw [ended_side]
      exact hown
    · rw [ended_side]
      exact hquiet
    · rw [ended_side]
      exact fun hlong hnone => hholds hlong hnone hback
  · have hlimit : admitCell (stir (takeIn s p) p) (cellOf k c)
        (fun t => carry t (t.sideOf p) (cellOf k c) (consumerOf k c (t.sideOf p)))
        = (stir (takeIn s p) p).countNode (fun n => { n with hopLimit := satInc n.hopLimit }) := if_pos hhops
    have hexec := exec_data_taken h htaken
    rw [hlimit] at hexec
    exact ⟨_, hexec, dropped_counts (f := fun n => { n with hopLimit := satInc n.hopLimit }) (within_stirred s p).widen⟩
  · have hdrop : admitCell (stir (takeIn s p) p) (cellOf k c)
        (fun t => carry t (t.sideOf p) (cellOf k c) (consumerOf k c (t.sideOf p)))
        = (stir (takeIn s p) p).countNode (fun n => { n with transitDrop := satInc n.transitDrop }) := by
      rw [admitCell, if_neg (by exact hhops), if_pos ((poolFree_stirred s p).trans hdry)]
    have hexec := exec_data_taken h htaken
    rw [hdrop] at hexec
    exact ⟨_, hexec, dropped_counts (f := fun n => { n with transitDrop := satInc n.transitDrop }) (within_stirred s p).widen⟩
  · obtain ⟨u, hexec, hu⟩ := exec_data_granted h hgrant
    have hmet : Within [.inHand, .ports] s { met s p u with inHand := 0 } :=
      (within_met s p u).trans (within_withInHand (met s p u) 0).widen
    have hlost : carry (met s p u) (s.sideOf p) (cellOf k c) (consumerOf k c (s.sideOf p))
        = State.countNode { met s p u with inHand := 0 } (fun n => { n with undelivered := satInc n.undelivered }) := by
      rcases hway with ⟨hgw, hany⟩ | ⟨hgw, hout⟩
      · exact carry_of_undelivered (carriage_of_stray hgw hne hall hany)
      · rw [carry_of_forward (s := met s p u) (carriage_of_node (x := cellOf k c) hgw hne hall), passOn]
        exact forwardCell_of_absent ((hu.inService _).trans hout)
    rw [hlost] at hexec
    obtain ⟨hwithin, hnode⟩ := dropped_counts (f := fun n => { n with undelivered := satInc n.undelivered }) hmet
    exact ⟨_, hexec, hwithin, ended_inHand _ _, hnode⟩
  · obtain ⟨u, hexec, hu⟩ := exec_data_granted h hgrant
    have hok : headerOk (cellOf k c) = true := by
      simp only [cellGranted, Bool.and_eq_true] at hgrant
      exact (receives_of_taken hgrant.1.1).2.1
    have hkind := sentToAll_of_header h hok hall
    have hne : c.target ≠ s.station := fun heq => station_ne_all_of_granted hgrant (heq.symm.trans hall)
    rw [carry_of_copy (s := met s p u) (carriage_of_all (x := cellOf k c) hgw hne hall)] at hexec
    have hfree : (met s p u).poolFree = (grantedState s).poolFree := met_pool s p u hu.sending 1
    have hends (t : State) (held : Nat) (ht : CopyLeft s t (s.sideOf p) held) :
        deliveredHere s (ended s (consumerOf k c (s.sideOf p) t)) (s.sideOf p) held k c
          ∧ (ended s (consumerOf k c (s.sideOf p) t)).side (otherSide (s.sideOf p)) = t.side (otherSide (s.sideOf p))
          ∧ (ended s (consumerOf k c (s.sideOf p) t)).node.transitDrop = t.node.transitDrop
          ∧ (ended s (consumerOf k c (s.sideOf p) t)).node.undelivered = t.node.undelivered := by
      obtain ⟨hdelivered, hside, hdrop, hundelivered⟩ := delivered_of_copyLeft ht hkind
      rw [ended_side, ended_node]
      exact ⟨deliveredHere_ended s hdelivered, hside, hdrop, hundelivered⟩
    refine ⟨fun hpool hin => ?_, fun hpool hout => ?_, fun hdry => ?_⟩
    · have hclass : cellClass (cellOf k c) ≠ .call := class_of_dataCommands h
      have hserved : (met s p u).inService (otherSide (s.sideOf p)) = true := (hu.inService _).trans hin
      have hcopy : passCopy (met s p u) (otherSide (s.sideOf p)) (cellOf k c)
          = forwardCell (met s p u) (otherSide (s.sideOf p)) (cellOf k c) :=
        if_neg (by rw [hfree]; exact Nat.pos_iff_ne_zero.1 hpool)
      rw [hcopy] at hexec
      obtain ⟨hdelivered, hside, hdrop, hundelivered⟩ := hends _ _ (copyLeft_of_placed hu hin hclass)
      obtain ⟨hwithin, hown⟩ := forward_placed (met s p u) (otherSide (s.sideOf p)) (cellOf k c)
        (transitAnswer_of_data hserved hclass)
      have hnode : (forwardCell (met s p u) (otherSide (s.sideOf p)) (cellOf k c)).node = s.node := hwithin .node (by decide)
      rw [(forwardCell_sides hserved hclass).1] at hside
      rw [hnode] at hdrop hundelivered
      exact ⟨_, hexec, ended_inHand _ _, hdelivered, congrArg Tiu.tqData hside, hdrop, hundelivered⟩
    · have hcopy : passCopy (met s p u) (otherSide (s.sideOf p)) (cellOf k c)
          = (met s p u).countNode (fun n => { n with undelivered := satInc n.undelivered }) :=
        (if_neg (by rw [hfree]; exact Nat.pos_iff_ne_zero.1 hpool)).trans
          (forwardCell_of_absent ((hu.inService _).trans hout))
      rw [hcopy] at hexec
      obtain ⟨hdelivered, hside, _, hundelivered⟩ := hends _ _
        (copyLeft_of_node (f := fun n => { n with undelivered := satInc n.undelivered }) hu rfl)
      exact ⟨_, hexec, ended_inHand _ _, hdelivered, hside, hundelivered⟩
    · have hcopy : passCopy (met s p u) (otherSide (s.sideOf p)) (cellOf k c)
          = (met s p u).countNode (fun n => { n with transitDrop := satInc n.transitDrop }) :=
        if_pos (hfree.trans hdry)
      rw [hcopy] at hexec
      obtain ⟨hdelivered, hside, hdrop, _⟩ := hends _ _
        (copyLeft_of_node (f := fun n => { n with transitDrop := satInc n.transitDrop }) hu rfl)
      exact ⟨_, hexec, ended_inHand _ _, hdelivered, hside, hdrop⟩

end Sys2Proof.Machine
end

section
/-! PROOFS. The refresh of the sign, the sweep, the wind and the road surface (O49, O51, O53, O55). -/

set_option Elab.async false

namespace Sys2Proof.Machine

section
variable {s : State} {x : Sps} {w : Wsu} {n : Nat} {r : BitVec 12}

/-! ## The refresh -/

theorem exec_refreshBoundary (hworks : s.signWorks = true) :
    exec .refreshBoundary s = .next { s with sps := boundary s.sps } := if_pos hworks

theorem exec_rowPeriod (hworks : s.signWorks = true) (hrow : s.sps.nextRow < 32) :
    exec .rowPeriod s = .next { s with sps := driveRow s.sps } :=
  if_pos (by rw [hworks, decide_eq_true hrow]; rfl)

theorem exec_hazardHoldExpiry (hworks : s.signWorks = true) (hheld : s.sps.hazardHold.isSome = true) :
    exec .hazardHoldExpiry s
      = .next { s with sps := { s.sps with
          hazard := false, hazardHold := none
          counts := { s.sps.counts with hazardExpiries := satInc s.sps.counts.hazardExpiries } } } :=
  if_pos (by rw [hworks, hheld]; rfl)

theorem boundary_of_kept (h : targetPage x = x.scanned) :
    boundary x = { x with nextRow := 0, flash := x.flash.map (fun k => (k + 1) % 100) } := if_pos h

theorem boundary_of_changed (h : targetPage x ≠ x.scanned) :
    boundary x
      = { x with
          nextRow := 0, scanned := targetPage x
          flash := if targetPage x = some 2 ∨ targetPage x = some 3 then some 0 else none
          counts := { x.counts with pageChanges := satInc x.counts.pageChanges } } := if_neg h

/-- R144: the sign shows nothing in a blank frame, or with no page scanned. -/
theorem driverValue_of_blank (h : x.scanned = none ∨ ∃ k, x.flash = some k ∧ 50 ≤ k) (col row : Nat) :
    driverValue x col row = 0 := by
  unfold driverValue
  rcases h with hnone | ⟨k, hflash, hblank⟩
  · rw [hnone]
  · have hframe : blankFrame x = true := by
      rw [blankFrame, hflash]
      exact decide_eq_true hblank
    split
    · exact if_pos hframe
    · rfl

/-- R145: the drivers take the low two bits of the scanned page's pixels. -/
theorem driverValue_of_shown {page : Nat} (hpage : x.scanned = some page) (h : ∀ k, x.flash = some k → k < 50)
    (col row : Nat) :
    driverValue x col row = (Memory.read x.pages (4096 * page + 128 * row + col)).extractLsb' 0 2 := by
  have hframe : blankFrame x = false := by
    unfold blankFrame
    split
    · next k hflash => exact decide_eq_false (Nat.not_le.2 (h k hflash))
    · rfl
  rw [driverValue, hpage, hframe]
  rfl

end

/-- Settles O49. -/
theorem refreshDrivesTheScannedPage : Obligations.RefreshDrivesTheScannedPage := by
  intro s hworks
  refine ⟨⟨_, exec_refreshBoundary hworks, within_withSps s _, ?_⟩, fun hrow =>
    ⟨_, exec_rowPeriod hworks hrow, within_withSps s _, rfl, rfl, ?_, rfl, rfl, rfl, fun hblank v hv => ?_,
      fun page col hpage hflash hcol => ?_⟩, fun hheld => exec_hazardHoldExpiry hworks hheld⟩
  · dsimp only
    by_cases h : targetPage s.sps = s.sps.scanned
    · rw [boundary_of_kept h]
      exact ⟨h.symm, rfl, rfl, fun hne => absurd h hne, fun _ => ⟨rfl, rfl⟩⟩
    · rw [boundary_of_changed h]
      exact ⟨rfl, rfl, rfl, fun _ => ⟨rfl, rfl⟩, fun heq => absurd heq h⟩
  · exact (List.length_map _).trans List.length_range
  · obtain ⟨col, _, rfl⟩ := List.mem_map.1 hv
    exact driverValue_of_blank hblank col _
  · have hget : ((List.range 128).map (fun col => driverValue s.sps col s.sps.nextRow)).getD col 0
        = driverValue s.sps col s.sps.nextRow := by
      rw [List.getD_eq_getElem?_getD, List.getElem?_map, List.getElem?_range hcol]
      rfl
    exact hget.trans (driverValue_of_shown hpage hflash col _)

section
variable {s : State} {w : Wsu} {n : Nat} {r : BitVec 12}

/-! ## The sweep -/

theorem exec_sweepStart (hworks : s.weatherWorks = true) :
    exec .sweepStart s = .next { s with wsu := sweepStarted s.wsu } := if_pos hworks

theorem sweepStarted_of_idle (h : w.converter = .idle) :
    sweepStarted w = { w with converter := .settling 1, settle := some 2, sweepPeriod := some 1000 } := by
  unfold sweepStarted
  rw [h]
  rfl

theorem sweepStarted_of_busy (h : w.converter ≠ .idle) :
    sweepStarted w
      = { w with
          converter := .idle, settle := none, sweepPeriod := some 1000
          counts := { w.counts with sweepsSkipped := satInc w.counts.sweepsSkipped } } := by
  unfold sweepStarted
  split
  · next hidle => exact absurd hidle h
  · rfl

theorem exec_settleExpiry (hworks : s.weatherWorks = true) (h : s.wsu.converter = .settling n) :
    exec .settleExpiry s = .next { s with wsu := { s.wsu with converter := .converting n, settle := none } } := by
  rw [show exec .settleExpiry s = execSettleExpiry s from rfl, execSettleExpiry, if_pos hworks, h]

theorem sampleTaken_sweeps (w : Wsu) (n : Nat) (r : BitVec 12) : (sampleTaken w n r).counts.sweeps = w.counts.sweeps := by
  rw [sampleTaken]
  dsimp only
  unfold countSample
  split
  · rfl
  · rfl

theorem sweepOn_of_more (h : n < 12) : sweepOn w n = { w with converter := .settling (n + 1), settle := some 2 } := if_pos h

theorem sweepOn_of_last (h : 12 ≤ n) :
    sweepOn w n
      = { w with converter := .idle, settle := none, counts := { w.counts with sweeps := satInc w.counts.sweeps } } :=
  if_neg (Nat.not_lt.2 h)

theorem conversionEnded_sps_of_other (h : n ≠ 4) : (conversionEnded s n r).sps = s.sps := by
  simp only [conversionEnded, if_neg h]

/-- R158: an AN4 result moves the AUTO target. -/
theorem conversionEnded_sps_of_light (hfitted : signFitted s.straps = true) :
    (conversionEnded s 4 r).sps
      = { s.sps with autoTarget := autoTargetOf (channelOf (conversionEnded s 4 r).wsu 4) } := by
  have hchannel : channelOf (conversionEnded s 4 r).wsu 4 = channelOf (sampleTaken s.wsu 4 r) 4 := by
    rw [conversionEnded_wsu, channelOf, sweepOn_channels, channelOf]
  rw [hchannel]
  simp only [conversionEnded, if_true, handLight]
  exact congrArg State.sps (if_pos hfitted)

end

/-- Settles O51. -/
theorem sweepVisitsTheChannels : Obligations.SweepVisitsTheChannels := by
  intro s hworks
  refine ⟨fun hidle => ?_, fun hbusy => ?_, fun n hn => exec_settleExpiry hworks hn, fun n r hn =>
    ⟨_, exec_endOfConversion hworks hn, within_conversionEnded s n r, ?_, fun hmore => ?_, fun hlast => ?_,
      fun hother => conversionEnded_sps_of_other hother, fun hlight hfitted => ?_⟩⟩
  · rw [exec_sweepStart hworks, sweepStarted_of_idle hidle]
  · rw [exec_sweepStart hworks, sweepStarted_of_busy hbusy]
  · rw [conversionEnded_wsu, sweepOn_channels]
    rfl
  · rw [conversionEnded_wsu, sweepOn_of_more hmore]
    exact ⟨rfl, rfl⟩
  · rw [conversionEnded_wsu, sweepOn_of_last hlast]
    exact ⟨rfl, congrArg satInc (sampleTaken_sweeps s.wsu n r)⟩
  · subst hlight
    exact conversionEnded_sps_of_light hfitted

section
variable {s : State} {w : Wsu}

/-! ## The reasons handed to the sign -/

/-- The WSU with another count of onsets. -/
def withOnsets (w : Wsu) (h : Half) : Wsu := { w with counts := { w.counts with hazardOnsets := h } }

/-- What a change of the WSU hands to the sign and what it leaves of the WSU. -/
def reasonsSettled (s : State) (w : Wsu) : State := settleReasons s { s with wsu := w }

theorem reasonsOn_parts (s : State) :
    (reasonsOn s).wsu = s.wsu
      ∧ (hazardEnabled s.straps = false → (reasonsOn s).sps = { s.sps with reasonsActive := true })
      ∧ (hazardEnabled s.straps = true → s.sps.hazard = false →
          (reasonsOn s).sps
            = { s.sps with
                reasonsActive := true, hazard := true
                counts := { s.sps.counts with hazardRaises := satInc s.sps.counts.hazardRaises } })
      ∧ (hazardEnabled s.straps = true → s.sps.hazard = true →
          (reasonsOn s).sps = { s.sps with reasonsActive := true, hazardHold := none }) := by
  unfold reasonsOn
  dsimp only
  cases hazardEnabled s.straps with
  | false => exact ⟨rfl, fun _ => rfl, nofun, nofun⟩
  | true =>
    cases s.sps.hazard with
    | false => exact ⟨rfl, nofun, fun _ _ => rfl, fun _ => nofun⟩
    | true => exact ⟨rfl, nofun, fun _ => nofun, fun _ _ => rfl⟩

theorem reasonsOff_parts (s : State) :
    (reasonsOff s).wsu = s.wsu
      ∧ (reasonsOff s).sps
        = { s.sps with
            reasonsActive := false
            hazardHold := if hazardEnabled s.straps = true ∧ s.sps.hazard = true then some 600000 else s.sps.hazardHold } := by
  unfold reasonsOff
  dsimp only
  split
  · next hheld => exact ⟨rfl, by rw [if_pos (Bool.and_eq_true_iff.1 hheld)]; rfl⟩
  · next hfree => exact ⟨rfl, by rw [if_neg (fun hand => hfree (Bool.and_eq_true_iff.2 hand))]⟩

theorem reasonsSettled_of_onset (hbefore : reasonsActive s.wsu = false) (hafter : reasonsActive w = true) :
    reasonsSettled s w
      = if signFitted s.straps then
          reasonsOn { s with wsu := withOnsets w (satInc w.counts.hazardOnsets) }
        else { s with wsu := withOnsets w (satInc w.counts.hazardOnsets) } := by
  rw [reasonsSettled, settleReasons, hbefore, show reasonsActive ({ s with wsu := w } : State).wsu = true from hafter]
  rfl

theorem reasonsSettled_of_end (hbefore : reasonsActive s.wsu = true) (hafter : reasonsActive w = false) :
    reasonsSettled s w = if signFitted s.straps then reasonsOff { s with wsu := w } else { s with wsu := w } := by
  rw [reasonsSettled, settleReasons, hbefore, show reasonsActive ({ s with wsu := w } : State).wsu = false from hafter]
  rfl

theorem reasonsSettled_of_same (h : reasonsActive s.wsu = reasonsActive w) : reasonsSettled s w = { s with wsu := w } := by
  rw [reasonsSettled, settleReasons, show reasonsActive ({ s with wsu := w } : State).wsu = reasonsActive s.wsu from h.symm]
  cases reasonsActive s.wsu with
  | true => rfl
  | false => rfl

/-- R168: the WSU keeps all but the count of onsets. -/
theorem reasonsSettled_wsu (s : State) (w : Wsu) :
    (reasonsSettled s w).wsu = withOnsets w (reasonsSettled s w).wsu.counts.hazardOnsets := by
  cases hbefore : reasonsActive s.wsu with
  | false =>
    cases hafter : reasonsActive w with
    | false => rw [reasonsSettled_of_same (hbefore.trans hafter.symm)]; rfl
    | true =>
      rw [reasonsSettled_of_onset hbefore hafter]
      split
      · rw [(reasonsOn_parts _).1]
        rfl
      · rfl
  | true =>
    cases hafter : reasonsActive w with
    | true => rw [reasonsSettled_of_same (hbefore.trans hafter.symm)]; rfl
    | false =>
      rw [reasonsSettled_of_end hbefore hafter]
      split
      · rw [(reasonsOff_parts _).1]
        rfl
      · rfl

/-- R138, R168: the reasons that begin or end reach the sign. -/
theorem reasonsHanded_settled (hcount : w.counts.hazardOnsets = s.wsu.counts.hazardOnsets) :
    reasonsHanded s (reasonsSettled s w) := by
  have hactive : reasonsActive (reasonsSettled s w).wsu = reasonsActive w := by
    rw [reasonsSettled_wsu]
    rfl
  unfold reasonsHanded
  rw [hactive]
  refine ⟨fun hbefore hafter => ?_, fun hbefore hafter => ?_, fun h => ?_⟩
  · rw [reasonsSettled_of_onset hbefore hafter]
    cases signFitted s.straps with
    | false => exact ⟨congrArg satInc hcount, nofun, nofun, fun _ => rfl⟩
    | true =>
      obtain ⟨hwsu, hoff, hraise, hhold⟩ := reasonsOn_parts { s with wsu := withOnsets w (satInc w.counts.hazardOnsets) }
      rw [if_pos rfl, hwsu]
      exact ⟨congrArg satInc hcount, fun _ henabled => hoff henabled,
        fun _ henabled => ⟨fun hhazard => hraise henabled hhazard, fun hhazard => hhold henabled hhazard⟩, nofun⟩
  · rw [reasonsSettled_of_end hbefore hafter]
    cases signFitted s.straps with
    | false => exact ⟨hcount, nofun, fun _ => rfl⟩
    | true =>
      obtain ⟨hwsu, hsps⟩ := reasonsOff_parts { s with wsu := w }
      rw [if_pos rfl, hwsu, hsps]
      exact ⟨hcount, fun _ => rfl, nofun⟩
  · rw [reasonsSettled_of_same h]
    exact ⟨hcount, rfl⟩

theorem within_reasonsSettled (s : State) (w : Wsu) : Within [.sps, .wsu] s (reasonsSettled s w) :=
  (within_withWsu s w).seq (within_settleReasons s { s with wsu := w })

/-! ## The wind -/

theorem exec_windPulse (hworks : s.weatherWorks = true) :
    exec .windPulse s = .next (reasonsSettled s (windPulsed (256 - strapGustLimit s.straps) s.wsu)) := if_pos hworks

theorem exec_windWindowStart (hworks : s.weatherWorks = true) :
    exec .windWindowStart s
      = .next (reasonsSettled s (windowTurned (strapGustLimit s.straps) (256 - strapGustLimit s.straps) s.wsu)) :=
  if_pos hworks

theorem windPulsed_of_room {preload : Nat} (h : w.windCounter ≠ 255) :
    windPulsed preload w = { w with windCounter := w.windCounter + 1 } :=
  if_neg (by rw [pulseOverflows, beq_iff_eq]; exact h)

theorem windPulsed_of_gust {preload : Nat} (h : w.windCounter = 255) (hfirst : w.overflows = 0) :
    windPulsed preload w
      = { w with
          windCounter := BitVec.ofNat 8 preload, overflows := 1, gustMark := true, periodGusts := satInc w.periodGusts
          counts := { w.counts with gusts := satInc w.counts.gusts } } := by
  rw [windPulsed, if_pos (by rw [pulseOverflows, h]; rfl), if_pos hfirst]

theorem windPulsed_of_again {preload : Nat} (h : w.windCounter = 255) (hlater : w.overflows ≠ 0) :
    windPulsed preload w = { w with windCounter := BitVec.ofNat 8 preload, overflows := satInc w.overflows } := by
  rw [windPulsed, if_pos (by rw [pulseOverflows, h]; rfl), if_neg hlater]

theorem memoryPush_eq (m : List Bool) (mark : Bool) :
    memoryPush m mark = (if 20 ≤ m.length then m.drop 1 else m) ++ [mark] := by
  unfold memoryPush windMemoryCapacity
  split
  · rfl
  · rfl

theorem newMaximum_of_more (c : Half) (h : w.periodMax = none ∨ ∃ m, w.periodMax = some m ∧ m.toNat < c.toNat) :
    newMaximum w c = true := by
  unfold newMaximum
  rcases h with hnone | ⟨m, hm, hlt⟩
  · rw [hnone]
  · rw [hm]
    exact decide_eq_true hlt

theorem newMaximum_of_less {c m : Half} (hm : w.periodMax = some m) (h : c.toNat ≤ m.toNat) : newMaximum w c = false := by
  unfold newMaximum
  rw [hm]
  exact decide_eq_false (Nat.not_lt.2 h)

theorem reasonsActive_of_mark (h : w.gustMark = true) : reasonsActive w = true := by
  rw [reasonsActive, windActive, h]
  rfl

end

/-- Settles O53. -/
theorem windPulsesAndWindows : Obligations.WindPulsesAndWindows := by
  intro s hworks
  refine ⟨fun hroom => ?_, fun hfull hfirst => ?_, fun hfull hlater => ?_, ?_⟩
  · rw [exec_windPulse hworks, windPulsed_of_room hroom]
    exact congrArg Host.Outcome.next (reasonsSettled_of_same rfl)
  · have hexec := exec_windPulse hworks
    rw [windPulsed_of_gust hfull hfirst] at hexec
    refine ⟨_, hexec, within_reasonsSettled s _, ?_⟩
    have hhanded := reasonsHanded_settled (s := s)
      (w := { s.wsu with
        windCounter := BitVec.ofNat 8 (256 - strapGustLimit s.straps), overflows := 1, gustMark := true
        periodGusts := satInc s.wsu.periodGusts, counts := { s.wsu.counts with gusts := satInc s.wsu.counts.gusts } }) rfl
    refine ⟨?_, ?_, ?_, ?_, ?_, hhanded, fun hwind hice => ?_⟩
    · rw [reasonsSettled_wsu]; rfl
    · rw [reasonsSettled_wsu]; rfl
    · rw [reasonsSettled_wsu]; rfl
    · rw [reasonsSettled_wsu]; rfl
    · rw [reasonsSettled_wsu]; rfl
    · have hbefore : reasonsActive s.wsu = false := by rw [reasonsActive, hwind, hice]; rfl
      obtain ⟨honset, hoff, hon, _⟩ := hhanded.1 hbefore (by rw [reasonsSettled_wsu]; exact reasonsActive_of_mark rfl)
      refine ⟨honset, fun hfitted => ⟨?_, fun henabled => ?_⟩⟩
      · cases henabled : hazardEnabled s.straps with
        | false => exact congrArg Sps.reasonsActive (hoff hfitted henabled)
        | true =>
          obtain ⟨hraise, hhold⟩ := hon hfitted henabled
          cases hhazard : s.sps.hazard with
          | false => exact congrArg Sps.reasonsActive (hraise hhazard)
          | true => exact congrArg Sps.reasonsActive (hhold hhazard)
      · obtain ⟨hraise, hhold⟩ := hon hfitted henabled
        cases hhazard : s.sps.hazard with
        | false => exact congrArg Sps.hazard (hraise hhazard)
        | true => exact (congrArg Sps.hazard (hhold hhazard)).trans hhazard
  · have hexec := exec_windPulse hworks
    rw [windPulsed_of_again hfull hlater] at hexec
    exact ⟨_, hexec.trans (congrArg Host.Outcome.next (reasonsSettled_of_same rfl)), rfl, rfl, rfl, rfl⟩
  · refine ⟨_, exec_windWindowStart hworks, within_reasonsSettled s _, ?_⟩
    have hhanded := reasonsHanded_settled (s := s)
      (w := windowTurned (strapGustLimit s.straps) (256 - strapGustLimit s.straps) s.wsu) rfl
    have hwsu := reasonsSettled_wsu s (windowTurned (strapGustLimit s.straps) (256 - strapGustLimit s.straps) s.wsu)
    rw [hwsu]
    refine ⟨rfl, rfl, rfl, rfl, rfl, hhanded, memoryPush_eq _ _, fun hmore => ?_, fun m hm hless => ?_,
      fun hbefore hafter hfitted => ?_⟩
    · exact if_pos (newMaximum_of_more _ hmore)
    · have hkept := newMaximum_of_less hm hless
      exact ⟨(if_neg (by rw [Bool.not_eq_true]; exact hkept)).trans hm, if_neg (by rw [Bool.not_eq_true]; exact hkept)⟩
    · obtain ⟨_, hsps, _⟩ := hhanded.2.1 hbefore (by rw [hwsu]; exact hafter)
      rw [hsps hfitted]
      exact ⟨rfl, fun henabled hhazard => if_pos ⟨henabled, hhazard⟩⟩

section
variable {s : State} {w : Wsu}

/-! ## The interval timer and the road surface -/

theorem exec_intervalTimerStop {ticks subMs : Nat} (hworks : s.weatherWorks = true)
    (h : s.wsu.interval = .running ticks subMs) :
    exec .intervalTimerStop s
      = .next { s with wsu := { s.wsu with
          interval := .stopped, counts := { s.wsu.counts with noRainStops := satInc s.wsu.counts.noRainStops } } } := by
  rw [show exec .intervalTimerStop s = execIntervalTimerStop s from rfl, execIntervalTimerStop, if_pos hworks, h]

theorem exec_referenceOverflow (surface : Half) (hworks : s.weatherWorks = true) (hracing : s.wsu.racing = true) :
    exec (.referenceOverflow surface) s
      = .next (reasonsSettled s (raceEnded s.wsu (referenceResult surface) 0 surface)) :=
  if_pos (by rw [hworks, hracing]; rfl)

theorem exec_surfaceOverflow (hworks : s.weatherWorks = true) (hracing : s.wsu.racing = true) :
    exec .surfaceOverflow s = .next (reasonsSettled s (raceEnded s.wsu .fast s.wsu.refCounter 0)) :=
  if_pos (by rw [hworks, hracing]; rfl)

theorem countRace_races (n : WsuCounts) (x : RaceResult) :
    (countRace n x).races = satInc n.races ∧ (countRace n x).hazardOnsets = n.hazardOnsets := by
  cases x with
  | count c => exact ⟨rfl, rfl⟩
  | stopped => exact ⟨rfl, rfl⟩
  | fast => exact ⟨rfl, rfl⟩

theorem referenceResult_of_count {surface : Half} (h : surface ≠ 0) : referenceResult surface = .count surface := if_neg h

theorem judgeRoad_of_dry {c : Half} (h : 4000 ≤ c.toNat) : judgeRoad w (.count c) = .dry := if_pos h

theorem judgeRoad_of_faulted {c : Half} (h : c.toNat < 4000)
    (hfault : (channelOf w 2).fault = true ∨ average (channelOf w 2) = none) : judgeRoad w (.count c) = .wet := by
  rw [judgeRoad, if_neg (by exact Nat.not_le.2 h)]
  split
  · rfl
  · next hok =>
    rw [hfault.resolve_left hok]

theorem judgeRoad_of_average {c : Half} {a : Nat} (h : c.toNat < 4000) (hok : (channelOf w 2).fault = false)
    (havg : average (channelOf w 2) = some a) : judgeRoad w (.count c) = if a ≤ 1365 then .ice else .wet := by
  rw [judgeRoad, if_neg (by exact Nat.not_le.2 h), hok, havg]
  rfl

theorem raceEnded_hands (x : RaceResult) (reference surface : Half) :
    reasonsHanded s (reasonsSettled s (raceEnded s.wsu x reference surface)) :=
  reasonsHanded_settled (countRace_races s.wsu.counts x).2

end

/-- Settles O55. -/
theorem intervalAndSurfaceRace : Obligations.IntervalAndSurfaceRace := by
  intro s hworks
  refine ⟨fun n m h => exec_intervalTimerStop hworks h, if_pos hworks, fun hracing => ⟨fun surface => ?_, ?_⟩⟩
  · refine ⟨_, exec_referenceOverflow surface hworks hracing, within_reasonsSettled s _, ?_⟩
    have hhanded := raceEnded_hands (s := s) (referenceResult surface) 0 surface
    rw [reasonsSettled_wsu s (raceEnded s.wsu (referenceResult surface) 0 surface)]
    refine ⟨rfl, hhanded, rfl, beq_iff_eq, (countRace_races _ _).1, fun hzero => ?_, fun hcount => ?_, fun hdry => ?_,
      fun hcount hdamp => ⟨fun a hok havg => ?_, fun hfault => ?_⟩⟩
    · subst hzero
      exact ⟨rfl, rfl, rfl⟩
    · exact congrArg some (referenceResult_of_count hcount)
    · have hcount : surface ≠ 0 := by
        intro hzero
        rw [hzero] at hdry
        exact absurd hdry (by decide)
      exact (congrArg (judgeRoad s.wsu) (referenceResult_of_count hcount)).trans (judgeRoad_of_dry hdry)
    · exact (congrArg (judgeRoad s.wsu) (referenceResult_of_count hcount)).trans (judgeRoad_of_average hdamp hok havg)
    · exact (congrArg (judgeRoad s.wsu) (referenceResult_of_count hcount)).trans (judgeRoad_of_faulted hdamp hfault)
  · refine ⟨_, exec_surfaceOverflow hworks hracing, within_reasonsSettled s _, ?_⟩
    have hhanded := raceEnded_hands (s := s) .fast s.wsu.refCounter 0
    rw [reasonsSettled_wsu s (raceEnded s.wsu .fast s.wsu.refCounter 0)]
    exact ⟨rfl, hhanded, rfl, rfl, rfl, rfl, rfl⟩

end Sys2Proof.Machine
end

section
/-! PROOFS. The maintenance port: the pointer, the read and the counter clear (O59, O60). -/

set_option Elab.async false

namespace Sys2Proof.Machine

section
variable {s : State}

/-! ## The pointer -/

theorem exec_pointerWrite (value : Byte) (hrunning : s.running = true) :
    exec (.pointerWrite value) s
      = .next { s with maint := { s.maint with readPtr := value, latch := none, justSet := true } } := if_pos hrunning

theorem exec_counterClear (hrunning : s.running = true) : exec .counterClear s = .next (takeDataByte s 0xA5) :=
  if_pos hrunning

theorem exec_ignoredWriteByte (value : Byte) (hrunning : s.running = true) :
    exec (.ignoredWriteByte value) s = .next (takeDataByte s value) := if_pos hrunning

theorem takeDataByte_of_clear (hset : s.maint.justSet = true) (hptr : s.maint.readPtr = 0xF0) :
    takeDataByte s 0xA5 = clearCounts s := if_pos (by rw [hset, hptr]; rfl)

theorem takeDataByte_of_other {value : Byte}
    (h : s.maint.justSet = false ∨ s.maint.readPtr ≠ 0xF0 ∨ value ≠ 0xA5) :
    takeDataByte s value = { s with maint := { s.maint with justSet := false } } := by
  refine if_neg ?_
  rw [Bool.and_eq_true, Bool.and_eq_true, beq_iff_eq, beq_iff_eq]
  rintro ⟨⟨hset, hptr⟩, hvalue⟩
  rcases h with hunset | hptr' | hvalue'
  · exact Bool.false_ne_true (hunset.symm.trans hset)
  · exact hptr' hptr
  · exact hvalue' hvalue

/-! ## ALERT -/

theorem alertPort_iff : alertPort s = true ↔ ∃ p, (s.port p).state = .fault := by
  rw [alertPort, Bool.or_eq_true, beq_iff_eq, beq_iff_eq]
  constructor
  · rintro (h | h)
    · exact ⟨.sp1, h⟩
    · exact ⟨.sp2, h⟩
  · rintro ⟨p, h⟩
    cases p with
    | sp1 => exact .inl h
    | sp2 => exact .inr h

theorem alertKey_iff : alertKey s = true ↔ ∃ l, (s.line l).keyStuck = true := by
  rw [alertKey, Bool.or_eq_true]
  constructor
  · rintro (h | h)
    · exact ⟨.line0, h⟩
    · exact ⟨.line1, h⟩
  · rintro ⟨l, h⟩
    cases l with
    | line0 => exact .inl h
    | line1 => exact .inr h

theorem alertAsserted_iff (hrunning : s.running = true) :
    alertAsserted s = true
      ↔ strapFault s.straps = true ∨ (∃ p, (s.port p).state = .fault) ∨ s.gli.flowStopped = true
        ∨ (∃ c ∈ s.wsu.channels, c.fault = true) ∨ ∃ l, (s.line l).keyStuck = true := by
  have hstrap : alertStrap s = strapFault s.straps := by rw [alertStrap, hrunning, Bool.true_and]
  rw [alertAsserted, hrunning, Bool.true_and, Bool.or_eq_true, Bool.or_eq_true, Bool.or_eq_true, Bool.or_eq_true, hstrap,
    alertPort_iff, alertKey_iff, alertChannel, List.any_eq_true, or_assoc, or_assoc, or_assoc]

theorem bitAt_below_top (b : Bool) {i : Nat} (h : i < 7) : (bitAt i b).getLsbD 7 = false := by
  rcases (by omega : i = 0 ∨ i = 1 ∨ i = 2 ∨ i = 3 ∨ i = 4 ∨ i = 5 ∨ i = 6) with
    rfl | rfl | rfl | rfl | rfl | rfl | rfl
  all_goals
    cases b with
    | false => rfl
    | true => rfl

theorem bitAt_top (b : Bool) : (bitAt 7 b).getLsbD 7 = b := by
  cases b with
  | false => rfl
  | true => rfl

/-- R196, R198: bit 7 of the alert byte is ALERT. -/
theorem alertByte_top (s : State) : (alertByte s).getLsbD 7 = alertAsserted s := by
  unfold alertByte
  simp only [BitVec.getLsbD_or, bitAt_top, bitAt_below_top _ (show 0 < 7 by decide), bitAt_below_top _ (show 1 < 7 by decide),
    bitAt_below_top _ (show 2 < 7 by decide), bitAt_below_top _ (show 3 < 7 by decide),
    bitAt_below_top _ (show 4 < 7 by decide), Bool.false_or]

theorem alertField_mem (s : State) : field1 0x14 (alertByte s) ∈ statusFields s := by
  have hmem : field1 0x14 (alertByte s) ∈ identityFields s := by
    rw [identityFields]
    simp only [List.mem_cons, true_or, or_true]
  unfold statusFields
  simp only [List.mem_append, hmem, true_or]

/-! ## The read -/

theorem exec_statusByteRead (hrunning : s.running = true) :
    exec .statusByteRead s
      = .next { s with
          freeUses := s.freeUses + 1
          maint := { s.maint with
            driven := some (readByte s s.maint.readPtr.toNat).1, latch := (readByte s s.maint.readPtr.toNat).2
            readPtr := s.maint.readPtr + 1, justSet := false
            bank := if s.maint.readPtr = 0xEF then (s.maint.bank + 1) % 11 else s.maint.bank } } := if_pos hrunning

theorem readByte_of_latch {next b : Byte} {more : List Byte} {off : Nat} (h : s.maint.latch = some ⟨next, b :: more⟩)
    (hoff : next.toNat = off) : readByte s off = (b, if more = [] then none else some ⟨next + 1, more⟩) := by
  unfold readByte
  rw [h]
  dsimp only
  rw [if_pos hoff]
  cases more with
  | nil => rfl
  | cons x more => rfl

theorem readByte_of_none {off : Nat} (h : s.maint.latch = none) : readByte s off = captureByte s off := by
  unfold readByte
  rw [h]

theorem captureByte_of_none {off : Nat} (h : fieldAt s off = none) : captureByte s off = (0, none) := by
  rw [captureByte, h]

theorem captureByte_of_first {off : Nat} {f : Field} (h : fieldAt s off = some f) (hoff : f.off = off) :
    captureByte s off
      = (f.bytes.getD 0 0, if 2 ≤ f.bytes.length then some ⟨BitVec.ofNat 8 (f.off + 1), f.bytes.drop 1⟩ else none) := by
  subst hoff
  rw [captureByte, h]
  simp only [Nat.sub_self, decide_true, Bool.true_and, decide_eq_true_eq]

end

/-- Settles O59. -/
theorem maintenanceReadsTheTable : Obligations.MaintenanceReadsTheTable := by
  intro s hrunning
  refine ⟨fun value => exec_pointerWrite value hrunning, fun value h => ?_, fun hset hptr => ?_, alertAsserted_iff hrunning,
    ⟨_, alertField_mem s, rfl, _, rfl, alertByte_top s⟩, _, exec_statusByteRead hrunning, ?_, rfl, rfl, rfl,
    fun next b more hlatch hnext => ?_, fun hlatch hfield => ?_, fun f hlatch hfield hoff => ?_⟩
  · rw [exec_ignoredWriteByte value hrunning, takeDataByte_of_other h]
  · rw [exec_ignoredWriteByte 0xA5 hrunning, exec_counterClear hrunning]
  · intro q hq
    cases q with
    | maint => exact absurd (by decide) hq
    | freeUses => exact absurd (by decide) hq
    | _ => rfl
  · have hread := readByte_of_latch hlatch (congrArg BitVec.toNat hnext)
    exact ⟨congrArg some (congrArg Prod.fst hread), congrArg Prod.snd hread⟩
  · have hread := (readByte_of_none hlatch).trans (captureByte_of_none hfield)
    exact ⟨congrArg some (congrArg Prod.fst hread), congrArg Prod.snd hread⟩
  · have hread := (readByte_of_none hlatch).trans (captureByte_of_first hfield hoff)
    exact ⟨congrArg some (congrArg Prod.fst hread), congrArg Prod.snd hread⟩

theorem satInc_of_room {w : Nat} {n : BitVec w} (h : n.toNat + 1 < 2 ^ w) : (satInc n).toNat = n.toNat + 1 := by
  have hne : n ≠ BitVec.allOnes w := by
    intro heq
    rw [heq, BitVec.toNat_allOnes] at h
    omega
  rw [satInc, if_neg hne, BitVec.toNat_add, show (1 : BitVec w).toNat = 1 % 2 ^ w from rfl,
    Nat.mod_eq_of_lt (show 1 < 2 ^ w by omega), Nat.mod_eq_of_lt h]

theorem satInc_of_full {w : Nat} {n : BitVec w} (h : n.toNat + 1 = 2 ^ w) : satInc n = n := by
  refine if_pos (BitVec.eq_of_toNat_eq ?_)
  rw [BitVec.toNat_allOnes]
  omega

/-- Settles O60. -/
theorem counterClearSetsEveryCountToZero : Obligations.CounterClearSetsEveryCountToZero := by
  intro s hrunning
  refine ⟨fun hset hptr => ?_, ⟨_, exec_pointerWrite 0xF0 hrunning, rfl, rfl, rfl, _,
    exec_counterClear (s := { s with maint := { s.maint with readPtr := 0xF0, latch := none, justSet := true } }) hrunning,
    ?_⟩, fun w n => ⟨satInc_of_room, satInc_of_full⟩⟩
  · rw [exec_counterClear hrunning, takeDataByte_of_clear hset hptr]
    rfl
  · rw [takeDataByte_of_clear rfl rfl]
    rfl

end Sys2Proof.Machine
end

section
/-! PROOFS. SIGN commands: waiting, the window, the pixels, the claims and the dim mode, each with its reply (O45, O46, O47). -/

set_option Elab.async false

namespace Sys2Proof.Machine

section
variable {s u : State} {x : SignTask} {rest : List SignTask} {y : Sps} {c : Cell} {d : Side}

/-! ## Offers, seen from the tests -/

/-- R45: the tests of a cell that is neither LINK nor VOICE. -/
theorem offerAnswer_taken_iff (hlink : cellClass c ≠ .link) (hvoice : c.kind ≠ .voice) :
    offerAnswer s d c = .taken ↔ takesLocal s d (cellClass c) = true := by
  refine ⟨fun h => ?_, fun h => offer_taken s d c h hvoice⟩
  have hfloor := floor_of_taken h hlink
  have hservice : s.inService d = true := by
    rw [← Bool.not_eq_false]
    intro hout
    rw [offerAnswer, hout] at h
    cases h
  have hroom : (insQueue (s.side d) (cellClass c)).length < insCapacity (cellClass c) := by
    rw [← Nat.not_le]
    intro hfull
    rw [offerAnswer, hservice, Bool.not_true, if_neg Bool.false_ne_true, if_pos hfull] at h
    cases h
  rw [takesLocal, hservice, decide_eq_true hroom, decide_eq_true hfloor]
  rfl

/-! ## The state a command answers from -/

theorem poolFree_withSps (h : y.waiting = s.sps.waiting) : State.poolFree { s with sps := y } = s.poolFree := by
  rw [poolFree_eq, poolFree_eq, poolHeld_eq, poolHeld_eq]
  change 512 - (_ + y.waiting.length + _) = _
  rw [h]
  rfl

theorem takesLocal_withSps (h : y.waiting = s.sps.waiting) (d : Side) (k : Class) :
    takesLocal { s with sps := y } d k = takesLocal s d k := by
  rw [takesLocal, takesLocal, poolFree_withSps h]
  rfl

theorem replyTaken_withSps (h : y.waiting = s.sps.waiting) (side : Option Side) :
    replyTaken { s with sps := y } side = replyTaken s side := by
  cases side with
  | some d => exact takesLocal_withSps h d .sign
  | none =>
    rw [replyTaken, replyTaken]
    dsimp only
    rw [poolFree_withSps h]

/-! ## The reply -/

/-- The sign with a reply counted lost where it was not taken. -/
def replyCounted (taken : Bool) (y : Sps) : Sps :=
  { y with
    counts := { y.counts with repliesLost := if taken then y.counts.repliesLost else satInc y.counts.repliesLost } }

theorem offerReply_counted (side : Option Side) (hkind : c.kind = .signReply) :
    (offerReply s side c).sps = replyCounted (replyTaken s side) s.sps := by
  have hclass : cellClass c = .sign := by rw [cellClass, hkind]; rfl
  cases side with
  | some d =>
    have hsps : (offerEffect s d c).sps = s.sps := within_offerEffect s d c .sps (by decide)
    have htaken : offerAnswer s d c = .taken ↔ replyTaken s (some d) = true := by
      rw [offerAnswer_taken_iff (by rw [hclass]; decide) (by rw [hkind]; decide), hclass]
      exact Iff.rfl
    unfold offerReply
    dsimp only
    cases hreply : replyTaken s (some d) with
    | true =>
      rw [if_pos (beq_iff_eq.2 (htaken.2 hreply)), hsps]
      rfl
    | false =>
      rw [if_neg (fun h => Bool.false_ne_true (hreply.symm.trans (htaken.1 (beq_iff_eq.1 h)))), countReplyLost, State.countSps,
        hsps]
      rfl
  | none =>
    have hsps : (answerToOffice s c).sps = s.sps := within_answerToOffice s c .sps (by decide)
    have htaken : answerAccepted s (cellClass c) = replyTaken s none := by rw [hclass]; rfl
    unfold offerReply
    dsimp only
    rw [htaken]
    cases hreply : replyTaken s none with
    | true =>
      rw [if_pos rfl, hsps]
      rfl
    | false =>
      rw [if_neg Bool.false_ne_true, countReplyLost, State.countSps, hsps]
      rfl

/-- R131: a reply that its arrival side takes stands last there. -/
theorem offerReply_side (hkind : c.kind = .signReply) (h : takesLocal s d .sign = true) :
    ((offerReply s (some d) c).side d).insSign = (s.side d).insSign ++ [c] := by
  have hclass : cellClass c = .sign := by rw [cellClass, hkind]; rfl
  have htaken : offerAnswer s d c = .taken := offer_taken s d c (by rw [hclass]; exact h) (by rw [hkind]; decide)
  have hpush : insPush (s.side d) c = { s.side d with insSign := (s.side d).insSign ++ [c] } := by
    unfold insPush
    rw [hclass]
  unfold offerReply
  dsimp only
  rw [if_pos (beq_iff_eq.2 htaken), (offerEffect_taken s d c htaken).1, hpush]

theorem countReason_repliesLost (n : SpsCounts) (r : SignReason) : (countReason n r).repliesLost = n.repliesLost := by
  cases r with
  | _ => rfl

/-- What a command answered with reason `r` leaves of the sign `y` it was answered from. -/
def answeredSps (s : State) (x : SignTask) (rest : List SignTask) (y : Sps) (r : SignReason) : Sps :=
  { y with
    waiting := rest, job := none
    counts := { countReason y.counts r with
      repliesLost := if replyTaken s x.side then y.counts.repliesLost else satInc y.counts.repliesLost } }

/-- R130, R131: the command at the head of `s` answered, the sign having become `y`. -/
theorem finishTask_answers (hs : s.sps.waiting = x :: rest) (hy : y.waiting = s.sps.waiting) (r : SignReason) (written : Nat) :
    (ended u (finishTask { s with sps := y } x r written)).sps = answeredSps s x rest y r
      ∧ answeredWith s (ended u (finishTask { s with sps := y } x r written)) x rest r written := by
  have hdrop : y.waiting.drop 1 = rest := by rw [hy, hs]; rfl
  have hreply : (finishTask { s with sps := y } x r written).sps = answeredSps s x rest y r := by
    have hcounted := offerReply_counted (s := { s with sps := { y with counts := countReason y.counts r } }) x.side
      (c := replyCell { s with sps := { y with counts := countReason y.counts r } } x.cell r written) rfl
    rw [replyTaken_withSps (y := { y with counts := countReason y.counts r }) hy, replyCounted, countReason_repliesLost]
      at hcounted
    have hfinish (w : Sps) (hw : (offerReply { s with sps := { y with counts := countReason y.counts r } } x.side
        (replyCell { s with sps := { y with counts := countReason y.counts r } } x.cell r written)).sps = w) :
        (finishTask { s with sps := y } x r written).sps = { w with waiting := w.waiting.drop 1, job := none } := by
      rw [← hw]
      rfl
    rw [hfinish _ hcounted, answeredSps, ← hdrop]
  refine ⟨by rw [ended_sps, hreply], ?_⟩
  unfold answeredWith
  rw [ended_sps, hreply]
  refine ⟨rfl, rfl, fun d hside htakes => ?_⟩
  have hoffered := offerReply_side (s := { s with sps := { y with counts := countReason y.counts r } }) (d := d)
    (c := replyCell { s with sps := { y with counts := countReason y.counts r } } x.cell r written) rfl
    ((takesLocal_withSps hy d .sign).trans htakes)
  rw [ended_side, finishTask, hside]
  exact hoffered

/-- The sign with the command at its head counted. -/
def commandCounted (y : Sps) : Sps := { y with counts := { y.counts with signCommands := satInc y.counts.signCommands } }

/-- R130, R131, R150: the same of a command counted on the way, where no pixels are being written. -/
theorem finishTask_command (hs : s.sps.waiting = x :: rest) (hy : y.waiting = s.sps.waiting) (hjob : y.job = none)
    (hcounts : y.counts = (commandCounted s.sps).counts) (r : SignReason) (written : Nat) :
    (ended u (finishTask { s with sps := y } x r written)).sps
        = { y with waiting := rest, counts := answeredCounts s x (countReason s.sps.counts r) }
      ∧ answeredWith s (ended u (finishTask { s with sps := y } x r written)) x rest r written := by
  obtain ⟨hsps, hanswered⟩ := finishTask_answers (u := u) hs hy r written
  refine ⟨hsps.trans ?_, hanswered⟩
  have hreason : ({ countReason (commandCounted s.sps).counts r with
      repliesLost := if replyTaken s x.side then (commandCounted s.sps).counts.repliesLost
        else satInc (commandCounted s.sps).counts.repliesLost } : SpsCounts)
      = answeredCounts s x (countReason s.sps.counts r) := by
    cases r with
    | _ => rfl
  rw [answeredSps, hcounts, hreason, ← hjob]

/-- R130: the command of kind `k` at the head runs on the sign that has counted it. -/
theorem takeTask_runs {k : Kind} {act : State → SignTask → State} (hworks : s.signWorks = true) (hjob : s.sps.job = none)
    (hs : s.sps.waiting = x :: rest) (hkind : x.cell.kind = k) :
    takeTask s k act = .next (ended s (act { s with sps := commandCounted s.sps } x)) :=
  (takeTask_head hworks hjob hs hkind).trans (done_ended _ _)

end

section
variable {s : State} {p : Port} {c : CellData} {x : Cell} {a : Side}

/-! ## Consumption -/

/-- R8: a cell consumed here goes no further. -/
theorem carriage_of_consumed (h : consumedHere s x.target = true) : carriage s x = .consume := by
  simp only [consumedHere, Bool.or_eq_true, Bool.and_eq_true, beq_iff_eq] at h
  by_cases hown : x.target = s.station
  · exact if_pos hown
  · obtain ⟨hgw, hfar⟩ := h.resolve_left hown
    have hout : (decide (x.target = anyGateway) || decide (x.target = allStations)) = true := by
      rw [Bool.or_eq_true, decide_eq_true_eq, decide_eq_true_eq]
      exact hfar
    rw [carriage, if_neg hown, hgw, hout]
    rfl

/-- R8, R9: a granted data cell consumed here reaches its consumer. -/
theorem exec_data_consumed {i : Instr} {k : Kind} (h : (i, k) ∈ dataCommands p c)
    (hgrant : cellGranted s p (cellOf k c) = true) (hhere : consumedHere s c.target = true) :
    ∃ u, exec i s = .next (ended s (consumerOf k c (s.sideOf p) (met s p u))) ∧ Admitted s p u := by
  obtain ⟨u, hexec, hu⟩ := exec_data_granted h hgrant
  rw [carry_of_consume (s := met s p u) (carriage_of_consumed (x := cellOf k c) hhere)] at hexec
  exact ⟨u, hexec, hu⟩

theorem mem_dataCommands_sign (p : Port) (k : SignCommand) (c : CellData) :
    (Instr.signCommandConsumed p k c, signKind k) ∈ dataCommands p c := by
  cases k with
  | _ => simp [dataCommands, signKind]

theorem consumerOf_sign (k : SignCommand) (c : CellData) (a : Side) (s : State) :
    consumerOf (signKind k) c a s = consumeSign a (cellOf (signKind k) c) s := by
  cases k with
  | _ => rfl

/-! ## Windows and pixel counts -/

theorem windowOk_iff :
    windowOk c = true
      ↔ c.length = 4 ∧ c.aux7.toNat ≤ 3 ∧ (payloadByte c 0).toNat ≤ (payloadByte c 1).toNat
        ∧ (payloadByte c 1).toNat ≤ 127 ∧ (payloadByte c 2).toNat ≤ (payloadByte c 3).toNat
        ∧ (payloadByte c 3).toNat ≤ 31 := by
  simp only [windowOk, Bool.and_eq_true, beq_iff_eq, decide_eq_true_eq, and_assoc]

theorem pixelsOk_iff :
    pixelsOk c = true
      ↔ 1 ≤ 256 * c.aux6.toNat + c.aux7.toNat ∧ 256 * c.aux6.toNat + c.aux7.toNat ≤ 192
        ∧ (256 * c.aux6.toNat + c.aux7.toNat + 3) / 4 ≤ c.length.toNat := by
  rw [pixelsOk, pixelCount, Bool.and_eq_true, Bool.and_eq_true, decide_eq_true_eq, decide_eq_true_eq, decide_eq_true_eq,
    and_assoc]

theorem takeWindow_of_ok {s : State} {y : Sps} {x : SignTask} (h : windowOk x.cell.toCellData = true) :
    takeWindow { s with sps := y } x = finishTask { s with sps := setWindow y x.cell.toCellData } x .ok 0 := if_pos h

theorem takeWindow_of_bad {x : SignTask} (h : ¬ windowOk x.cell.toCellData = true) :
    takeWindow s x = finishTask s x .badWindow 0 := if_neg h

theorem takePixels_of_ok {s : State} {y : Sps} {x : SignTask} (h : pixelsOk x.cell.toCellData = true) :
    takePixels { s with sps := y } x = { s with sps := { y with job := some 0 } } := if_pos h

theorem takePixels_of_bad {x : SignTask} (h : ¬ pixelsOk x.cell.toCellData = true) :
    takePixels s x = finishTask s x .badWindow 0 := if_neg h

end

/-- Settles O45. -/
theorem signCommandsWaitAndSetTheWindow : Obligations.SignCommandsWaitAndSetTheWindow := by
  refine ⟨fun p k c s hgrant hhere => ⟨fun hfitted => ?_, fun hfitted => ?_⟩,
    fun x rest s hworks hjob hs => ⟨fun hkind => ?_, fun hkind => ?_⟩⟩
  · obtain ⟨u, hexec, hu⟩ := exec_data_consumed (mem_dataCommands_sign p k c) hgrant hhere
    rw [consumerOf_sign, consumeSign, if_pos (by exact hfitted)] at hexec
    have hwithin : Within [.inHand, .ports, .sps] s { met s p u with
        inHand := 0
        sps := { s.sps with waiting := s.sps.waiting ++ [{ cell := cellOf (signKind k) c, side := some (s.sideOf p) }] } } :=
      (within_met s p u).seq ((within_withInHand (met s p u) 0).seq (parts := [.inHand, .sps]) (within_withSps _ _))
    exact ⟨_, hexec, within_ended (parts := [.inHand, .ports, .sps]) hwithin, ended_inHand _ _, by rw [ended_sps]; rfl⟩
  · obtain ⟨u, hexec, hu⟩ := exec_data_consumed (mem_dataCommands_sign p k c) hgrant hhere
    rw [consumerOf_sign, consumeSign, if_neg (by rw [met_straps, hfitted]; exact Bool.false_ne_true)] at hexec
    exact ⟨_, hexec, dropped_counts (f := fun n => { n with noConsumer := satInc n.noConsumer }) (within_met s p u)⟩
  · have hexec := takeTask_runs (act := takeWindow) hworks hjob hs hkind
    by_cases hwindow : windowOk x.cell.toCellData = true
    · rw [takeWindow_of_ok hwindow] at hexec
      obtain ⟨hsps, hanswered⟩ := finishTask_command (u := s) (y := setWindow (commandCounted s.sps) x.cell.toCellData)
        hs rfl hjob rfl .ok 0
      exact ⟨_, _, hexec, rfl, fun _ => ⟨hsps, hanswered⟩, fun hno => absurd (windowOk_iff.1 hwindow) hno⟩
    · rw [takeWindow_of_bad hwindow] at hexec
      obtain ⟨hsps, hanswered⟩ := finishTask_command (u := s) (y := commandCounted s.sps) hs rfl hjob rfl .badWindow 0
      exact ⟨_, _, hexec, rfl, fun hyes => absurd (windowOk_iff.2 hyes) hwindow, fun _ => ⟨hsps, rfl, hanswered⟩⟩
  · have hexec := takeTask_runs (act := takePixels) hworks hjob hs hkind
    by_cases hpixels : pixelsOk x.cell.toCellData = true
    · rw [takePixels_of_ok hpixels] at hexec
      exact ⟨_, (commandCounted s.sps).counts, hexec, rfl, fun _ => by rw [ended_sps]; rfl,
        fun hno => absurd (pixelsOk_iff.1 hpixels) hno⟩
    · rw [takePixels_of_bad hpixels] at hexec
      obtain ⟨hsps, hanswered⟩ := finishTask_command (u := s) (y := commandCounted s.sps) hs rfl hjob rfl .badWindow 0
      exact ⟨_, _, hexec, rfl, fun hyes => absurd (pixelsOk_iff.2 hyes) hpixels, fun _ => ⟨hsps, rfl, hanswered⟩⟩

section
variable {s u : State} {x : SignTask} {rest : List SignTask} {k : Nat}

/-! ## Pixels -/

theorem exec_pixelWrite (hworks : s.signWorks = true) (hjob : s.sps.job = some k) (hs : s.sps.waiting = x :: rest) :
    exec .pixelWrite s = .next (ended s (pixelStep s x k)) := by
  refine exec_done _ ?_
  rw [show exec .pixelWrite s = execPixelWrite s from rfl, execPixelWrite, if_pos hworks, hjob, hs]

/-- R133: the column and the row at which pixel `k` of a cell is written. -/
theorem writeCursor_eq (y : Sps) (c : CellData) (k : Nat) :
    writeCursor y c k
      = (if k = 0 ∧ c.flags.getLsbD 0 = true then y.c0 else y.curCol,
          if k = 0 ∧ c.flags.getLsbD 0 = true then y.r0 else y.curRow) := by
  by_cases h : k = 0 ∧ c.flags.getLsbD 0 = true
  · rw [if_pos h, if_pos h]
    exact if_pos (by rw [Bool.and_eq_true, decide_eq_true_eq]; exact h)
  · rw [if_neg h, if_neg h]
    exact if_neg (by rw [Bool.and_eq_true, decide_eq_true_eq]; exact h)

/-- R134: the cursor moves on through the window. -/
theorem cursorAfter_eq (y : Sps) (col row : Nat) :
    cursorAfter y (col, row)
      = (if col < y.c1 then col + 1 else y.c0, if col < y.c1 then row else if row < y.r1 then row + 1 else y.r0) := by
  unfold cursorAfter
  dsimp only
  by_cases hcol : col < y.c1
  · rw [if_pos hcol, if_pos hcol, if_pos hcol]
  · rw [if_neg hcol, if_neg hcol, if_neg hcol]
    by_cases hrow : row < y.r1
    · rw [if_pos hrow, if_pos hrow]
    · rw [if_neg hrow, if_neg hrow]

/-- R134: a pixel written changes that pixel alone. -/
theorem writePixel_pages (y : Sps) (c : CellData) (k a : Nat) (hwf : Memory.wf y.pages = true) :
    Memory.read (writePixel y c k).pages a
      = if a = pixelAddress y.winPage (writeCursor y c k).1 (writeCursor y c k).2 then pixelAt c k
        else Memory.read y.pages a := Memory.read_write _ _ _ _ hwf

theorem pixelStep_of_shown (h : pageShown s.sps = true) : pixelStep s x k = finishTask s x .shown k := if_pos h

theorem pixelStep_of_more (h : ¬ pageShown s.sps = true) (hmore : k + 1 < pixelCount x.cell.toCellData) :
    pixelStep s x k = { s with sps := writePixel s.sps x.cell.toCellData k } := by
  rw [pixelStep, if_neg h, if_pos hmore]

theorem pixelStep_of_last (h : ¬ pageShown s.sps = true) (hlast : ¬ k + 1 < pixelCount x.cell.toCellData) :
    pixelStep s x k = finishTask { s with sps := writePixel s.sps x.cell.toCellData k } x .ok (k + 1) := by
  rw [pixelStep, if_neg h, if_neg hlast]

end

/-- Settles O46. -/
theorem pixelsAreWrittenThroughTheWindow : Obligations.PixelsAreWrittenThroughTheWindow := by
  intro x rest k s hworks hjob hs hwf c start col row total shown
  have hexec := exec_pixelWrite hworks hjob hs
  refine ⟨fun hshown => ?_, fun hfree => ?_⟩
  · obtain ⟨hsps, hanswered⟩ := finishTask_answers (u := s) (y := s.sps) hs rfl .shown k
    rw [pixelStep_of_shown (pageShown_iff.2 hshown)] at hexec
    exact ⟨_, _, hexec, hsps, rfl, hanswered⟩
  · have hblank : ¬ pageShown s.sps = true := fun h => hfree (pageShown_iff.1 h)
    have hcursor : writeCursor s.sps c k = (col, row) := writeCursor_eq s.sps c k
    have hafter := cursorAfter_eq s.sps col row
    have hcol : (cursorAfter s.sps (writeCursor s.sps c k)).1 = if col < s.sps.c1 then col + 1 else s.sps.c0 := by
      rw [hcursor, hafter]
    have hrow : (cursorAfter s.sps (writeCursor s.sps c k)).2
        = if col < s.sps.c1 then row else if row < s.sps.r1 then row + 1 else s.sps.r0 := by
      rw [hcursor, hafter]
    have hpages (a : Nat) : Memory.read (writePixel s.sps c k).pages a
        = if a = 4096 * s.sps.winPage + 128 * row + col then (payloadByte c (k / 4) >>> (6 - 2 * (k % 4))) &&& 3
          else Memory.read s.sps.pages a := by
      rw [writePixel_pages s.sps c k a hwf, hcursor]
      rfl
    have hwritten : writePixel s.sps c k
        = { s.sps with
            pages := (writePixel s.sps c k).pages
            curCol := if col < s.sps.c1 then col + 1 else s.sps.c0
            curRow := if col < s.sps.c1 then row else if row < s.sps.r1 then row + 1 else s.sps.r0
            job := some (k + 1)
            counts := { s.sps.counts with pixelsWritten := satInc s.sps.counts.pixelsWritten } } := by
      rw [← hcol, ← hrow]
      rfl
    by_cases hmore : k + 1 < total
    · rw [pixelStep_of_more hblank hmore] at hexec
      refine ⟨_, { s.sps.counts with pixelsWritten := satInc s.sps.counts.pixelsWritten }, hexec, ?_⟩
      rw [ended_sps, if_pos hmore, if_pos hmore]
      exact ⟨hpages, hwritten, rfl, fun hdone => absurd hmore (Nat.not_lt.2 hdone)⟩
    · rw [pixelStep_of_last hblank hmore] at hexec
      obtain ⟨hsps, hanswered⟩ := finishTask_answers (u := s) (y := writePixel s.sps c k) hs rfl .ok (k + 1)
      refine ⟨_, { s.sps.counts with
        pixelsWritten := satInc s.sps.counts.pixelsWritten
        repliesLost := if replyTaken s x.side then s.sps.counts.repliesLost else satInc s.sps.counts.repliesLost },
        hexec, ?_⟩
      rw [hsps, if_neg hmore, if_neg hmore]
      refine ⟨hpages, ?_, rfl, fun _ => hanswered⟩
      rw [answeredSps, hwritten]
      rfl

section
variable {s u : State} {x : SignTask} {rest : List SignTask} {y : Sps}

/-! ## SHOW, CLEAR and DIM -/

theorem showOperand_of {b : Byte} {r : RemotePage}
    (h : b = 0 ∧ r = .page0 ∨ b = 1 ∧ r = .page1 ∨ b = 255 ∧ r = .noPage) : showOperand b = some r := by
  rcases h with ⟨rfl, rfl⟩ | ⟨rfl, rfl⟩ | ⟨rfl, rfl⟩
  · rfl
  · rfl
  · rfl

theorem showOperand_of_other {b : Byte} (h0 : b ≠ 0) (h1 : b ≠ 1) (h255 : b ≠ 255) : showOperand b = none := by
  rw [showOperand, if_neg h0, if_neg h1, if_neg (by exact h255)]

theorem takeShow_of_page {r : RemotePage} (h : showOperand x.cell.aux7 = some r) :
    takeShow { s with sps := y } x = finishTask { s with sps := { y with remote := some r } } x .ok 0 := by
  rw [takeShow, h]

theorem takeShow_of_none (h : showOperand x.cell.aux7 = none) : takeShow s x = finishTask s x .badPage 0 := by
  rw [takeShow, h]

theorem takeClear_of_incident (h : x.cell.aux7 = 1) :
    takeClear { s with sps := y } x = finishTask { s with sps := { y with incident := false } } x .ok 0 := if_pos h

theorem takeClear_of_active (h : x.cell.aux7 = 2) (henabled : hazardEnabled s.straps = true) (hreasons : y.reasonsActive = true) :
    takeClear { s with sps := y } x = finishTask { s with sps := y } x .active 0 := by
  have hno : ¬ x.cell.aux7 = 1 := by rw [h]; decide
  rw [takeClear, if_neg hno, if_pos h, if_pos (by rw [henabled, hreasons]; rfl)]

theorem takeClear_of_hazard (h : x.cell.aux7 = 2) (hquiet : hazardEnabled s.straps = false ∨ y.reasonsActive = false) :
    takeClear { s with sps := y } x
      = finishTask { s with sps := { y with hazard := false, hazardHold := none } } x .ok 0 := by
  have hno : ¬ x.cell.aux7 = 1 := by rw [h]; decide
  have hoff : ¬ (hazardEnabled s.straps && y.reasonsActive) = true := by
    rw [Bool.not_eq_true, Bool.and_eq_false_iff]
    exact hquiet
  rw [takeClear, if_neg hno, if_pos h, if_neg hoff]

theorem takeClear_of_remote (h : x.cell.aux7 = 3) :
    takeClear { s with sps := y } x = finishTask { s with sps := { y with remote := none } } x .ok 0 := by
  have hno1 : ¬ x.cell.aux7 = 1 := by rw [h]; decide
  have hno2 : ¬ x.cell.aux7 = 2 := by rw [h]; decide
  rw [takeClear, if_neg hno1, if_neg hno2, if_pos h]

theorem takeClear_of_other (h1 : x.cell.aux7 ≠ 1) (h2 : x.cell.aux7 ≠ 2) (h3 : x.cell.aux7 ≠ 3) :
    takeClear s x = finishTask s x .badPage 0 := by
  rw [takeClear, if_neg h1, if_neg h2, if_neg h3]

theorem takeDim_of_fixed (h : x.cell.aux7 = 0) (hlength : x.cell.length ≠ 0) :
    takeDim { s with sps := y } x
      = finishTask { s with sps := { y with
          dim := .fixed (payloadByte x.cell.toCellData 0), level := payloadByte x.cell.toCellData 0 } } x .ok 0 :=
  takeDim_fixed _ h hlength

theorem takeDim_of_auto (h : x.cell.aux7 = 1) :
    takeDim { s with sps := y } x = finishTask { s with sps := { y with dim := .auto } } x .ok 0 := by
  have hno : ¬ (decide (x.cell.aux7 = 0) && x.cell.length != 0) = true := by rw [h]; exact Bool.false_ne_true
  rw [takeDim, if_neg hno, if_pos h]

theorem takeDim_of_bad (h : x.cell.aux7 = 0 ∧ x.cell.length = 0 ∨ (x.cell.aux7 ≠ 0 ∧ x.cell.aux7 ≠ 1)) :
    takeDim s x = finishTask s x .badPage 0 := by
  have hno : ¬ (decide (x.cell.aux7 = 0) && x.cell.length != 0) = true := by
    rw [Bool.and_eq_true, decide_eq_true_eq, bne_iff_ne]
    rintro ⟨hzero, hlength⟩
    rcases h with ⟨_, hempty⟩ | ⟨hother, _⟩
    · exact hlength hempty
    · exact hother hzero
  have hone : x.cell.aux7 ≠ 1 := by
    rcases h with ⟨hzero, _⟩ | ⟨_, hother⟩
    · rw [hzero]
      decide
    · exact hother
  rw [takeDim, if_neg hno, if_neg hone]

end

/-- Settles O47. -/
theorem showClearAndDimAreAnswered : Obligations.ShowClearAndDimAreAnswered := by
  intro x rest s hworks hjob hs b level n ok badPage active
  have hbad := finishTask_command (u := s) (y := commandCounted s.sps) hs rfl hjob rfl .badPage 0
  refine ⟨fun hkind => ?_, fun hkind => ?_, fun hkind => ?_⟩
  · refine ⟨_, takeTask_runs (act := takeShow) hworks hjob hs hkind, fun r hr => ?_, fun h0 h1 h255 => ?_⟩
    · rw [takeShow_of_page (showOperand_of hr)]
      exact finishTask_command (u := s) (y := { commandCounted s.sps with remote := some r }) hs rfl hjob rfl .ok 0
    · rw [takeShow_of_none (showOperand_of_other h0 h1 h255)]
      exact hbad
  · refine ⟨_, takeTask_runs (act := takeClear) hworks hjob hs hkind, fun h => ?_, fun h henabled hreasons => ?_,
      fun h hquiet => ?_, fun h => ?_, fun h1 h2 h3 => ?_⟩
    · rw [takeClear_of_incident h]
      exact finishTask_command (u := s) (y := { commandCounted s.sps with incident := false }) hs rfl hjob rfl .ok 0
    · rw [takeClear_of_active (y := commandCounted s.sps) h henabled hreasons]
      exact finishTask_command (u := s) (y := commandCounted s.sps) hs rfl hjob rfl .active 0
    · rw [takeClear_of_hazard (y := commandCounted s.sps) h hquiet]
      exact finishTask_command (u := s) (y := { commandCounted s.sps with hazard := false, hazardHold := none })
        hs rfl hjob rfl .ok 0
    · rw [takeClear_of_remote h]
      exact finishTask_command (u := s) (y := { commandCounted s.sps with remote := none }) hs rfl hjob rfl .ok 0
    · rw [takeClear_of_other h1 h2 h3]
      exact hbad
  · refine ⟨_, takeTask_runs (act := takeDim) hworks hjob hs hkind, fun h hlength => ?_, fun h => ?_, fun h => ?_⟩
    · rw [takeDim_of_fixed h hlength]
      exact finishTask_command (u := s) (y := { commandCounted s.sps with dim := .fixed level, level := level })
        hs rfl hjob rfl .ok 0
    · rw [takeDim_of_auto h]
      exact finishTask_command (u := s) (y := { commandCounted s.sps with dim := .auto }) hs rfl hjob rfl .ok 0
    · rw [takeDim_of_bad h]
      exact hbad

end Sys2Proof.Machine
end

section
/-! PROOFS. The gateway: the acceptance of tolls, beacons and the office link (O44, O57). -/

set_option Elab.async false

namespace Sys2Proof.Machine

section
variable {s : State} {p : Port} {a d : Side} {c : CellData} {x : Cell} {e : Acceptance} {q : Half}

/-! ## The class of a record -/

theorem tollClass_of_none : tollClass none q = .new 0 := rfl

theorem tollClass_of_behind (h : 32768 ≤ (q - e.base).toNat) : tollClass (some e) q = .behind := if_pos h

theorem tollClass_of_ahead (hnear : (q - e.base).toNat < 32768) (hfar : 32 ≤ (q - e.base).toNat) :
    tollClass (some e) q = .ahead (q - e.base).toNat := by
  rw [tollClass, if_neg (Nat.not_le.2 hnear), if_pos hfar]

theorem tollClass_of_duplicate (h : (q - e.base).toNat < 32) (hset : e.flags.getLsbD (q - e.base).toNat = true) :
    tollClass (some e) q = .duplicate := by
  rw [tollClass, if_neg (by omega), if_neg (by omega), if_pos hset]

theorem tollClass_of_new (h : (q - e.base).toNat < 32) (hclear : e.flags.getLsbD (q - e.base).toNat = false) :
    tollClass (some e) q = .new (q - e.base).toNat := by
  rw [tollClass, if_neg (by omega), if_neg (by omega), if_neg (by rw [hclear]; exact Bool.false_ne_true)]

/-! ## The window -/

/-- R178, step 3: the base moves past the set flags at the bottom. -/
theorem advanceBase_moves (n : Nat) : ∀ e : Acceptance,
    ∃ j, j ≤ n ∧ (∀ i, i < j → e.flags.getLsbD i = true) ∧ (j < n → e.flags.getLsbD j = false)
      ∧ advanceBase n e = { e with base := e.base + BitVec.ofNat 16 j, flags := e.flags >>> j } := by
  induction n with
  | zero =>
    intro e
    refine ⟨0, Nat.le_refl 0, fun i hi => absurd hi (Nat.not_lt_zero i), fun h => absurd h (Nat.lt_irrefl 0), ?_⟩
    rw [advanceBase, show BitVec.ofNat 16 0 = 0#16 from rfl, BitVec.add_zero, BitVec.ushiftRight_zero]
  | succ n ih =>
    intro e
    unfold advanceBase
    split
    · next hset =>
      obtain ⟨j, hj, hbelow, hstop, heq⟩ := ih { e with base := e.base + 1, flags := e.flags >>> 1 }
      refine ⟨j + 1, Nat.succ_le_succ hj, fun i hi => ?_, fun hlt => ?_, ?_⟩
      · cases i with
        | zero => exact hset
        | succ i =>
          have hbit := hbelow i (Nat.lt_of_succ_lt_succ hi)
          rwa [BitVec.getLsbD_ushiftRight, Nat.add_comm] at hbit
      · have hbit := hstop (Nat.lt_of_succ_lt_succ hlt)
        rwa [BitVec.getLsbD_ushiftRight, Nat.add_comm] at hbit
      · rw [heq]
        have hbase : e.base + 1 + BitVec.ofNat 16 j = e.base + BitVec.ofNat 16 (j + 1) := by
          rw [BitVec.add_assoc, BitVec.add_comm 1, BitVec.ofNat_add]
          rfl
        have hflags : e.flags >>> 1 >>> j = e.flags >>> (j + 1) := by
          rw [← BitVec.shiftRight_add, Nat.add_comm]
        dsimp only
        rw [hbase, hflags]
    · next hclear =>
      refine ⟨0, Nat.zero_le _, fun i hi => absurd hi (Nat.not_lt_zero i), fun _ => Bool.eq_false_iff.2 hclear, ?_⟩
      rw [show BitVec.ofNat 16 0 = 0#16 from rfl, BitVec.add_zero, BitVec.ushiftRight_zero]

theorem flagged_advanced (e : Acceptance) (n : Nat) : advancedTo e (e.flags ||| BitVec.ofNat 32 (2 ^ n)) (flagged e n) :=
  advanceBase_moves 32 { e with flags := e.flags ||| BitVec.ofNat 32 (2 ^ n) }

theorem flagged_station (e : Acceptance) (n : Nat) : (flagged e n).station = e.station := by
  obtain ⟨j, _, _, _, heq⟩ := flagged_advanced e n
  rw [heq]

/-- R178: a station's first record leaves its base one on. -/
theorem flagged_first (station : Byte) (q : Half) :
    flagged { station := station, base := q, flags := 0 } 0 = { station := station, base := q + 1, flags := 0 } := by
  have hflag : (0 : BitVec 32) ||| BitVec.ofNat 32 (2 ^ 0) = 1 := by decide
  have hset : (1 : BitVec 32).getLsbD 0 = true := by decide
  have hclear : ¬ (0 : BitVec 32).getLsbD 0 = true := by decide
  have hshift : (1 : BitVec 32) >>> 1 = 0 := by decide
  have hmoves : advanceBase (31 + 1) { station := station, base := q, flags := 1 }
      = advanceBase (30 + 1) { station := station, base := q + 1, flags := 0 } := by
    rw [advanceBase, if_pos hset, hshift]
  have hstops : advanceBase (30 + 1) { station := station, base := q + 1, flags := 0 }
      = { station := station, base := q + 1, flags := 0 } := by
    rw [advanceBase, if_neg hclear]
  rw [flagged, hflag, hmoves, hstops]

theorem countP_eq_filter_length (flags : BitVec 32) (n : Nat) :
    (List.range n).countP (fun i => !flags.getLsbD i) = ((List.range n).filter (fun i => !flags.getLsbD i)).length :=
  List.countP_eq_length_filter

/-! ## The table -/

/-- R176: an entry put in its place stands there. -/
theorem find_putAcceptance (table : List Acceptance) (h : e.station = x.origin) :
    (putAcceptance table e).find? (fun y => y.station == x.origin) = some e := by
  unfold putAcceptance
  have hself : (e.station == x.origin) = true := beq_iff_eq.2 h
  split
  · next hany =>
    rw [h] at hany
    clear hself
    induction table with
    | nil => exact absurd hany (by simp)
    | cons y table ih =>
      rw [List.map_cons]
      by_cases hy : y.station = e.station
      · rw [if_pos hy]
        exact List.find?_cons_of_pos (beq_iff_eq.2 h)
      · rw [if_neg hy, List.find?_cons_of_neg (by rw [beq_iff_eq, ← h]; exact hy)]
        refine ih ?_
        rw [List.any_cons, Bool.or_eq_true, beq_iff_eq, ← h] at hany
        rw [h] at hany
        exact hany.resolve_left (by rw [← h]; exact hy)
  · next hnone =>
    rw [List.find?_append]
    have hmiss : table.find? (fun y => y.station == x.origin) = none := by
      rw [List.find?_eq_none]
      intro y hy heq
      exact hnone (List.any_eq_true.2 ⟨y, hy, by rw [h]; exact heq⟩)
    rw [hmiss, Option.none_or, List.find?_singleton, hself]
    rfl

theorem putAcceptance_of_new {table : List Acceptance} (h : table.find? (fun y => y.station == e.station) = none) :
    putAcceptance table e = table ++ [e] := by
  refine if_neg ?_
  rw [Bool.not_eq_true, List.any_eq_false]
  exact List.find?_eq_none.1 h

/-! ## The answer -/

/-- R45: a TOLL cell taken stands last in the queue of its class. -/
theorem offer_toll_taken (hclass : cellClass x = .toll) (h : takesLocal s d .toll = true) :
    offerAnswer s d x = .taken
      ∧ (offerEffect s d x).side d = { s.side d with insToll := (s.side d).insToll ++ [x] } := by
  have hvoice : x.kind ≠ .voice := fun hk =>
    absurd (show cellClass x = .call by rw [cellClass, hk]; rfl) (by rw [hclass]; decide)
  have htaken : offerAnswer s d x = .taken := offer_taken s d x (by rw [hclass]; exact h) hvoice
  refine ⟨htaken, ?_⟩
  rw [(offerEffect_taken s d x htaken).1]
  unfold insPush
  rw [hclass]

/-- R179: what an acknowledgement leaves of the Gateway Unit: only its own two counts move. -/
theorem makeAck_gw (s : State) (a : Side) (x : Cell) :
    (makeAck s a x).gw
      = { s.gw with
          counts := { s.gw.counts with
            tollAcksMade := (makeAck s a x).gw.counts.tollAcksMade
            tollAcksLost := (makeAck s a x).gw.counts.tollAcksLost } } := by
  have hgw : (offerEffect s a (ackCell s x)).gw = s.gw := within_offerEffect s a _ .gw (by decide)
  unfold makeAck
  dsimp only
  split
  · rw [State.countGw, hgw]
  · rw [State.countGw, hgw]

theorem makeAck_side (x : Cell) (h : takesLocal s a .toll = true) :
    ((makeAck s a x).side a).insToll = (s.side a).insToll ++ [ackCell s x] := by
  obtain ⟨htaken, hside⟩ := offer_toll_taken (x := ackCell s x) rfl h
  have hmade : makeAck s a x
      = (offerEffect s a (ackCell s x)).countGw (fun n => { n with tollAcksMade := satInc n.tollAcksMade }) :=
    if_pos (beq_iff_eq.2 htaken)
  rw [hmade]
  exact congrArg Tiu.insToll hside

/-! ## A record at the gateway -/

theorem takeRecord_of_old (h : tollClass (acceptanceOf s x.origin) x.reference = .behind
      ∨ tollClass (acceptanceOf s x.origin) x.reference = .duplicate) :
    takeRecord s a x
      = makeAck (State.countGw { s with inHand := 0 } (fun n => { n with tollDuplicates := satInc n.tollDuplicates })) a x :=
  if_pos h

theorem takeRecord_of_passed (h : ¬ (tollClass (acceptanceOf s x.origin) x.reference = .behind
      ∨ tollClass (acceptanceOf s x.origin) x.reference = .duplicate)) (hroom : s.gw.toOffice.length < 32) :
    takeRecord s a x = makeAck (passRecord s x (tollClass (acceptanceOf s x.origin) x.reference)) a x :=
  (if_neg h).trans (if_pos (decide_eq_true hroom))

theorem takeRecord_of_full (h : ¬ (tollClass (acceptanceOf s x.origin) x.reference = .behind
      ∨ tollClass (acceptanceOf s x.origin) x.reference = .duplicate)) (hfull : 32 ≤ s.gw.toOffice.length) :
    takeRecord s a x
      = State.countGw { s with inHand := 0 } (fun n => { n with tollOfficeFull := satInc n.tollOfficeFull }) := by
  refine (if_neg h).trans (if_neg ?_)
  rw [officeRoom, decide_eq_true_eq]
  exact Nat.not_lt.2 hfull

/-- R37: the buffer in hand goes with the record into the office queue. -/
theorem poolHeld_passRecord (s : State) (x : Cell) (k : TollClass) (hhand : s.inHand = 1) :
    (passRecord s x k).poolHeld = s.poolHeld := by
  have hlength : (passRecord s x k).gw.toOffice.length = s.gw.toOffice.length + 1 := by
    change (s.gw.toOffice ++ [onChannel 0 x]).length = _
    rw [List.length_append, List.length_singleton]
  rw [poolHeld_eq, poolHeld_eq s, hlength, hhand]
  change 0 + tiuHeld (s.side .up) + tiuHeld (s.side .down) + sendingHeld (s.port .sp1).sending
    + sendingHeld (s.port .sp2).sending + s.sps.waiting.length + (s.gw.toOffice.length + 1) = _
  omega

theorem takesLocal_of_parts {t : State} {k : Class} (hstraps : t.straps = s.straps) (hports : t.ports = s.ports)
    (htiu : t.tiu = s.tiu) (hpool : t.poolHeld = s.poolHeld) : takesLocal t d k = takesLocal s d k := by
  have hservice : t.inService d = s.inService d := by
    unfold State.inService State.sidePort State.portOf State.port
    rw [hstraps, hports]
  have hside : t.side d = s.side d := by rw [State.side, htiu, State.side]
  rw [takesLocal, takesLocal, hservice, hside, poolFree_eq, poolFree_eq, hpool]

/-- R37: a side takes a local cell on the state an admitted cell meets as it does on the granted state. -/
theorem takesLocal_met {u : PortUnit} (hu : Admitted s p u) (n : Nat) (d : Side) (k : Class) :
    takesLocal { met s p u with inHand := n } d k = takesLocal (s.holding n) d k := by
  have hservice : State.inService { met s p u with inHand := n } d = s.inService d := hu.inService d
  rw [takesLocal, takesLocal, hservice, met_pool s p u hu.sending n]
  rfl

/-- R178, R179: a record passed on: what the office, the table, the counts and the arrival side have of it. -/
theorem recordPassed {u v : State} {y : PortUnit} (hu : Admitted s p y) (k : TollClass)
    (hv : v = makeAck (passRecord (met s p y) x k) a x) :
    (ended u v).gw.toOffice = s.gw.toOffice ++ [{ x with hops := 0 }]
      ∧ (ended u v).gw.acceptance
        = putAcceptance s.gw.acceptance (acceptedEntry (acceptanceOf s x.origin) x.origin x.reference k)
      ∧ (ended u v).gw.counts.tollPassed = satInc s.gw.counts.tollPassed
      ∧ (ended u v).gw.counts.windowSlides
        = (countSlide s.gw.counts (acceptanceOf s x.origin) k).windowSlides
      ∧ (ended u v).gw.counts.windowSkipped
        = (countSlide s.gw.counts (acceptanceOf s x.origin) k).windowSkipped
      ∧ (takesLocal (grantedState s) a .toll = true →
          ((ended u v).side a).insToll
            = (s.side a).insToll ++ [makeCell s.station .tollAck x.origin x.reference 0 0 0 []]) := by
  have hcounts (n : GatewayCounts) :
      (countSlide { n with tollPassed := satInc n.tollPassed } (acceptanceOf s x.origin) k).tollPassed = satInc n.tollPassed
        ∧ (countSlide { n with tollPassed := satInc n.tollPassed } (acceptanceOf s x.origin) k).windowSlides
          = (countSlide n (acceptanceOf s x.origin) k).windowSlides
        ∧ (countSlide { n with tollPassed := satInc n.tollPassed } (acceptanceOf s x.origin) k).windowSkipped
          = (countSlide n (acceptanceOf s x.origin) k).windowSkipped := by
    unfold countSlide
    split
    · exact ⟨rfl, rfl, rfl⟩
    · exact ⟨rfl, rfl, rfl⟩
  obtain ⟨hpassed, hslides, hskipped⟩ := hcounts s.gw.counts
  rw [ended_gw, ended_side, hv, makeAck_gw]
  refine ⟨rfl, rfl, hpassed, hslides, hskipped, fun htakes => ?_⟩
  have hsame : takesLocal (passRecord (met s p y) x k) a .toll = true :=
    (takesLocal_of_parts (s := met s p y) (t := passRecord (met s p y) x k) rfl rfl rfl
      (poolHeld_passRecord (met s p y) x k rfl)).trans ((takesLocal_met hu 1 a .toll).trans htakes)
  exact makeAck_side x hsame

theorem exec_tollRecord (hgw : s.isGateway = true) (htarget : c.target = s.station ∨ c.target = 254)
    (hgrant : cellGranted s p (cellOf .tollRecord c) = true) :
    ∃ u, exec (.tollRecord p c) s = .next (ended s (takeRecord (met s p u) (s.sideOf p) (cellOf .tollRecord c)))
      ∧ Admitted s p u := by
  have hhere : consumedHere s c.target = true := by
    rw [consumedHere, hgw, Bool.true_and, Bool.or_eq_true, beq_iff_eq, Bool.or_eq_true, beq_iff_eq]
    exact htarget.imp_right Or.inl
  obtain ⟨u, hexec, hu⟩ := exec_data_consumed (i := .tollRecord p c) (k := .tollRecord) (by simp [dataCommands]) hgrant hhere
  exact ⟨u, hexec.trans (congrArg (fun v => Host.Outcome.next (ended s v)) (if_pos hgw)), hu⟩

theorem satAdd_toNat (n : Half) (k : Nat) : (satAdd n k).toNat = min 65535 (n.toNat + k) := by
  rw [satAdd, BitVec.toNat_ofNat, Nat.mod_eq_of_lt (by omega)]
  exact Nat.min_comm _ _

theorem acceptedEntry_station {k : TollClass} (h : acceptanceOf s x.origin = some e)
    (hk : (∃ n, k = .new n) ∨ ∃ n, k = .ahead n) :
    (acceptedEntry (some e) x.origin x.reference k).station = x.origin := by
  have hstation : e.station = x.origin := beq_iff_eq.1 (List.find?_some (p := fun y : Acceptance => y.station == x.origin) h)
  rcases hk with ⟨n, rfl⟩ | ⟨n, rfl⟩
  · exact (flagged_station e n).trans hstation
  · exact (flagged_station (slid e (n - 31)) 31).trans hstation

end

/-- Settles O44. -/
theorem gatewayAcceptsTollOnce : Obligations.GatewayAcceptsTollOnce := by
  intro p c s a ack hgw htarget hgrant
  obtain ⟨u, hexec, hu⟩ := exec_tollRecord hgw htarget hgrant
  refine ⟨fun hnone hroom => ?_, fun e he hnear hclear hroom => ?_, fun e he hfar hnear hroom => ?_, fun e he hold => ?_,
    fun hnew hfull => ?_⟩
  · have hclass : tollClass (acceptanceOf (met s p u) (cellOf .tollRecord c).origin) (cellOf .tollRecord c).reference
        = .new 0 := congrArg (tollClass · c.reference) hnone
    have htaken := takeRecord_of_passed (s := met s p u) (a := s.sideOf p) (x := cellOf .tollRecord c)
      (by rw [hclass]; decide) hroom
    rw [hclass] at htaken
    obtain ⟨hoffice, htable, hpassed, _, _, hack⟩ := recordPassed (u := s) hu _ htaken
    rw [show acceptanceOf s (cellOf .tollRecord c).origin = none from hnone] at htable
    refine ⟨_, hexec, hoffice, htable.trans ?_, hpassed, hack⟩
    rw [acceptedEntry, flagged_first]
    exact putAcceptance_of_new (e := { station := c.origin, base := c.reference + 1, flags := 0 }) hnone
  · have hclass : tollClass (acceptanceOf (met s p u) (cellOf .tollRecord c).origin) (cellOf .tollRecord c).reference
        = .new (c.reference - e.base).toNat :=
      (congrArg (tollClass · c.reference) he).trans (tollClass_of_new hnear hclear)
    have htaken := takeRecord_of_passed (s := met s p u) (a := s.sideOf p) (x := cellOf .tollRecord c)
      (by rw [hclass]; rintro (h | h) <;> cases h) hroom
    rw [hclass] at htaken
    obtain ⟨hoffice, htable, hpassed, hslides, _, hack⟩ := recordPassed (u := s) hu _ htaken
    rw [show acceptanceOf s (cellOf .tollRecord c).origin = some e from he] at htable hslides
    refine ⟨_, _, hexec, hoffice, ?_, flagged_advanced e (c.reference - e.base).toNat, hpassed, hslides, hack⟩
    refine (congrArg (List.find? _) htable).trans ?_
    exact find_putAcceptance (x := cellOf .tollRecord c) _ (acceptedEntry_station he (.inl ⟨_, rfl⟩))
  · have hclass : tollClass (acceptanceOf (met s p u) (cellOf .tollRecord c).origin) (cellOf .tollRecord c).reference
        = .ahead (c.reference - e.base).toNat :=
      (congrArg (tollClass · c.reference) he).trans (tollClass_of_ahead hnear hfar)
    have htaken := takeRecord_of_passed (s := met s p u) (a := s.sideOf p) (x := cellOf .tollRecord c)
      (by rw [hclass]; rintro (h | h) <;> cases h) hroom
    rw [hclass] at htaken
    obtain ⟨hoffice, htable, hpassed, hslides, hskipped, hack⟩ := recordPassed (u := s) hu _ htaken
    rw [show acceptanceOf s (cellOf .tollRecord c).origin = some e from he] at htable hslides hskipped
    refine ⟨_, _, hexec, hoffice, ?_, flagged_advanced (slid e ((c.reference - e.base).toNat - 31)) 31, hpassed, hslides,
      ?_, hack⟩
    · refine (congrArg (List.find? _) htable).trans ?_
      exact find_putAcceptance (x := cellOf .tollRecord c) _ (acceptedEntry_station he (.inr ⟨_, rfl⟩))
    · rw [hskipped]
      refine (satAdd_toNat _ _).trans ?_
      rw [slideSkipped, countP_eq_filter_length, Nat.add_assoc]
  · have hclass : tollClass (acceptanceOf (met s p u) (cellOf .tollRecord c).origin) (cellOf .tollRecord c).reference = .behind
        ∨ tollClass (acceptanceOf (met s p u) (cellOf .tollRecord c).origin) (cellOf .tollRecord c).reference = .duplicate := by
      rw [show acceptanceOf (met s p u) (cellOf .tollRecord c).origin = some e from he]
      rcases hold with hbehind | ⟨hnear, hset⟩
      · exact .inl (tollClass_of_behind hbehind)
      · exact .inr (tollClass_of_duplicate hnear hset)
    rw [takeRecord_of_old hclass] at hexec
    refine ⟨_, hexec, ?_⟩
    rw [ended_gw, ended_side, makeAck_gw]
    refine ⟨rfl, rfl, rfl, fun htakes => ?_⟩
    exact makeAck_side (cellOf .tollRecord c) ((takesLocal_of_parts (s := { met s p u with inHand := 0 }) rfl rfl rfl
      rfl).trans ((takesLocal_met hu 0 (s.sideOf p) .toll).trans htakes))
  · have hclass : ¬ (tollClass (acceptanceOf (met s p u) (cellOf .tollRecord c).origin) (cellOf .tollRecord c).reference
          = .behind
        ∨ tollClass (acceptanceOf (met s p u) (cellOf .tollRecord c).origin) (cellOf .tollRecord c).reference
          = .duplicate) := by
      cases he : acceptanceOf s c.origin with
      | none =>
        rw [show acceptanceOf (met s p u) (cellOf .tollRecord c).origin = none from he, tollClass_of_none]
        rintro (h | h) <;> cases h
      | some e =>
        obtain ⟨hnear, hclear⟩ := hnew e he
        rw [show acceptanceOf (met s p u) (cellOf .tollRecord c).origin = some e from he]
        change ¬ (tollClass (some e) c.reference = .behind ∨ tollClass (some e) c.reference = .duplicate)
        rcases Nat.lt_or_ge (c.reference - e.base).toNat 32 with hin | hout
        · rw [tollClass_of_new (by exact hin) (hclear hin)]
          rintro (h | h) <;> cases h
        · rw [tollClass_of_ahead (by exact hnear) (by exact hout)]
          rintro (h | h) <;> cases h
    rw [takeRecord_of_full hclass hfull] at hexec
    have hwithin : Within [.inHand, .ports, .gw] s (State.countGw { met s p u with inHand := 0 }
        (fun n => { n with tollOfficeFull := satInc n.tollOfficeFull })) :=
      ((within_met s p u).trans (within_withInHand (met s p u) 0).widen).seq (within_countGw _ _)
    exact ⟨_, hexec, within_ended (parts := [.inHand, .ports, .gw]) hwithin, by rw [ended_gw]; rfl⟩

section
variable {s : State} {ordy : Bool} {raw : RawCell} {check : Half}

/-! ## Beacons -/

theorem beaconCell_eq (s : State) :
    beaconCell s = makeCell s.station .beacon 255 s.gw.beaconSeq 0 0 (if s.role = .gatewayD then 2 else 0) [] := by
  have hflags : beaconFlags s = if s.role = .gatewayD then 2 else 0 := by
    unfold beaconFlags
    split
    · next hrole => rw [if_pos hrole]
    · next hrole => rw [if_neg hrole]
  rw [beaconCell, hflags]
  rfl

theorem exec_beaconPeriod (hworks : s.gatewayWorks = true) (hruns : s.gw.beaconPeriod.isSome = true) :
    exec .beaconPeriod s = .next (setBeaconPeriod (makeBeacon s) (some 200)) := if_pos (by rw [hworks, hruns]; rfl)

/-- R45: a LINK cell is taken where its queue has room. -/
theorem offer_beacon_taken (hin : s.inService s.inner = true) (hroom : (s.side s.inner).insLink.length < 8) :
    offerAnswer s s.inner (beaconCell s) = .taken := by
  rw [offerAnswer, hin, Bool.not_true, if_neg Bool.false_ne_true,
    if_neg (show ¬ insCapacity (cellClass (beaconCell s))
      ≤ (insQueue (s.side s.inner) (cellClass (beaconCell s))).length from Nat.not_le.2 hroom)]
  rfl

theorem offer_beacon_full (hin : s.inService s.inner = true) (hfull : 8 ≤ (s.side s.inner).insLink.length) :
    offerAnswer s s.inner (beaconCell s) = .queueFull := by
  rw [offerAnswer, hin, Bool.not_true, if_neg Bool.false_ne_true]
  exact if_pos hfull

theorem makeBeacon_of_taken (h : offerAnswer s s.inner (beaconCell s) = .taken) :
    makeBeacon s
      = { s.setSide s.inner { s.side s.inner with insLink := (s.side s.inner).insLink ++ [beaconCell s] } with
          gw := { s.gw with
            beaconSeq := s.gw.beaconSeq + 1
            counts := { s.gw.counts with beaconsMade := satInc s.gw.counts.beaconsMade } } } := by
  have heffect : offerEffect s s.inner (beaconCell s)
      = s.setSide s.inner { s.side s.inner with insLink := (s.side s.inner).insLink ++ [beaconCell s] } := by
    unfold offerEffect
    rw [h]
    rfl
  rw [makeBeacon, if_pos (beq_iff_eq.2 h), heffect]
  rfl

theorem makeBeacon_of_full (h : offerAnswer s s.inner (beaconCell s) = .queueFull) :
    makeBeacon s
      = (s.countSide s.inner (fun n => { n with queueRefusedLink := satInc n.queueRefusedLink })).countGw
          (fun n => { n with beaconsRefused := satInc n.beaconsRefused }) := by
  have heffect : offerEffect s s.inner (beaconCell s)
      = s.countSide s.inner (fun n => { n with queueRefusedLink := satInc n.queueRefusedLink }) := by
    unfold offerEffect
    rw [h]
    rfl
  rw [makeBeacon, if_neg (by rw [h]; decide), heffect]

/-! ## The office link -/

theorem grdy_of_works (hworks : s.gatewayWorks = true) : grdy s = decide (s.gw.fromOffice.length < 32) := by
  rw [State.gatewayWorks] at hworks
  rw [grdy, hworks, Bool.true_and]
  rfl

theorem officeLinked_of_works (hworks : s.gatewayWorks = true) : s.officeLinked = true := by
  rw [State.gatewayWorks, State.live, Bool.and_eq_true, Bool.and_eq_true] at hworks
  rw [State.officeLinked, hworks.1.1, hworks.2]
  rfl

theorem exec_toOfficeTransferStart (hworks : s.gatewayWorks = true) (hidle : s.gw.toTransfer = none) :
    exec (.toOfficeTransferStart ordy) s
      = .next { s with gw := { s.gw with
          ordy := ordy, toTransfer := if ordy then s.gw.toOffice.head?.map cellCheck else none } } :=
  if_pos (by rw [hworks, hidle]; rfl)

theorem exec_fromOfficeTransferStart (hlinked : s.officeLinked = true) (hidle : s.gw.fromTransfer = none) :
    exec .fromOfficeTransferStart s
      = if grdy s then .next { s with gw := { s.gw with fromTransfer := some .kept } }
        else
          .next { s with gw := { s.gw with
            fromTransfer := some .overrun
            counts := { s.gw.counts with officeOverruns := satInc s.gw.counts.officeOverruns } } } :=
  if_pos (by rw [hlinked, hidle]; rfl)

theorem exec_fromOfficeTransferComplete_kept (hlinked : s.officeLinked = true) (h : s.gw.fromTransfer = some .kept) :
    exec (.fromOfficeTransferComplete raw check) s
      = if checkOf raw.code raw.toCellData = check then
          .next { s with gw := { s.gw with
            fromTransfer := none, fromOffice := s.gw.fromOffice ++ [raw]
            counts := { s.gw.counts with cellsFromOffice := satInc s.gw.counts.cellsFromOffice } } }
        else
          .next { s with gw := { s.gw with
            fromTransfer := none
            counts := { s.gw.counts with officeCheckErrors := satInc s.gw.counts.officeCheckErrors } } } := by
  rw [show exec (.fromOfficeTransferComplete raw check) s = execFromOfficeTransferComplete raw check s from rfl,
    execFromOfficeTransferComplete, if_pos hlinked, h]

theorem exec_fromOfficeTransferComplete_overrun (hlinked : s.officeLinked = true)
    (h : s.gw.fromTransfer = some .overrun) :
    exec (.fromOfficeTransferComplete raw check) s = .next { s with gw := { s.gw with fromTransfer := none } } := by
  rw [show exec (.fromOfficeTransferComplete raw check) s = execFromOfficeTransferComplete raw check s from rfl,
    execFromOfficeTransferComplete, if_pos hlinked, h]

end

/-- Settles O57. -/
theorem beaconPeriodAndOfficeLink : Obligations.BeaconPeriodAndOfficeLink := by
  refine ⟨fun s hworks hruns => ⟨fun hin hroom => ?_, fun hin hfull => ?_⟩, fun s hworks => ?_,
    fun s hrunning hgw hfault => ?_⟩
  · rw [exec_beaconPeriod hworks hruns, makeBeacon_of_taken (offer_beacon_taken hin hroom), beaconCell_eq]
    rfl
  · have hexec := exec_beaconPeriod hworks hruns
    rw [makeBeacon_of_full (offer_beacon_full hin hfull)] at hexec
    refine ⟨_, hexec, ?_, rfl, rfl, rfl⟩
    exact ((within_countSide s s.inner _).seq (parts := [.tiu, .gw]) (within_countGw _ _)).trans
      (within_withGw _ _).widen
  · have hlinked := officeLinked_of_works hworks
    refine ⟨fun ordy hidle => ?_, fun hsending => if_pos (by rw [hworks, hsending]; rfl),
      fun hidle => ⟨fun hroom => ?_, fun hfull => ?_⟩, fun raw check => ⟨fun hkept hcheck => ?_, fun hkept hcheck => ?_,
        fun hover => exec_fromOfficeTransferComplete_overrun hlinked hover⟩⟩
    · rw [exec_toOfficeTransferStart hworks hidle]
      cases ordy with
      | false => rfl
      | true =>
        cases s.gw.toOffice with
        | nil => rfl
        | cons x rest => rfl
    · rw [exec_fromOfficeTransferStart hlinked hidle, if_pos ((grdy_of_works hworks).trans (decide_eq_true hroom))]
    · rw [exec_fromOfficeTransferStart hlinked hidle,
        if_neg (by rw [grdy_of_works hworks, decide_eq_true_eq]; exact Nat.not_lt.2 hfull)]
    · rw [exec_fromOfficeTransferComplete_kept hlinked hkept, if_pos hcheck]
    · rw [exec_fromOfficeTransferComplete_kept hlinked hkept, if_neg hcheck]
  · have hlive : s.live = false := by rw [State.live, hfault, Bool.not_true, Bool.and_false]
    have hlinked : s.officeLinked = true := by rw [State.officeLinked, hrunning, hgw]; rfl
    refine ⟨fun ordy => if_neg ?_, fun hidle => ?_, fun raw check hover =>
      exec_fromOfficeTransferComplete_overrun hlinked hover⟩
    · rw [State.gatewayWorks, hlive]
      exact Bool.false_ne_true
    · rw [exec_fromOfficeTransferStart hlinked hidle]
      refine if_neg ?_
      rw [grdy, hlive]
      exact Bool.false_ne_true

end Sys2Proof.Machine
end

section
/-! PROOFS. Reports and the answers to polls and queries (O56). -/

set_option Elab.async false

namespace Sys2Proof.Machine

section
variable {s : State} {d : Side} {w : Wsu} {ch : Channel}

/-! ## The layout of a report -/

theorem sum_toNat_le (ring : List (BitVec 12)) : (ring.map BitVec.toNat).sum ≤ 4095 * ring.length := by
  induction ring with
  | nil => exact Nat.le_refl 0
  | cons r ring ih =>
    have hr : r.toNat < 4096 := r.isLt
    rw [List.map_cons, List.sum_cons, List.length_cons]
    omega

/-- R156: an average of 12-bit codes is one. -/
theorem average_lt {a : Nat} (h : average ch = some a) : a < 4096 := by
  unfold average at h
  split at h
  · cases h
  · next hsome =>
    cases h
    have hpos : 0 < ch.ring.length := List.length_pos_iff.2 (fun hnil => hsome (by rw [hnil]; rfl))
    rw [Nat.div_lt_iff_lt_mul hpos]
    have hsum := sum_toNat_le ch.ring
    omega

theorem getLsbD_ofNat_of_small {a i : Nat} (ha : a < 4096) (hi : 12 ≤ i) : (BitVec.ofNat 16 a).getLsbD i = false := by
  have hbit : a.testBit i = false :=
    Nat.testBit_lt_two_pow (Nat.lt_of_lt_of_le ha (Nat.pow_le_pow_right (by decide) hi : 2 ^ 12 ≤ 2 ^ i))
  rw [BitVec.getLsbD_ofNat, hbit, Bool.and_false]

/-- R157, R170: the two bytes of a channel. -/
theorem channelLayout_channelHalf (ch : Channel) : channelLayout ch (channelHalf ch) := by
  unfold channelLayout channelHalf shownAverage
  cases hfault : ch.fault with
  | true =>
    rw [if_pos rfl, if_pos rfl]
    exact ⟨rfl, rfl, rfl, fun _ => ⟨rfl, rfl⟩, nofun⟩
  | false =>
    rw [if_neg Bool.false_ne_true, if_neg Bool.false_ne_true]
    cases haverage : average ch with
    | none =>
      have hnil : ch.ring = [] := by
        unfold average at haverage
        split at haverage
        · next hempty => exact List.isEmpty_iff.1 hempty
        · cases haverage
      exact ⟨rfl, rfl, rfl, fun _ => ⟨rfl, rfl⟩, fun _ hring => absurd hnil hring⟩
    | some a =>
      have hlt := average_lt haverage
      rw [Nat.zero_add]
      refine ⟨getLsbD_ofNat_of_small hlt (by decide), getLsbD_ofNat_of_small hlt (by decide),
        getLsbD_ofNat_of_small hlt (by decide), fun hnone => ?_, fun _ _ => ⟨getLsbD_ofNat_of_small hlt (by decide), ?_⟩⟩
      · rw [average_of_ring_nil (hnone.resolve_left nofun)] at haverage
        cases haverage
      · have hvalue : (ch.ring.map BitVec.toNat).sum / ch.ring.length = a := by
          unfold average at haverage
          split at haverage
          · cases haverage
          · exact Option.some.inj haverage
        rw [hvalue, BitVec.extractLsb'_toNat, BitVec.toNat_ofNat, Nat.shiftRight_zero]
        exact (congrArg (· % 2 ^ 12) (Nat.mod_eq_of_lt (Nat.lt_trans hlt (by decide)))).trans (Nat.mod_eq_of_lt hlt)

/-- R170: byte 38 as a sum. -/
theorem surface_bits : ∀ (road : Road) (fast stopped dry : Bool),
    (BitVec.ofNat 8 (roadCode road) ||| bitAt 2 fast ||| bitAt 3 stopped ||| bitAt 4 dry).toNat
      = (match road with | .dry => 0 | .wet => 1 | .ice => 2 | .unknown => 3) + (if fast then 4 else 0)
        + (if stopped then 8 else 0) + (if dry then 16 else 0) := by
  intro road fast stopped dry
  cases road with
  | _ => revert fast stopped dry; decide

theorem reasons_bits : ∀ wind ice : Bool,
    (bitAt 0 wind ||| bitAt 1 ice).toNat = (if wind then 1 else 0) + (if ice then 2 else 0) := by decide

theorem reportPayload_channel (w : Wsu) (n : Nat) (hlow : 1 ≤ n) (hhigh : n ≤ 12) :
    ((reportPayload w).drop (2 * n)).take 2 = halfBytes (channelHalf (channelOf w n)) := by
  rcases (by omega : n = 1 ∨ n = 2 ∨ n = 3 ∨ n = 4 ∨ n = 5 ∨ n = 6 ∨ n = 7 ∨ n = 8 ∨ n = 9 ∨ n = 10 ∨ n = 11 ∨ n = 12) with
    rfl | rfl | rfl | rfl | rfl | rfl | rfl | rfl | rfl | rfl | rfl | rfl
  all_goals rfl

theorem reportLayout_reportPayload (w : Wsu) : reportLayout w (reportPayload w) := by
  refine ⟨rfl, rfl, fun n hlow hhigh => ⟨_, reportPayload_channel w n hlow hhigh, channelLayout_channelHalf _⟩, rfl, ?_, rfl,
    rfl, ?_, rfl, ?_, ?_, rfl⟩
  · cases hmax : w.periodMax with
    | none => rw [show ((reportPayload w).drop 28).take 2 = halfBytes (w.periodMax.getD 0) from rfl, hmax]; rfl
    | some m => rw [show ((reportPayload w).drop 28).take 2 = halfBytes (w.periodMax.getD 0) from rfl, hmax]; rfl
  · cases hlast : w.lastInterval with
    | none => rw [show ((reportPayload w).drop 34).take 2 = halfBytes (w.lastInterval.getD 0) from rfl, hlast]; rfl
    | some m => rw [show ((reportPayload w).drop 34).take 2 = halfBytes (w.lastInterval.getD 0) from rfl, hlast]; rfl
  · rw [show (reportPayload w).getD 38 0 = surfaceByte w from rfl, surfaceByte, surface_bits]
    simp only [beq_iff_eq] <;> rfl
  · rw [show (reportPayload w).getD 39 0 = reasonsByte w from rfl, reasonsByte, reasons_bits]

/-! ## The report period -/

/-- The state in which a report period end has numbered its report. -/
def reportNumbered (s : State) : State := { s with wsu := { s.wsu with reportNumber := s.wsu.reportNumber + 1 } }

theorem reportEnded_of_node (hgw : s.isGateway = false) :
    reportEnded s
      = { offerReport (reportNumbered s) (reportCell (reportNumbered s) anyGateway (s.wsu.reportNumber + 1) 0) with
          wsu := restartPeriod
            (offerReport (reportNumbered s) (reportCell (reportNumbered s) anyGateway (s.wsu.reportNumber + 1) 0)).wsu } := by
  unfold reportEnded
  dsimp only
  rw [if_neg (show ¬ State.isGateway { s with wsu := { s.wsu with reportNumber := s.wsu.reportNumber + 1 } } = true from
    Bool.eq_false_iff.1 hgw)]
  rfl

theorem reportEnded_of_gateway (hgw : s.isGateway = true) :
    reportEnded s
      = { handReport (reportNumbered s) (reportCell (reportNumbered s) anyGateway (s.wsu.reportNumber + 1) 0) with
          wsu := restartPeriod
            (handReport (reportNumbered s) (reportCell (reportNumbered s) anyGateway (s.wsu.reportNumber + 1) 0)).wsu } := by
  unfold reportEnded
  dsimp only
  rw [if_pos (show State.isGateway { s with wsu := { s.wsu with reportNumber := s.wsu.reportNumber + 1 } } = true from hgw)]
  rfl

theorem offerReport_taken {x : Cell} (hclass : cellClass x = .report) (hnearest : s.nearest = some d)
    (h : takesLocal s d .report = true) :
    ((offerReport s x).side d).insReport = (s.side d).insReport ++ [x]
      ∧ (offerReport s x).wsu
        = { s.wsu with counts := { s.wsu.counts with reportsSent := satInc s.wsu.counts.reportsSent } } := by
  obtain ⟨htaken, hside⟩ := offer_report_taken hclass h
  have hwsu : (offerEffect s d x).wsu = s.wsu := within_offerEffect s d x .wsu (by decide)
  have hsent : offerReport s x = countReportSent (offerEffect s d x) := by
    unfold offerReport
    rw [hnearest]
    exact if_pos (beq_iff_eq.2 htaken)
  rw [hsent]
  exact ⟨congrArg Tiu.insReport hside, by rw [countReportSent, State.countWsu, hwsu]⟩

theorem offerReport_of_lost {x : Cell} (hnearest : s.nearest = none) : offerReport s x = countReportNoReach s := by
  unfold offerReport
  rw [hnearest]

theorem handReport_taken {x : Cell} (hpool : 64 ≤ s.poolFree) (hroom : s.gw.toOffice.length < 32) :
    handReport s x = countReportSent (officePush s (onChannel 0 x)) :=
  (if_pos (decide_eq_true (show classFloor .report ≤ s.poolFree from hpool))).trans
    (if_pos (decide_eq_true (show s.gw.toOffice.length < officeCapacity from hroom)))

end

section
variable {s : State} {p : Port} {c : CellData} {u : PortUnit}

/-! ## Polls and queries consumed here -/

/-- R28, R31: what the arrival of a cell makes of its port. -/
theorem stirred_port (s : State) (p : Port) :
    ((stir (takeIn s p) p).port p).state = (if (s.port p).state = .doze then .waking else (s.port p).state)
      ∧ ((stir (takeIn s p) p).port p).neighbour = (s.port p).neighbour := by
  have htaken := takeIn_port s p
  have hstate : ((takeIn s p).port p).state = (s.port p).state := by rw [htaken]
  have hneighbour : ((takeIn s p).port p).neighbour = (s.port p).neighbour := by rw [htaken]
  unfold stir
  split
  · next hup =>
    rw [setPort_port]
    refine ⟨?_, hneighbour⟩
    dsimp only
    rw [hstate] at hup ⊢
    rw [if_neg (by rw [hup]; decide)]
  · next hdoze =>
    rw [setPort_port]
    rw [hstate] at hdoze
    exact ⟨(if_pos hdoze).symm, hneighbour⟩
  · next hother =>
    rw [hstate, hneighbour]
    rw [hstate] at hother
    exact ⟨(if_neg hother).symm, rfl⟩

theorem statusLayout_queryPayload (s : State) : statusLayout s (queryPayload s) := by
  refine ⟨rfl, rfl, rfl, rfl, rfl, ?_⟩
  rw [← List.countP_eq_length_filter]
  rfl

theorem sameMet_of_admitted (hu : Admitted s p u) : CopyLeft s (met s p u) a 1 := copyLeft_of_node (f := fun n => n) hu rfl

/-- R37: the query's port on the state its answer is captured from. -/
theorem exec_nodeQuery_consumed (hgrant : cellGranted s p (cellOf .nodeQuery c) = true)
    (hhere : consumedHere s c.target = true) :
    ∃ u, exec (.nodeQuery p c) s = .next (ended s (answerQuery (met s p u) (some (s.sideOf p)) c)) ∧ Admitted s p u
      ∧ u = (stir (takeIn s p) p).port p := by
  obtain ⟨u, heq, hsending, hcounts, hservice, hwoken, hport⟩ := transitArrival_granted s p (cellOf .nodeQuery c)
    (fun t => carry t (t.sideOf p) (cellOf .nodeQuery c) (consumerOf .nodeQuery c (t.sideOf p))) hgrant
  have hadmitted : Admitted s p u :=
    ⟨hsending, hcounts, hservice, hwoken, fun d => met_inService s p u d hservice (granted_service hgrant)⟩
  refine ⟨u, exec_done _ ?_, hadmitted, hport⟩
  have hdata : (Instr.nodeQuery p c, Kind.nodeQuery) ∈ dataCommands p c := by simp [dataCommands]
  rw [exec_of_dataCommands hdata, heq]
  exact congrArg (done s) (carry_of_consume (s := met s p u) (carriage_of_consumed (x := cellOf .nodeQuery c) hhere))

theorem mem_weatherPoll (p : Port) (c : CellData) : (Instr.weatherPoll p c, Kind.weatherPoll) ∈ dataCommands p c := by
  simp [dataCommands]

/-! ## Cells for the office -/

theorem passToOffice_of_room {x : Cell} (hroom : s.gw.toOffice.length < 32) :
    passToOffice s x = officePush { s with inHand := 0 } { x with hops := 0 } := if_pos (decide_eq_true hroom)

theorem passToOffice_of_full {x : Cell} (hfull : 32 ≤ s.gw.toOffice.length) :
    passToOffice s x = countOfficeDropped { s with inHand := 0 } (cellClass x) :=
  if_neg (by rw [officeRoom, decide_eq_true_eq]; exact Nat.not_lt.2 hfull)

theorem consumerOf_office {k : Kind} (h : k = .signReply ∨ k = .weatherReport ∨ k = .nodeStatus) (a : Side) (t : State) :
    consumerOf k c a t = consumeForOffice (cellOf k c) t := by
  rcases h with rfl | rfl | rfl
  · rfl
  · rfl
  · rfl

end

/-- Settles O56. -/
theorem reportsAndAnswers : Obligations.ReportsAndAnswers := by
  refine ⟨⟨fun s hworks => ⟨fun d hgw hnearest htakes => ?_, fun hgw hnearest => ?_,
    fun hgw hpool hroom => ?_⟩, reportLayout_reportPayload, fun p c s hhere htakes => ⟨fun hgrant hfitted => ?_,
    fun hgrant hfitted => ?_, fun hgrant => ?_⟩⟩, fun p c i k s hmem hgrant hhere => ?_⟩
  · refine ⟨_, (exec_reportPeriodEnd hworks).trans (done_ended _ _), ?_⟩
    obtain ⟨hside, hwsu⟩ := offerReport_taken (s := reportNumbered s)
      (x := reportCell (reportNumbered s) anyGateway (s.wsu.reportNumber + 1) 0) rfl hnearest htakes
    rw [reportEnded_of_node hgw, ended_side, ended_wsu]
    dsimp only
    rw [hwsu]
    exact ⟨hside, rfl, rfl, rfl, rfl, rfl, rfl, rfl⟩
  · refine ⟨_, (exec_reportPeriodEnd hworks).trans (done_ended _ _), ?_⟩
    rw [reportEnded_of_node hgw, offerReport_of_lost (by exact hnearest), ended_tiu, ended_wsu]
    exact ⟨rfl, rfl, rfl⟩
  · refine ⟨_, (exec_reportPeriodEnd hworks).trans (done_ended _ _), ?_⟩
    rw [reportEnded_of_gateway hgw, handReport_taken (by exact hpool) (by exact hroom), ended_gw, ended_wsu]
    exact ⟨rfl, rfl⟩
  · obtain ⟨u, hexec, hu⟩ := exec_data_consumed (mem_weatherPoll p c) hgrant hhere
    have hdelivered := delivered_poll (c := c) (sameMet_of_admitted (a := s.sideOf p) hu)
    obtain ⟨hside, hwsu⟩ := (deliveredHere_ended s hdelivered).2.2.2 htakes |>.1 rfl hfitted
    exact ⟨_, hexec, ended_inHand _ _, hside, hwsu⟩
  · obtain ⟨u, hexec, hu⟩ := exec_data_consumed (mem_weatherPoll p c) hgrant hhere
    have hlost : consumerOf .weatherPoll c (s.sideOf p) (met s p u)
        = (met s p u).countNode (fun n => { n with noConsumer := satInc n.noConsumer }) :=
      if_neg (by rw [met_straps, hfitted]; exact Bool.false_ne_true)
    rw [hlost] at hexec
    exact ⟨_, hexec, ended_tiu _ _, by rw [ended_node]; rfl⟩
  · obtain ⟨u, hexec, hu, hport⟩ := exec_nodeQuery_consumed hgrant hhere
    have hcopy := sameMet_of_admitted (a := s.sideOf p) hu
    obtain ⟨hside, hmaint⟩ := answerQuery_taken (s := met s p u) c (hcopy.takes.trans htakes)
    obtain ⟨hstate, hneighbour⟩ := stirred_port s p
    refine ⟨_, _, u, hexec, ended_inHand _ _, queryPayload_length (met s p u), by rw [hport]; exact hstate,
      by rw [hport]; exact hneighbour, statusLayout_queryPayload (met s p u), ?_, ?_⟩
    · rw [ended_side, hside]
      rfl
    · rw [ended_maint, hmaint]
      rfl
  · have hk : k = .signReply ∨ k = .weatherReport ∨ k = .nodeStatus := by
      simp only [List.mem_cons, Prod.mk.injEq, List.not_mem_nil, or_false] at hmem
      exact hmem.imp And.right (Or.imp And.right And.right)
    have hdata : (i, k) ∈ dataCommands p c := by
      simp only [List.mem_cons, Prod.mk.injEq, List.not_mem_nil, or_false] at hmem
      rcases hmem with ⟨rfl, rfl⟩ | ⟨rfl, rfl⟩ | ⟨rfl, rfl⟩
      · simp [dataCommands]
      · simp [dataCommands]
      · simp [dataCommands]
    obtain ⟨u, hexec, hu⟩ := exec_data_consumed hdata hgrant hhere
    rw [consumerOf_office hk] at hexec
    have hmet : Within [.inHand, .ports] s { met s p u with inHand := 0 } :=
      (within_met s p u).trans (within_withInHand (met s p u) 0).widen
    refine ⟨fun hgw hroom => ?_, fun hgw hfull => ?_, fun hgw => ?_⟩
    · have hpass : consumeForOffice (cellOf k c) (met s p u)
          = officePush { met s p u with inHand := 0 } { cellOf k c with hops := 0 } :=
        (if_pos hgw).trans (passToOffice_of_room hroom)
      rw [hpass] at hexec
      refine ⟨_, hexec, within_ended (parts := [.inHand, .ports, .gw]) (hmet.seq (within_withGw _ _)), ended_inHand _ _, ?_⟩
      rw [ended_gw]
      rfl
    · have hdrop : consumeForOffice (cellOf k c) (met s p u)
          = countOfficeDropped { met s p u with inHand := 0 } (cellClass (cellOf k c)) :=
        (if_pos hgw).trans (passToOffice_of_full hfull)
      rw [hdrop] at hexec
      refine ⟨_, hexec, within_ended (parts := [.inHand, .ports, .gw]) (hmet.seq (within_countGw _ _)), ?_⟩
      rw [ended_gw]
      rcases hk with rfl | rfl | rfl
      · exact ⟨rfl, fun _ => rfl, fun hne => absurd rfl hne⟩
      · exact ⟨rfl, nofun, fun _ => rfl⟩
      · exact ⟨rfl, nofun, fun _ => rfl⟩
    · have hlost : consumeForOffice (cellOf k c) (met s p u)
          = (met s p u).countNode (fun n => { n with noConsumer := satInc n.noConsumer }) :=
        if_neg (by rw [met_isGateway, hgw]; exact Bool.false_ne_true)
      rw [hlost] at hexec
      exact ⟨_, hexec, dropped_counts (f := fun n => { n with noConsumer := satInc n.noConsumer }) (within_met s p u)⟩

end Sys2Proof.Machine
end

section
/-! PROOFS. Rules of the CALL cells that the CCU makes or lets continue (R41, R90, R99), and a setup at a path node that
reserves or is refused (O26, O27). -/

set_option Elab.async false

namespace Sys2Proof.Machine

section
variable {s t u : State} {p : Port} {a b d : Side} {c : CellData} {i : Instr} {k : Kind} {x : Cell} {v : PortUnit}

theorem ended_ccu (s t : State) : (ended s t).ccu = t.ccu := by rw [ended]
theorem ended_lines (s t : State) : (ended s t).lines = t.lines := by rw [ended]

/-! ## What an offer looks at -/

/-- The two states answer an offer, and a cell handed on, alike: the same sides in service with the same queues, and as
many buffers free. -/
structure SameRoom (s t : State) : Prop where
  straps : t.straps = s.straps
  service : ∀ d, t.inService d = s.inService d
  side : ∀ d, t.side d = s.side d
  pool : t.poolFree = s.poolFree

theorem SameRoom.refl (s : State) : SameRoom s s := ⟨rfl, fun _ => rfl, fun _ => rfl, rfl⟩

theorem SameRoom.trans (h : SameRoom s t) (k : SameRoom t u) : SameRoom s u :=
  ⟨k.straps.trans h.straps, fun d => (k.service d).trans (h.service d), fun d => (k.side d).trans (h.side d),
    k.pool.trans h.pool⟩

theorem SameRoom.isGateway (h : SameRoom s t) : t.isGateway = s.isGateway := by
  rw [State.isGateway, h.straps, State.isGateway]

theorem SameRoom.station (h : SameRoom s t) : t.station = s.station := by
  rw [State.station, h.straps, State.station]

theorem SameRoom.inner (h : SameRoom s t) : t.inner = s.inner := by
  rw [State.inner, h.straps, State.inner]

/-- The parts that an offer looks at. -/
def roomParts : List Part := [.straps, .inHand, .ports, .tiu, .sps, .gw]

theorem SameRoom.of_within {parts : List Part} (h : Within parts s t)
    (k : roomParts.all (fun q => !parts.contains q) = true) : SameRoom s t := by
  have hpart : ∀ q ∈ roomParts, Same s t q := by
    intro q hq
    have hnot := List.all_eq_true.1 k q hq
    rw [Bool.not_eq_true', List.contains_eq_mem, decide_eq_false_iff_not] at hnot
    exact h q hnot
  have hstraps : t.straps = s.straps := hpart .straps (by decide)
  have hhand : t.inHand = s.inHand := hpart .inHand (by decide)
  have hports : t.ports = s.ports := hpart .ports (by decide)
  have htiu : t.tiu = s.tiu := hpart .tiu (by decide)
  have hsps : t.sps = s.sps := hpart .sps (by decide)
  have hgw : t.gw = s.gw := hpart .gw (by decide)
  refine ⟨hstraps, fun d => ?_, fun d => by rw [State.side, htiu, State.side], ?_⟩
  · rw [inService_eq, inService_eq, portOf_of_straps hstraps, State.port, hports, State.port]
  · rw [State.poolFree, State.poolFree, State.poolHeld, State.poolHeld, hhand, hports, htiu, hsps, hgw]

theorem SameRoom.takesLocal (h : SameRoom s t) (d : Side) (k : Class) :
    Machine.takesLocal t d k = Machine.takesLocal s d k := by
  rw [Machine.takesLocal, Machine.takesLocal, h.service, h.side, h.pool]

theorem SameRoom.takesCall (h : SameRoom s t) (d : Side) : Machine.takesCall t d = Machine.takesCall s d := by
  rw [Machine.takesCall, Machine.takesCall, h.service, h.side]

/-- R37: the state an admitted cell meets, with `n` buffers in hand. -/
theorem SameRoom.met (h : Admitted s p v) (n : Nat) : SameRoom (s.holding n) { Machine.met s p v with inHand := n } :=
  ⟨rfl, h.inService, fun _ => rfl, met_pool s p v h.sending n⟩

theorem SameRoom.granted (h : Admitted s p v) : SameRoom (grantedState s) (Machine.met s p v) := SameRoom.met h 1

/-! ## A CALL cell that the CCU makes (R99) -/

theorem offer_call_taken (hclass : cellClass x = .call) (hvoice : x.kind ≠ .voice) (h : takesLocal s d .call = true) :
    offerAnswer s d x = .taken := offer_taken s d x (by rw [hclass]; exact h) hvoice

theorem offerEffect_call (hclass : cellClass x = .call) (h : offerAnswer s d x = .taken) :
    (offerEffect s d x).side d = { s.side d with insCall := (s.side d).insCall ++ [x] } := by
  rw [(offerEffect_taken s d x h).1, insPush, hclass]

theorem offerControl_of_taken (h : offerAnswer s d x = .taken) : offerControl s d x = offerEffect s d x :=
  if_pos (beq_iff_eq.2 h)

theorem offerControl_of_refused (h : offerAnswer s d x ≠ .taken) :
    offerControl s d x
      = (offerEffect s d x).countCcu (fun n => { n with controlRefused := satInc n.controlRefused }) :=
  if_neg (by rw [beq_iff_eq]; exact h)

/-- R99: a side that takes CALL cells takes what the CCU makes out of it, and nothing is counted. -/
theorem offerControl_call (hclass : cellClass x = .call) (hvoice : x.kind ≠ .voice) (h : takesLocal s d .call = true) :
    (offerControl s d x).side d = { s.side d with insCall := (s.side d).insCall ++ [x] }
      ∧ (offerControl s d x).ccu = s.ccu ∧ (offerControl s d x).node = s.node := by
  have htaken := offer_call_taken hclass hvoice h
  rw [offerControl_of_taken htaken]
  exact ⟨offerEffect_call hclass htaken, within_offerEffect s d x .ccu (by decide), (offerEffect_taken s d x htaken).2.2⟩

theorem offerControl_side (s : State) (d e : Side) (x : Cell) : (offerControl s d x).side e = (offerEffect s d x).side e := by
  unfold offerControl
  split
  · rfl
  · rfl

theorem offerControl_other (s : State) (d : Side) (x : Cell) :
    (offerControl s d x).side (otherSide d) = s.side (otherSide d) :=
  (offerControl_side s d (otherSide d) x).trans (offerEffect_other s d x)

theorem tqCall_insPush (v : Tiu) (x : Cell) : (insPush v x).tqCall = v.tqCall := by
  unfold insPush
  split
  · rfl
  · rfl
  · rfl
  · rfl
  · rfl

theorem tqCall_countQueueRefused (v : Tiu) (f : SideCounts → SideCounts) :
    Tiu.tqCall { v with counts := f v.counts } = v.tqCall := rfl

/-- R45: an offer leaves the transit queues alone. -/
theorem tqCall_offerEffect (s : State) (d e : Side) (x : Cell) : ((offerEffect s d x).side e).tqCall = (s.side e).tqCall := by
  have hput : ∀ w : Tiu, w.tqCall = (s.side d).tqCall → ((s.setSide d w).side e).tqCall = (s.side e).tqCall := by
    intro w hw
    rw [side_setSide]
    split
    · next he => rw [hw, he]
    · rfl
  unfold offerEffect
  split
  · split
    · exact hput _ (tqCall_insPush _ _)
    · rw [side_wakeSide]
      exact hput _ (tqCall_insPush _ _)
  · rfl
  · exact hput _ rfl
  · exact hput _ rfl
  · rfl

theorem tqCall_offerControl (s : State) (d e : Side) (x : Cell) :
    ((offerControl s d x).side e).tqCall = (s.side e).tqCall :=
  (congrArg Tiu.tqCall (offerControl_side s d e x)).trans (tqCall_offerEffect s d e x)

theorem inService_offerControl (s : State) (d e : Side) (x : Cell) : (offerControl s d x).inService e = s.inService e :=
  Handled.inService (Steady.then (Steady.offerControl d x) (settled_refl _)) e

/-- R45: an offer takes one buffer at most. -/
theorem poolHeld_offerEffect (s : State) (d : Side) (x : Cell) : (offerEffect s d x).poolHeld ≤ s.poolHeld + 1 := by
  have hpush : (s.setSide d (insPush (s.side d) x)).poolHeld ≤ s.poolHeld + 1 := by
    have hheld := poolHeld_setSide s d (insPush (s.side d) x)
    have hone := tiuHeld_insPush (s.side d) x
    split at hone
    · omega
    · omega
  unfold offerEffect
  split
  · split
    · exact hpush
    · rw [poolHeld_wakeSide]
      exact hpush
  · exact Nat.le_succ s.poolHeld
  · exact Nat.le_succ_of_le (Nat.le_of_eq (poolHeld_setSide_same rfl))
  · exact Nat.le_succ_of_le (Nat.le_of_eq (poolHeld_setSide_same rfl))
  · exact Nat.le_succ s.poolHeld

theorem poolHeld_offerControl (s : State) (d : Side) (x : Cell) : (offerControl s d x).poolHeld ≤ s.poolHeld + 1 := by
  have hheld : (offerControl s d x).poolHeld = (offerEffect s d x).poolHeld := by
    unfold offerControl
    split
    · rfl
    · rfl
  rw [hheld]
  exact poolHeld_offerEffect s d x

/-! ## A CALL cell at its arrival (R42) -/

theorem class_of_callCommands (h : (i, k) ∈ callCommands p c) : kindClass k = .call := by
  simp only [callCommands, List.mem_cons, Prod.mk.injEq, List.not_mem_nil, or_false] at h
  rcases h with ⟨_, rfl⟩ | ⟨_, rfl⟩ | ⟨_, rfl⟩ | ⟨_, rfl⟩ | ⟨_, rfl⟩ | ⟨_, rfl⟩ | ⟨_, rfl⟩
  all_goals rfl

/-- R37, R42: a granted CALL cell is taken by the CCU on the state it meets. -/
theorem exec_call_granted (h : (i, k) ∈ callCommands p c) (hgrant : cellGranted s p (cellOf k c) = true) :
    ∃ v, exec i s = .next (ended s (takeCall (met s p v) (s.sideOf p) (cellOf k c))) ∧ Admitted s p v := by
  obtain ⟨v, heq, hv⟩ := call_granted s p k c hgrant
  exact ⟨v, exec_done _ (by rw [exec_of_callCommands h, heq]), hv⟩

/-- R90: at a path node, or at a gateway that does not consume it. -/
theorem exec_call_at_path (h : (i, k) ∈ callCommands p c) (hgrant : cellGranted s p (cellOf k c) = true)
    (hpath : passesHere s c = true ∨ straysHere s c = true) :
    ∃ v, exec i s = .next (ended s (takeAtPath (met s p v) (s.sideOf p) (cellOf k c))) ∧ Admitted s p v := by
  obtain ⟨v, hexec, hv⟩ := exec_call_granted h hgrant
  refine ⟨v, hexec.trans (congrArg Host.Outcome.next (congrArg (ended s) ?_)), hv⟩
  exact hpath.elim (call_at_path (met s p v) (s.sideOf p) k c) (call_strays (met s p v) (s.sideOf p) k c)

theorem node_of_passes (h : passesHere s c = true) : s.isGateway = false := by
  simp only [passesHere, Bool.and_eq_true, Bool.not_eq_true'] at h
  exact h.1.1

theorem gateway_of_strays (h : straysHere s c = true) : s.isGateway = true := by
  simp only [straysHere, Bool.and_eq_true] at h
  exact h.1.1.1.1

/-! ## A CALL cell that goes on (R41, R44) -/

theorem forwardCell_of_call (hclass : cellClass x = .call) (h : takesCall s b = true)
    (hvoice : x.kind = .voice → heldIn (s.table b) (callOf x.toCellData) = true) :
    Within [.ports, .tiu] s (forwardCell s b x)
      ∧ (forwardCell s b x).side b = { s.side b with tqCall := (s.side b).tqCall ++ [hopped x] } := by
  have hplaced : transitAnswer s b x = .placed := by
    by_cases hkind : x.kind = .voice
    · exact transit_voice s b x h (hvoice hkind)
    · exact transit_call s b x h hkind
  obtain ⟨hwithin, hside⟩ := forward_placed s b x hplaced
  refine ⟨hwithin, hside.trans ?_⟩
  rw [transitPush, if_pos (beq_iff_eq.2 (show cellClass (hopped x) = .call from hclass))]

/-- R41, R91 to R96: a cell that continues after a change of the entries alone. -/
theorem path_goes_on (hv : Admitted s p v) (ht : Within [.srt] (met s p v) t) (hgw : s.isGateway = false)
    (hclass : cellClass x = .call) (htakes : takesCall s (otherSide a) = true)
    (hvoice : x.kind = .voice → heldIn (t.table (otherSide a)) (callOf x.toCellData) = true) :
    Within [.inHand, .ports, .tiu, .srt] s (ended s (carryOn t a x)) ∧ (ended s (carryOn t a x)).inHand = 0
      ∧ (∀ d, (ended s (carryOn t a x)).table d = t.table d)
      ∧ ((ended s (carryOn t a x)).side (otherSide a)).tqCall = (s.side (otherSide a)).tqCall ++ [hopped x] := by
  have hroom : SameRoom (grantedState s) t := (SameRoom.granted hv).trans (SameRoom.of_within ht (by decide))
  have htgw : t.isGateway = false := hroom.isGateway.trans hgw
  have htakesNow : takesCall { t with inHand := 0 } (otherSide a) = true := (hroom.takesCall (otherSide a)).trans htakes
  obtain ⟨hwithin, hside⟩ := forwardCell_of_call hclass htakesNow hvoice
  have hpass : carryOn t a x = forwardCell { t with inHand := 0 } (otherSide a) x := carryOn_node t a x htgw
  rw [hpass]
  have hall : Within [.inHand, .ports, .tiu, .srt] s (forwardCell { t with inHand := 0 } (otherSide a) x) :=
    ((within_met s p v).seq ht (parts := [.inHand, .ports, .srt])).seq
      ((within_withInHand t 0).seq hwithin (parts := [.inHand, .ports, .tiu]))
  refine ⟨within_ended hall, ended_inHand _ _, fun d => ?_, ?_⟩
  · rw [State.table, ended_srt]
    exact table_of_within hwithin (by decide) d
  · rw [ended_side, hside]
    exact congrArg (fun w : Tiu => w.tqCall ++ [hopped x]) (hroom.side (otherSide a))

/-! ## A setup at a path node (R91) -/

theorem takeAtPath_setup (h : x.kind = .callSetup) : takeAtPath s a x = pathSetup s a x := by
  unfold takeAtPath
  rw [h]

theorem table_reservePath_eq (a d : Side) (id : Identity) (g : Grade) :
    (reservePath s a id g).table d = s.table d ++ [pathEntry id g (if d = a then .origin else .gateway)] := by
  unfold reservePath
  dsimp only
  rw [table_setTable, table_setTable, table_setTable]
  cases a with
  | _ => cases d with
    | _ => rfl

end

section
variable {s : State} {p : Port} {a : Side} {id : Identity} {g : Grade} {c : CellData} {v : PortUnit}

theorem setupAnswer_of_named (h : namesCall (s.table a) id = true ∨ namesCall (s.table (otherSide a)) id = true) :
    setupAnswer s a id g = .refuse .duplicate := if_pos (Bool.or_eq_true_iff.2 h)

theorem setupAnswer_of_noRoute
    (hnamed : ¬ (namesCall (s.table a) id = true ∨ namesCall (s.table (otherSide a)) id = true))
    (h : s.inService (otherSide a) = false ∨ outerSide s (otherSide a) = true) :
    setupAnswer s a id g = .refuse .noRoute :=
  (if_neg (fun hor => hnamed (Bool.or_eq_true_iff.1 hor))).trans
    (if_pos (Bool.or_eq_true_iff.2 (h.imp (fun hout => by rw [hout]; rfl) (fun houter => houter))))

/-- R91: the third test is reached. -/
theorem setupAnswer_of_route
    (hnamed : ¬ (namesCall (s.table a) id = true ∨ namesCall (s.table (otherSide a)) id = true))
    (hroute : ¬ (s.inService (otherSide a) = false ∨ outerSide s (otherSide a) = true)) :
    setupAnswer s a id g
      = if tableFull (s.table a) || tableFull (s.table (otherSide a)) then
          if g == .accident && canYield (s.table a) && canYield (s.table (otherSide a)) then .preempt else .refuse .spanFull
        else .reserve :=
  (if_neg (fun hor => hnamed (Bool.or_eq_true_iff.1 hor))).trans
    (if_neg (fun hor => hroute ((Bool.or_eq_true_iff.1 hor).imp (fun hout => by simpa using hout) (fun houter => houter))))

theorem outerSide_iff (d : Side) : outerSide s d = true ↔ s.isGateway = true ∧ d = otherSide s.inner := by
  rw [outerSide, Bool.and_eq_true, beq_iff_eq]

theorem canYield_iff (q : List SrtEntry) : canYield q = true ↔ ¬ (8 ≤ q.length ∧ youngestBreakdown q = none) := by
  rw [canYield, Bool.or_eq_true, Bool.not_eq_true', Bool.eq_false_iff, ne_eq, tableFull_iff, Option.isSome_iff_ne_none,
    Classical.not_and_iff_not_or_not]

/-- R91: what a setup meets at the state it is taken on. -/
theorem setupAnswer_met (hv : Admitted s p v) (a : Side) : setupAnswer (met s p v) a id g = setupAnswer s a id g := by
  unfold setupAnswer
  dsimp only
  rw [hv.inService]
  rfl

theorem mem_callSetup (p : Port) (c : CellData) : (Instr.callSetup p c, Kind.callSetup) ∈ callCommands p c := by
  simp [callCommands]

theorem takeAtPath_setup_eq (a : Side) (c : CellData) :
    takeAtPath s a (cellOf .callSetup c) = pathSetup s a (cellOf .callSetup c) := takeAtPath_setup rfl

theorem pathSetup_of_refuse {r : RefuseReason} (h : setupAnswer s a (callOf c) (gradeOf c.aux6) = .refuse r) :
    pathSetup s a (cellOf .callSetup c) = makeRefuse { s with inHand := 0 } a (callOf c) c.aux6 r := by
  unfold pathSetup
  dsimp only
  rw [show setupAnswer s a (callOf (cellOf .callSetup c).toCellData) (gradeOf (cellOf .callSetup c).aux6) = .refuse r from h]
  rfl

theorem pathSetup_of_reserve (h : setupAnswer s a (callOf c) (gradeOf c.aux6) = .reserve) :
    pathSetup s a (cellOf .callSetup c)
      = carryOn (reservePath s a (callOf c) (gradeOf c.aux6)) a (cellOf .callSetup c) := by
  unfold pathSetup
  dsimp only
  rw [show setupAnswer s a (callOf (cellOf .callSetup c).toCellData) (gradeOf (cellOf .callSetup c).aux6) = .reserve from h]
  rfl

theorem pathSetup_of_preempt (h : setupAnswer s a (callOf c) (gradeOf c.aux6) = .preempt) :
    pathSetup s a (cellOf .callSetup c)
      = carryOn (preemptAndReserve s a (callOf c) (gradeOf c.aux6)) a (cellOf .callSetup c) := by
  unfold pathSetup
  dsimp only
  rw [show setupAnswer s a (callOf (cellOf .callSetup c).toCellData) (gradeOf (cellOf .callSetup c).aux6) = .preempt from h]
  rfl

/-- R91, R99: the CALL-REFUSE that a refused setup is answered with, and its count. -/
theorem makeRefuse_taken {r : RefuseReason} {grade : Byte} (h : takesLocal s a .call = true) :
    (makeRefuse s a id grade r).ccu = (countRefuse s r).ccu
      ∧ ((makeRefuse s a id grade r).side a).insCall
        = (s.side a).insCall ++ [makeCell s.station .callRefuse id.station (referenceOf id) grade (refuseCode r) 0 []] := by
  obtain ⟨hside, hccu, _⟩ := offerControl_call (s := countRefuse s r) (d := a)
    (x := callCell s.station .callRefuse id.station id grade (refuseCode r)) rfl nofun h
  exact ⟨hccu, congrArg Tiu.insCall hside⟩

/-- R91: a setup refused for a reason. -/
theorem exec_setup_refused {r : RefuseReason} {n : CcuCounts}
    (hpath : passesHere s c = true ∨ straysHere s c = true) (hgrant : cellGranted s p (cellOf .callSetup c) = true)
    (h : setupAnswer s (s.sideOf p) (callOf c) (gradeOf c.aux6) = .refuse r) (hn : (countRefuse s r).ccu = n) :
    ∃ t, exec (.callSetup p c) s = .next t ∧ Within [.inHand, .ports, .node, .tiu, .ccu] s t ∧ t.inHand = 0
      ∧ (t.side (otherSide (s.sideOf p))).tqCall = (s.side (otherSide (s.sideOf p))).tqCall
      ∧ (takesLocal (s.holding 0) (s.sideOf p) .call = true →
          t.ccu = n
            ∧ (t.side (s.sideOf p)).insCall
              = (s.side (s.sideOf p)).insCall
                ++ [makeCell s.station .callRefuse (callOf c).station (referenceOf (callOf c)) c.aux6 (refuseCode r) 0 []]) := by
  obtain ⟨v, hexec, hv⟩ := exec_call_at_path (mem_callSetup p c) hgrant hpath
  have hmet : setupAnswer (met s p v) (s.sideOf p) (callOf c) (gradeOf c.aux6) = .refuse r :=
    (setupAnswer_met hv (s.sideOf p)).trans h
  rw [takeAtPath_setup_eq, pathSetup_of_refuse hmet] at hexec
  have hwithin : Within [.inHand, .ports, .node, .tiu, .ccu] s
      (makeRefuse { met s p v with inHand := 0 } (s.sideOf p) (callOf c) c.aux6 r) :=
    ((within_met s p v).seq (within_withInHand (met s p v) 0) (parts := [.inHand, .ports])).seq
      (within_makeRefuse { met s p v with inHand := 0 } (s.sideOf p) (callOf c) c.aux6 r)
  refine ⟨_, hexec, within_ended hwithin, ended_inHand _ _, ?_, fun htakes => ?_⟩
  · rw [ended_side]
    exact tqCall_offerControl _ _ _ _
  · rw [ended_ccu, ended_side]
    obtain ⟨hccu, hins⟩ := makeRefuse_taken (s := { met s p v with inHand := 0 }) (id := callOf c) (grade := c.aux6) (r := r)
      ((takesLocal_met hv 0 (s.sideOf p) .call).trans htakes)
    exact ⟨hccu.trans hn, hins⟩

end

/-- Settles O26. -/
theorem pathSetupReservesBothSides : Obligations.PathSetupReservesBothSides := by
  intro p c s a b id hpasses hgrant hnamea hnameb hrooma hroomb htakes
  have hgw := node_of_passes hpasses
  obtain ⟨v, hexec, hv⟩ := exec_call_at_path (mem_callSetup p c) hgrant (.inl hpasses)
  have hin : s.inService b = true := (Bool.and_eq_true_iff.1 htakes).1
  have hanswer : setupAnswer (met s p v) a id (gradeOf c.aux6) = .reserve := by
    rw [setupAnswer_met hv, setupAnswer_of_route, if_neg]
    · rw [Bool.or_eq_true, tableFull_iff, tableFull_iff]
      exact fun hfull => hfull.elim (Nat.not_le.2 hrooma) (Nat.not_le.2 hroomb)
    · exact fun hnamed => hnamed.elim (Bool.eq_false_iff.1 hnamea) (Bool.eq_false_iff.1 hnameb)
    · rw [show s.inService (otherSide a) = true from hin, outerSide_node s (otherSide a) hgw]
      exact fun h => h.elim nofun nofun
  rw [takeAtPath_setup_eq, pathSetup_of_reserve hanswer] at hexec
  obtain ⟨hwithin, hhand, htable, hqueue⟩ := path_goes_on (x := cellOf .callSetup c) hv
    (within_reservePath (met s p v) a id (gradeOf c.aux6)) hgw rfl htakes nofun
  refine ⟨_, hexec, hwithin, hhand, ?_, ?_, hqueue⟩
  · rw [htable, table_reservePath_eq, if_pos rfl]
    rfl
  · rw [htable, table_reservePath_eq, if_neg (otherSide_ne a)]
    rfl

/-- Settles O27. -/
theorem pathSetupIsRefusedWithItsReason : Obligations.PathSetupIsRefusedWithItsReason := by
  intro p c s a b id named noRoute full stuck refused hpath hgrant
  refine ⟨fun hnamed => exec_setup_refused hpath hgrant (setupAnswer_of_named hnamed) rfl,
    fun hnamed hroute => exec_setup_refused hpath hgrant (setupAnswer_of_noRoute hnamed ?_) rfl,
    fun hnamed hroute hfull hkeeps => exec_setup_refused hpath hgrant (r := .spanFull) ?_ rfl⟩
  · exact hroute.imp (fun h => h) (outerSide_iff b).2
  · rw [setupAnswer_of_route hnamed (fun h => hroute (h.imp (fun h => h) (outerSide_iff b).1)), if_pos, if_neg]
    · rw [Bool.and_eq_true, Bool.and_eq_true, beq_iff_eq, canYield_iff, canYield_iff]
      intro h
      obtain ⟨⟨haccident, hyielda⟩, hyieldb⟩ := h
      rcases hkeeps with hgrade | hstuck | hstuck
      · rw [hgrade] at haccident
        cases haccident
      · exact hyielda hstuck
      · exact hyieldb hstuck
    · rw [Bool.or_eq_true, tableFull_iff, tableFull_iff]
      exact hfull

end Sys2Proof.Machine
end

section
/-! PROOFS. CALL cells other than a setup at a path node: what they change, what stops and what strays (O29, O30). -/

set_option Elab.async false

namespace Sys2Proof.Machine

section
variable {s t : State} {p : Port} {a d : Side} {c : CellData} {i : Instr} {k : Kind} {x : Cell} {v : PortUnit}
  {id : Identity} {n : Nat} {f : SrtEntry → SrtEntry}

/-! ## The entries of a call (R89) -/

theorem holdsCall_iff (a : Side) :
    holdsCall s id = true ↔ namesCall (s.table a) id = true ∨ namesCall (s.table (otherSide a)) id = true := by
  rw [holdsCall, Bool.or_eq_true]
  cases a with
  | up => exact Iff.rfl
  | down => exact or_comm

theorem not_holdsCall (ha : namesCall (s.table a) id = false) (hb : namesCall (s.table (otherSide a)) id = false) :
    holdsCall s id = false := by
  rw [Bool.eq_false_iff, ne_eq, holdsCall_iff a, ha, hb]
  exact fun h => h.elim nofun nofun

theorem changeBoth_table (d : Side) : (changeBoth s id f).table d = changeCall (s.table d) id f := by
  unfold changeBoth
  rw [table_setTable, table_setTable]
  cases d with
  | _ => rfl

theorem releaseBoth_table (d : Side) : (releaseBoth s id).table d = tableWithout (s.table d) id := by
  unfold releaseBoth releaseEntry
  rw [table_setTable, table_setTable, table_setTable]
  cases d with
  | _ => rfl

theorem heldIn_watched (table : List SrtEntry) : heldIn (changeCall table id watchedEntry) id = heldIn table id := by
  rw [heldIn, heldIn, changeCall, List.any_map]
  refine congrArg (fun g => List.any table g) (funext fun e => ?_)
  show (Function.comp (fun y : SrtEntry => y.identity == id && y.held) _) e = _
  dsimp only [Function.comp]
  split
  · unfold watchedEntry
    split
    · rfl
    · rfl
  · rfl

theorem changeCall_watched (table : List SrtEntry) :
    changeCall table id watchedEntry
      = table.map (fun e => if e.identity = id ∧ e.held = true then { e with timer := some 3000 } else e) := by
  refine List.map_congr_left fun e _ => ?_
  by_cases hid : e.identity = id
  · rw [if_pos hid, watchedEntry]
    by_cases hheld : e.held = true
    · rw [if_pos hheld, if_pos ⟨hid, hheld⟩]
      rfl
    · rw [if_neg hheld, if_neg (fun h => hheld h.2)]
  · rw [if_neg hid, if_neg (fun h => hid h.1)]

/-! ## CALL-BROKEN (R99, R100) -/

/-- R99: of the CCU's counts an offer changes CONTROL-REFUSED alone. -/
theorem offerControl_ccu (s : State) (d : Side) (x : Cell) :
    (offerControl s d x).ccu = { s.ccu with controlRefused := (offerControl s d x).ccu.controlRefused } := by
  have hccu : (offerEffect s d x).ccu = s.ccu := within_offerEffect s d x .ccu (by decide)
  unfold offerControl
  split
  · rw [hccu]
  · rw [State.countCcu, hccu]

theorem makeBroken_taken {target grade : Byte} {r : BrokenReason} (h : takesLocal s d .call = true) :
    (makeBroken s d target id grade r).ccu = (countBroken s r).ccu
      ∧ (makeBroken s d target id grade r).side d
        = { s.side d with
            insCall := (s.side d).insCall
              ++ [makeCell s.station .callBroken target (referenceOf id) grade (brokenCode r) 0 []] } := by
  obtain ⟨hside, hccu, _⟩ := offerControl_call (s := countBroken s r) (d := d)
    (x := callCell s.station .callBroken target id grade (brokenCode r)) rfl nofun h
  exact ⟨hccu, hside⟩

theorem poolHeld_holding (s : State) (n : Nat) : (s.holding (n + 1)).poolHeld = (s.holding n).poolHeld + 1 := by
  have hmore := poolHeld_withInHand s (n + 1)
  have hless := poolHeld_withInHand s n
  rw [State.holding, State.holding]
  omega

/-- R45: the other side still takes what it would take with one buffer more in hand, whatever became of the offer. -/
theorem takesLocal_after_offer {k : Class} (hroom : SameRoom (s.holding n) t)
    (h : takesLocal (s.holding (n + 1)) (otherSide d) k = true) : takesLocal (offerControl t d x) (otherSide d) k = true := by
  unfold takesLocal at h ⊢
  rw [inService_offerControl, offerControl_other, hroom.service, hroom.side]
  rw [Bool.and_eq_true, decide_eq_true_eq] at h ⊢
  refine ⟨h.1, Nat.le_trans h.2 ?_⟩
  have hheld := poolHeld_offerControl t d x
  have hone := poolHeld_holding s n
  have hpool := hroom.pool
  rw [poolFree_eq] at hpool ⊢
  rw [poolFree_eq] at hpool ⊢
  omega

theorem offerControl_back (s : State) (a : Side) (x : Cell) : (offerControl s (otherSide a) x).side a = s.side a := by
  have hother := offerControl_other s (otherSide a) x
  rwa [other_other] at hother

/-! ## What a path node makes of each kind -/

theorem takeAtPath_release (h : x.kind = .callRefuse ∨ x.kind = .callRelease ∨ x.kind = .callBroken) :
    takeAtPath s a x = carryOn (releasePath s (callOf x.toCellData)) a x := by
  unfold takeAtPath
  rcases h with h | h | h
  · rw [h]
    rfl
  · rw [h]
    rfl
  · rw [h]
    rfl

theorem takeAtPath_accept (a : Side) (c : CellData) :
    takeAtPath s a (cellOf .callAccept c)
      = if holdsCall s (callOf c) then carryOn (changePath s (callOf c) heldEntry) a (cellOf .callAccept c)
        else lostAccept s a (callOf c) := rfl

theorem takeAtPath_upgrade (a : Side) (c : CellData) :
    takeAtPath s a (cellOf .callUpgrade c)
      = if holdsCall s (callOf c) then carryOn (changePath s (callOf c) upgradedEntry) a (cellOf .callUpgrade c)
        else countUpgradeDropped { s with inHand := 0 } := rfl

theorem takeAtPath_voice (a : Side) (c : CellData) :
    takeAtPath s a (cellOf .voice c) = carryOn (changePath s (callOf c) watchedEntry) a (cellOf .voice c) := rfl

/-- R8: at a gateway a cell that continues ends UNDELIVERED, and its entries stay (R181 to R183). -/
theorem takeAtPath_strays (hgw : s.isGateway = true)
    (h : k = .callRefuse ∨ k = .callRelease ∨ k = .callBroken ∨ k = .voice) :
    takeAtPath s a (cellOf k c) = countUndelivered { s with inHand := 0 } := by
  have hrelease : carryOn (releasePath s (callOf c)) a (cellOf k c) = countUndelivered { s with inHand := 0 } := by
    rw [releasePath_gateway s (callOf c) hgw, carryOn_gateway s a (cellOf k c) hgw]
  rcases h with rfl | rfl | rfl | rfl
  · exact hrelease
  · exact hrelease
  · exact hrelease
  · rw [takeAtPath_voice, changePath_gateway s (callOf c) watchedEntry hgw, carryOn_gateway s a (cellOf .voice c) hgw]

theorem within_changed : Within [.srt] (met s p v) (changePath (met s p v) id f) :=
  within_changePath (met s p v) id f

theorem changePath_table (hgw : s.isGateway = false) (d : Side) :
    (changePath (met s p v) id f).table d = changeCall (s.table d) id f := by
  rw [changePath_node (met s p v) id f hgw, changeBoth_table]
  rfl

theorem ccu_counted {f : CcuCounts → CcuCounts} {m : State} (hm : Within [.inHand, .ports] s m) :
    Within [.inHand, .ports, .ccu] s (ended s (m.countCcu f)) ∧ (ended s (m.countCcu f)).ccu = f s.ccu := by
  refine ⟨within_ended (hm.seq (within_countCcu m f) (parts := [.inHand, .ports, .ccu])), ?_⟩
  rw [ended_ccu]
  exact congrArg f (hm .ccu (by decide))

theorem within_met_dropped (s : State) (p : Port) (v : PortUnit) :
    Within [.inHand, .ports] s { met s p v with inHand := 0 } :=
  (within_met s p v).trans (within_withInHand (met s p v) 0).widen

/-! ## Cells that a node stops (R90) -/

/-- R6: no CALL kind may be targeted ALL. -/
theorem not_allowsAll_of_call : ∀ {k : Kind}, kindClass k = .call → allowsAll k = false := by
  intro k
  cases k with
  | _ => decide

theorem takeCall_misdirected (hclass : kindClass k = .call) (hok : headerOk (cellOf k c) = true)
    (h : (callOf c).station = s.station ∧ c.target ≠ s.station ∧ (s.isGateway = true → c.target ≠ 254)
      ∨ s.isGateway = false ∧ (callOf c).station ≠ s.station ∧ c.target = s.station) :
    takeCall s a (cellOf k c) = misdirected s := by
  have hall : c.target ≠ 255 := by
    simp only [headerOk, Bool.and_eq_true, Bool.or_eq_true, bne_iff_ne] at hok
    refine fun htarget => hok.1.1.1.2.elim (fun hne => hne htarget) (fun hallows => ?_)
    exact Bool.false_ne_true ((not_allowsAll_of_call hclass).symm.trans hallows)
  rcases h with ⟨hcall, htarget, hany⟩ | ⟨hgw, hcall, htarget⟩
  · have hkept : ¬ (s.isGateway && carriage s (cellOf k c) == .consume) = true := by
      rw [Bool.and_eq_true, beq_iff_eq]
      rintro ⟨hgw, hconsume⟩
      rw [carriage_of_stray hgw htarget hall (hany hgw)] at hconsume
      cases hconsume
    exact ((if_neg hkept).trans (if_pos hcall)).trans (if_neg htarget)
  · have hkept : ¬ (s.isGateway && carriage s (cellOf k c) == .consume) = true := by
      rw [hgw]
      exact Bool.false_ne_true
    exact ((if_neg hkept).trans (if_neg hcall)).trans (if_pos htarget)

theorem headerOk_of_granted (h : cellGranted s p x = true) : headerOk x = true := by
  simp only [cellGranted, Bool.and_eq_true] at h
  exact (receives_of_taken h.1.1).2.1

theorem mem_callAccept (p : Port) (c : CellData) : (Instr.callAccept p c, Kind.callAccept) ∈ callCommands p c := by
  simp [callCommands]

theorem mem_callUpgrade (p : Port) (c : CellData) : (Instr.callUpgrade p c, Kind.callUpgrade) ∈ callCommands p c := by
  simp [callCommands]

theorem mem_voice (p : Port) (c : CellData) : (Instr.voice p c, Kind.voice) ∈ callCommands p c := by
  simp [callCommands]

/-- The commands that bring a cell that ends a call. -/
def endCommands (p : Port) (c : CellData) : List (Instr × Kind) :=
  [(.callRefuse p c, .callRefuse), (.callRelease p c, .callRelease), (.callBroken p c, .callBroken)]

theorem endCommands_cases (h : (i, k) ∈ endCommands p c) :
    (i, k) ∈ callCommands p c ∧ (k = .callRefuse ∨ k = .callRelease ∨ k = .callBroken) := by
  simp only [endCommands, List.mem_cons, Prod.mk.injEq, List.not_mem_nil, or_false] at h
  rcases h with ⟨rfl, rfl⟩ | ⟨rfl, rfl⟩ | ⟨rfl, rfl⟩
  · exact ⟨by simp [callCommands], .inl rfl⟩
  · exact ⟨by simp [callCommands], .inr (.inl rfl)⟩
  · exact ⟨by simp [callCommands], .inr (.inr rfl)⟩

/-- R90: a cell that names a call of this station but is targeted elsewhere, or is targeted here for another's call. -/
theorem exec_call_misdirected (h : (i, k) ∈ callCommands p c) (hgrant : cellGranted s p (cellOf k c) = true)
    (hwrong : (callOf c).station = s.station ∧ c.target ≠ s.station ∧ (s.isGateway = true → c.target ≠ 254)
      ∨ s.isGateway = false ∧ (callOf c).station ≠ s.station ∧ c.target = s.station) :
    ∃ t, exec i s = .next t ∧ Within [.inHand, .ports, .ccu] s t ∧ t.inHand = 0
      ∧ t.ccu = { s.ccu with callMisdirected := satInc s.ccu.callMisdirected } := by
  obtain ⟨v, hexec, hv⟩ := exec_call_granted h hgrant
  rw [takeCall_misdirected (s := met s p v) (class_of_callCommands h) (headerOk_of_granted hgrant) hwrong] at hexec
  obtain ⟨hwithin, hccu⟩ := ccu_counted (f := fun n => { n with callMisdirected := satInc n.callMisdirected })
    (within_met_dropped s p v)
  exact ⟨_, hexec, hwithin, ended_inHand _ _, hccu⟩

/-! ## Cells that stray at a gateway (R8, R90) -/

theorem exec_call_strays (h : (i, k) ∈ callCommands p c) (hgrant : cellGranted s p (cellOf k c) = true)
    (hstrays : straysHere s c = true) (hk : k = .callRefuse ∨ k = .callRelease ∨ k = .callBroken ∨ k = .voice) :
    ∃ t, exec i s = .next t ∧ Within [.inHand, .ports, .node] s t ∧ t.inHand = 0
      ∧ t.node = { s.node with undelivered := satInc s.node.undelivered } := by
  obtain ⟨v, hexec, hv⟩ := exec_call_at_path h hgrant (.inr hstrays)
  rw [takeAtPath_strays (s := met s p v) (gateway_of_strays hstrays) hk] at hexec
  obtain ⟨hwithin, hnode⟩ := dropped_counts (f := fun n => { n with undelivered := satInc n.undelivered })
    (within_met_dropped s p v)
  exact ⟨_, hexec, hwithin, ended_inHand _ _, hnode⟩

/-- R95: a CALL-UPGRADE of a call that the node does not hold. -/
theorem exec_upgrade_dropped (hgrant : cellGranted s p (cellOf .callUpgrade c) = true)
    (hpath : passesHere s c = true ∨ straysHere s c = true) (h : holdsCall s (callOf c) = false) :
    ∃ t, exec (.callUpgrade p c) s = .next t ∧ Within [.inHand, .ports, .ccu] s t ∧ t.inHand = 0
      ∧ t.ccu = { s.ccu with upgradeDropped := satInc s.ccu.upgradeDropped } := by
  obtain ⟨v, hexec, hv⟩ := exec_call_at_path (mem_callUpgrade p c) hgrant hpath
  have hnot : ¬ holdsCall (met s p v) (callOf c) = true := Bool.eq_false_iff.1 h
  rw [takeAtPath_upgrade, if_neg hnot] at hexec
  obtain ⟨hwithin, hccu⟩ := ccu_counted (f := fun n => { n with upgradeDropped := satInc n.upgradeDropped })
    (within_met_dropped s p v)
  exact ⟨_, hexec, hwithin, ended_inHand _ _, hccu⟩

/-! ## Cells that change the entries and go on (R93 to R96) -/

theorem exec_path_released (h : (i, k) ∈ endCommands p c) (hgrant : cellGranted s p (cellOf k c) = true)
    (hpasses : passesHere s c = true) (htakes : takesCall s (otherSide (s.sideOf p)) = true) :
    ∃ t, exec i s = .next t ∧ Within [.inHand, .ports, .tiu, .srt] s t
      ∧ (∀ d, t.table d = tableWithout (s.table d) (callOf c))
      ∧ (t.side (otherSide (s.sideOf p))).tqCall
        = (s.side (otherSide (s.sideOf p))).tqCall ++ [{ cellOf k c with hops := c.hops + 1 }] := by
  have hgw := node_of_passes hpasses
  obtain ⟨hcall, hk⟩ := endCommands_cases h
  obtain ⟨v, hexec, hv⟩ := exec_call_at_path hcall hgrant (.inl hpasses)
  rw [takeAtPath_release (x := cellOf k c) hk, releasePath_node _ _ (by exact hgw)] at hexec
  obtain ⟨hwithin, _, htable, hqueue⟩ := path_goes_on (a := s.sideOf p) (x := cellOf k c) hv
    (within_releaseBoth (met s p v) (callOf c)) hgw (class_of_callCommands hcall) htakes
    (fun hvoice => by
      rcases hk with rfl | rfl | rfl
      · cases hvoice
      · cases hvoice
      · cases hvoice)
  exact ⟨_, hexec, hwithin, fun d => (htable d).trans (releaseBoth_table d), hqueue⟩

/-- R93, R95: a cell that changes the entries that the node holds. -/
theorem path_changed (hv : Admitted s p v) (hgw : s.isGateway = false) (hclass : cellClass x = .call)
    (hkind : x.kind ≠ .voice) (htakes : takesCall s (otherSide a) = true) :
    Within [.inHand, .ports, .tiu, .srt] s (ended s (carryOn (changePath (met s p v) id f) a x))
      ∧ (∀ d, (ended s (carryOn (changePath (met s p v) id f) a x)).table d = changeCall (s.table d) id f)
      ∧ ((ended s (carryOn (changePath (met s p v) id f) a x)).side (otherSide a)).tqCall
        = (s.side (otherSide a)).tqCall ++ [hopped x] := by
  obtain ⟨hwithin, _, htable, hqueue⟩ := path_goes_on (a := a) (x := x) hv within_changed hgw hclass htakes
    (fun hvoice => absurd hvoice hkind)
  exact ⟨hwithin, fun d => (htable d).trans (changePath_table hgw d), hqueue⟩

/-- R44, R96: a VOICE whose call is HELD on the way on. -/
theorem voice_goes_on (hv : Admitted s p v) (hgw : s.isGateway = false) (hkind : x.kind = .voice)
    (htakes : takesCall s (otherSide a) = true) (hheld : heldIn (s.table (otherSide a)) (callOf x.toCellData) = true) :
    Within [.inHand, .ports, .tiu, .srt] s
        (ended s (carryOn (changePath (met s p v) (callOf x.toCellData) watchedEntry) a x))
      ∧ (∀ d, (ended s (carryOn (changePath (met s p v) (callOf x.toCellData) watchedEntry) a x)).table d
          = changeCall (s.table d) (callOf x.toCellData) watchedEntry)
      ∧ ((ended s (carryOn (changePath (met s p v) (callOf x.toCellData) watchedEntry) a x)).side (otherSide a)).tqCall
        = (s.side (otherSide a)).tqCall ++ [hopped x] := by
  obtain ⟨hwithin, _, htable, hqueue⟩ := path_goes_on (a := a) (x := x) hv within_changed hgw
    (by rw [cellClass, hkind]; rfl) htakes
    (fun _ => by rw [changePath_table hgw, heldIn_watched]; exact hheld)
  exact ⟨hwithin, fun d => (htable d).trans (changePath_table hgw d), hqueue⟩

/-- R44, R96: a VOICE whose call is not HELD on the way on stops there. -/
theorem voice_stops (hv : Admitted s p v) (hgw : s.isGateway = false) (hkind : x.kind = .voice)
    (hin : s.inService (otherSide a) = true) (hbare : heldIn (s.table (otherSide a)) (callOf x.toCellData) = false) :
    Within [.inHand, .ports, .tiu, .srt] s
        (ended s (carryOn (changePath (met s p v) (callOf x.toCellData) watchedEntry) a x))
      ∧ (∀ d, (ended s (carryOn (changePath (met s p v) (callOf x.toCellData) watchedEntry) a x)).table d
          = changeCall (s.table d) (callOf x.toCellData) watchedEntry)
      ∧ (ended s (carryOn (changePath (met s p v) (callOf x.toCellData) watchedEntry) a x)).side (otherSide a)
        = { s.side (otherSide a) with
            counts := { (s.side (otherSide a)).counts with
              voiceUnreserved := satInc (s.side (otherSide a)).counts.voiceUnreserved } } := by
  generalize ht : changePath (met s p v) (callOf x.toCellData) watchedEntry = t
  have hchanged : Within [.srt] (met s p v) t := by
    rw [← ht]
    exact within_changed
  have htable : ∀ d, t.table d = changeCall (s.table d) (callOf x.toCellData) watchedEntry := by
    rw [← ht]
    exact changePath_table hgw
  have hroom : SameRoom (grantedState s) t := (SameRoom.granted hv).trans (SameRoom.of_within hchanged (by decide))
  have hanswer : transitAnswer { t with inHand := 0 } (otherSide a) x = .voiceUnreserved := by
    refine (if_neg ?_).trans (if_pos ?_)
    · rw [show State.inService { t with inHand := 0 } (otherSide a) = true from (hroom.service _).trans hin]
      exact Bool.false_ne_true
    · refine unreserved_iff.2 ⟨hkind, ?_⟩
      show heldIn (t.table (otherSide a)) (callOf x.toCellData) = false
      rw [htable, heldIn_watched]
      exact hbare
  have hpass : carryOn t a x
      = State.countSide { t with inHand := 0 } (otherSide a)
          (fun n => { n with voiceUnreserved := satInc n.voiceUnreserved }) := by
    rw [carryOn_node t a x (hroom.isGateway.trans hgw), passOn, forwardCell, hanswer]
  rw [hpass]
  have hall : Within [.inHand, .ports, .tiu, .srt] s
      (State.countSide { t with inHand := 0 } (otherSide a)
        (fun n => { n with voiceUnreserved := satInc n.voiceUnreserved })) :=
    ((within_met s p v).seq hchanged (parts := [.inHand, .ports, .srt])).seq
      ((within_withInHand t 0).seq (within_countSide _ _ _) (parts := [.inHand, .tiu]))
  refine ⟨within_ended hall, fun d => ?_, ?_⟩
  · rw [State.table, ended_srt]
    exact htable d
  · rw [ended_side, State.countSide, setSide_side]
    rw [show State.side { t with inHand := 0 } (otherSide a) = s.side (otherSide a) from hroom.side _]

/-! ## An accept whose path is gone (R93) -/

/-- The state in which the CALL-BROKENs of a lost accept are made. -/
def acceptDropped (s : State) : State := { s with inHand := 0, freeUses := s.freeUses + 2 }

theorem lostAccept_eq (s : State) (a : Side) (id : Identity) :
    lostAccept s a id
      = makeBroken (makeBroken (acceptDropped s) a anyGateway id (freeGrade s.freeUses) .lost) (otherSide a) id.station id
          (freeGrade (s.freeUses + 1)) .lost := rfl

theorem room_acceptDropped (hv : Admitted s p v) : SameRoom (s.holding 0) (acceptDropped (met s p v)) :=
  (SameRoom.met hv 0).trans
    (SameRoom.of_within (within_withFreeUses { met s p v with inHand := 0 } (s.freeUses + 2)) (by decide))

theorem brokenLost_makeBroken {target grade : Byte} :
    (makeBroken s d target id grade .lost).ccu.brokenLost = satInc s.ccu.brokenLost := by
  unfold makeBroken
  rw [offerControl_ccu]
  rfl

theorem tqCall_makeBroken {target grade : Byte} {r : BrokenReason} (e : Side) :
    ((makeBroken s d target id grade r).side e).tqCall = (s.side e).tqCall :=
  tqCall_offerControl _ _ _ _

theorem lostAccept_parts_srt (s : State) (a : Side) (id : Identity) : (lostAccept s a id).srt = s.srt :=
  lostAccept_parts s a id .srt (by decide)

end

/-- Settles O29. -/
theorem pathAcceptHoldsOrBreaks : Obligations.PathAcceptHoldsOrBreaks := by
  intro p c s a b id hpath hgrant
  obtain ⟨v, hexec, hv⟩ := exec_call_at_path (mem_callAccept p c) hgrant hpath
  rw [takeAtPath_accept] at hexec
  refine ⟨fun hgw hnamed htakes => ?_, fun hnamea hnameb => ?_⟩
  · have hholds : holdsCall (met s p v) id = true := (holdsCall_iff (s := s) a).2 hnamed
    rw [if_pos hholds] at hexec
    obtain ⟨hwithin, htable, hqueue⟩ := path_changed (id := id) (f := heldEntry) (a := a) (x := cellOf .callAccept c) hv hgw rfl
      nofun htakes
    exact ⟨_, hexec, hwithin, htable, hqueue⟩
  · have hnot : ¬ holdsCall (met s p v) id = true := Bool.eq_false_iff.1 (not_holdsCall (s := s) hnamea hnameb)
    rw [if_neg hnot, lostAccept_eq] at hexec
    have hroom := room_acceptDropped hv
    refine ⟨_, hexec, ?_, ?_, ?_, fun htakes => ⟨freeGrade s.freeUses, ?_⟩,
      fun htakes => ⟨freeGrade (s.freeUses + 1), ?_⟩⟩
    · rw [ended_srt]
      exact lostAccept_parts_srt (met s p v) a id
    · rw [ended_side, tqCall_makeBroken, tqCall_makeBroken]
      rfl
    · rw [ended_ccu, brokenLost_makeBroken, brokenLost_makeBroken]
      rfl
    · have htaken : takesLocal (acceptDropped (met s p v)) a .call = true := (hroom.takesLocal a .call).trans htakes
      rw [ended_side]
      refine (congrArg Tiu.insCall (offerControl_back _ a _)).trans ?_
      exact congrArg Tiu.insCall (makeBroken_taken htaken).2
    · have htaken : takesLocal (makeBroken (acceptDropped (met s p v)) a anyGateway id (freeGrade s.freeUses) .lost) b .call
          = true :=
        takesLocal_after_offer
          (hroom.trans (SameRoom.of_within (within_countCcu (acceptDropped (met s p v)) _) (by decide))) htakes
      have hside : (makeBroken (acceptDropped (met s p v)) a anyGateway id (freeGrade s.freeUses) .lost).side b = s.side b :=
        offerControl_other _ _ _
      have hstation : (makeBroken (acceptDropped (met s p v)) a anyGateway id (freeGrade s.freeUses) .lost).station
          = s.station :=
        congrArg strapStation (within_makeBroken (acceptDropped (met s p v)) a anyGateway id (freeGrade s.freeUses) .lost
          .straps (by decide))
      rw [ended_side]
      refine (congrArg Tiu.insCall (makeBroken_taken htaken).2).trans ?_
      rw [hside, hstation]
      rfl

/-- Settles O30. -/
theorem pathCellsChangeTheEntries : Obligations.PathCellsChangeTheEntries := by
  refine ⟨fun p c s => ?_, fun id e s hlive htimed => ?_, fun p c s => ?_, fun p c i k s h hgrant hwrong =>
    exec_call_misdirected h hgrant hwrong⟩
  · intro b id hpasses htakes
    have hgw := node_of_passes hpasses
    refine ⟨fun i k h hgrant => exec_path_released h hgrant hpasses htakes,
      fun hgrant => ⟨fun hnamed => ?_, fun hup hdown => ?_⟩, fun hgrant => ?_⟩
    · obtain ⟨v, hexec, hv⟩ := exec_call_at_path (mem_callUpgrade p c) hgrant (.inl hpasses)
      have hholds : holdsCall (met s p v) id = true := (holdsCall_iff (s := s) .up).2 hnamed
      rw [takeAtPath_upgrade, if_pos hholds] at hexec
      obtain ⟨hwithin, htable, hqueue⟩ := path_changed (id := id) (f := upgradedEntry) (a := s.sideOf p)
        (x := cellOf .callUpgrade c) hv hgw rfl nofun htakes
      exact ⟨_, hexec, hwithin, htable, hqueue⟩
    · obtain ⟨t, hexec, hwithin, _, hccu⟩ := exec_upgrade_dropped hgrant (.inl hpasses)
        (not_holdsCall (a := .up) hup hdown)
      exact ⟨t, hexec, hwithin, hccu⟩
    · obtain ⟨v, hexec, hv⟩ := exec_call_at_path (mem_voice p c) hgrant (.inl hpasses)
      rw [takeAtPath_voice] at hexec
      cases hheld : heldIn (s.table b) id with
      | true =>
        obtain ⟨hwithin, htable, hqueue⟩ := voice_goes_on (a := s.sideOf p) (x := cellOf .voice c) hv hgw rfl htakes hheld
        exact ⟨_, hexec, hwithin, fun d => (htable d).trans (changeCall_watched _), fun _ => hqueue, nofun⟩
      | false =>
        obtain ⟨hwithin, htable, hside⟩ := voice_stops (a := s.sideOf p) (x := cellOf .voice c) hv hgw rfl
          (Bool.and_eq_true_iff.1 htakes).1 hheld
        refine ⟨_, hexec, hwithin, fun d => (htable d).trans (changeCall_watched _), nofun, fun _ => ?_⟩
        have hqueue := congrArg Tiu.tqCall hside
        have hcount := congrArg (fun w : Tiu => w.counts.voiceUnreserved) hside
        exact ⟨hqueue, hcount⟩
  · refine ⟨ended s (countPathExpiry (releaseBoth s id) e.held), ?_, ?_, fun d => ?_, ?_⟩
    · refine exec_done _ ?_
      show execPathEntryTimerExpiry id s = _
      rw [execPathEntryTimerExpiry, if_pos hlive, htimed]
    · exact within_ended ((within_releaseBoth s id).seq (within_countPathExpiry (releaseBoth s id) e.held)
        (parts := [.inHand, .ports, .srt, .ccu]))
    · rw [State.table, ended_srt]
      exact releaseBoth_table d
    · rw [ended_ccu]
      rfl
  · intro id hstrays hup hdown
    refine ⟨fun i k h hgrant => ?_, fun hgrant =>
      exec_upgrade_dropped hgrant (.inr hstrays) (not_holdsCall (a := .up) hup hdown)⟩
    simp only [List.mem_cons, Prod.mk.injEq, List.not_mem_nil, or_false] at h
    rcases h with ⟨rfl, rfl⟩ | ⟨rfl, rfl⟩ | ⟨rfl, rfl⟩ | ⟨rfl, rfl⟩
    · exact exec_call_strays (by simp [callCommands]) hgrant hstrays (.inl rfl)
    · exact exec_call_strays (by simp [callCommands]) hgrant hstrays (.inr (.inl rfl))
    · exact exec_call_strays (by simp [callCommands]) hgrant hstrays (.inr (.inr (.inl rfl)))
    · exact exec_call_strays (mem_voice p c) hgrant hstrays (.inr (.inr (.inr rfl)))

end Sys2Proof.Machine
end

section
/-! PROOFS. Attempts of a Call Record (R82, R84, R184), and the calls that begin, end and are graded at a phone (O32 to
O34). -/

set_option Elab.async false

namespace Sys2Proof.Machine

section
variable {s t u : State} {l m : Line} {d : Side} {r : CallRecord} {n : Nat} {id : Identity} {g : Grade} {w : Timer}

/-! ## Lines and tables after an update -/

theorem line_setLine (s : State) (l m : Line) (x : PhoneLine) : (s.setLine l x).line m = if m = l then x else s.line m := by
  cases l with
  | _ => cases m with
    | _ => rfl

theorem line_setLine_ne (x : PhoneLine) (h : m ≠ l) : (s.setLine l x).line m = s.line m :=
  (line_setLine s l m x).trans (if_neg h)

theorem ended_line (s t : State) (l : Line) : (ended s t).line l = t.line l := by rw [State.line, ended_lines, State.line]
theorem ended_table (s t : State) (d : Side) : (ended s t).table d = t.table d := by rw [State.table, ended_srt, State.table]

/-! ## An attempt toward a gateway (R82) -/

/-- R82: an attempt of the record taken out of side `d`. -/
def sought (s : State) (l : Line) (r : CallRecord) (d : Side) : State :=
  countAttempt
    (setRecord (offerEffect (reserveOwn s l d r) d (setupCell s (nextIdentity s l) r.grade)) l
      (seekingRecord r (nextIdentity s l) d)) l

/-- R82, R92: the attempt is taken out of its direction, where its table has room or makes room. -/
theorem attemptSteps_taken {may : Bool} {spoken : Spoken} {broken : Spoken → State → Line → State} {v : Option Line}
    (hdir : recordDirection s r = some d) (hroom : ownRoom may spoken s d r = some (t, v))
    (hu : settleVictim (broken (spokenOwn d)) t v = u) (htakes : takesLocal u d .call = true) :
    attemptSteps may spoken broken (n + 1) s l r = sought u l r d := by
  have htaken : offerAnswer (reserveOwn u l d r) d (setupCell (reserveOwn u l d r) (nextIdentity u l) r.grade) = .taken :=
    offer_call_taken rfl nofun
      (((SameRoom.of_within (within_reserveOwn u l d r) (by decide)).takesLocal d .call).trans htakes)
  rw [attemptSteps, hdir]
  dsimp only
  rw [hroom]
  dsimp only
  rw [hu]
  exact if_pos (beq_iff_eq.2 htaken)

theorem attemptSteps_waits {may : Bool} {spoken : Spoken} {broken : Spoken → State → Line → State}
    (hdir : recordDirection s r = none) : attemptSteps may spoken broken (n + 1) s l r = enterWaiting s l r := by
  rw [attemptSteps, hdir]

theorem ownRoom_of_room {may : Bool} {spoken : Spoken} (h : (s.table d).length + spoken d < 8) :
    ownRoom may spoken s d r = some (s, none) := if_pos (not_tableTaken_iff.2 h)

/-- R82: an attempt at a node whose direction has a place in its table. -/
theorem attempt_taken (hgw : s.isGateway = false) (hdir : recordDirection s r = some d) (hroom : (s.table d).length < 8)
    (htakes : takesLocal s d .call = true) : attempt s l r = sought s l r d :=
  (if_neg (Bool.eq_false_iff.1 hgw)).trans (attemptSteps_taken hdir (ownRoom_of_room hroom) rfl htakes)

/-- R84: an attempt at a node that has no direction. -/
theorem attempt_waits (hgw : s.isGateway = false) (hdir : recordDirection s r = none) : attempt s l r = enterWaiting s l r :=
  (if_neg (Bool.eq_false_iff.1 hgw)).trans (attemptSteps_waits hdir)

theorem attempt_of_gateway (hgw : s.isGateway = true) : attempt s l r = officeAttempt s l r := if_pos hgw

theorem within_sought (s : State) (l : Line) (r : CallRecord) (d : Side) :
    Within [.ports, .node, .tiu, .srt, .lines] s (sought s l r d) :=
  (((within_reserveOwn s l d r).seq (within_offerEffect _ _ _) (parts := [.ports, .node, .tiu, .srt, .lines])).seq
    (within_setRecord _ _ _) (parts := [.ports, .node, .tiu, .srt, .lines])).seq (within_countLine _ _ _)

theorem line_reserveOwn :
    (reserveOwn s l d r).line m
      = if m = l then
          { s.line l with
            nextSerial := (s.line l).nextSerial + 1, record := some { r with identity := some (nextIdentity s l) } }
        else s.line m := by
  unfold reserveOwn takeSerial
  rw [line_setLine]
  rfl

/-- R81, R82: the line of an attempt that was taken. -/
theorem sought_line :
    (sought s l r d).line m
      = if m = l then
          { s.line l with
            nextSerial := (s.line l).nextSerial + 1, record := some (seekingRecord r (nextIdentity s l) d)
            counts := { (s.line l).counts with callAttempts := satInc (s.line l).counts.callAttempts } }
        else s.line m := by
  have hoffered : ∀ q, (offerEffect (reserveOwn s l d r) d (setupCell s (nextIdentity s l) r.grade)).line q
      = (reserveOwn s l d r).line q := line_of_within (within_offerEffect _ _ _) (by decide)
  unfold sought countAttempt State.countLine setRecord
  rw [line_setLine, line_setLine, line_setLine, hoffered, hoffered, line_reserveOwn, line_reserveOwn]
  by_cases hm : m = l
  · rw [if_pos hm, if_pos hm, if_pos rfl, if_pos rfl]
  · rw [if_neg hm, if_neg hm, if_neg hm, if_neg hm]

theorem sought_table (x : Side) :
    (sought s l r d).table x
      = if x = d then s.table d ++ [originEntry (nextIdentity s l) r.grade] else s.table x :=
  (table_of_within (within_offerEffect (reserveOwn s l d r) d (setupCell s (nextIdentity s l) r.grade)) (by decide) x).trans
    (table_reserveOwn s l d x r)

/-- R82, R99: the CALL-SETUP of an attempt that was taken. -/
theorem sought_side (htakes : takesLocal s d .call = true) :
    ((sought s l r d).side d).insCall
      = (s.side d).insCall
        ++ [makeCell s.station .callSetup 254 (referenceOf (nextIdentity s l)) (gradeCode r.grade) 0 0 []] := by
  have htaken : offerAnswer (reserveOwn s l d r) d (setupCell s (nextIdentity s l) r.grade) = .taken :=
    offer_call_taken rfl nofun
      (((SameRoom.of_within (within_reserveOwn s l d r) (by decide)).takesLocal d .call).trans htakes)
  exact congrArg Tiu.insCall (offerEffect_call rfl htaken)

theorem sought_other : (sought s l r d).side (otherSide d) = s.side (otherSide d) :=
  offerEffect_other (reserveOwn s l d r) d (setupCell s (nextIdentity s l) r.grade)

theorem enterWaiting_line :
    (enterWaiting s l r).line m
      = if m = l then
          { s.line l with
            record := some { r with
              state := .waiting, identity := none, direction := none, triedUp := false, triedDown := false,
              timer := some 3000 } }
        else s.line m := line_setLine s l m _

/-! ## An attempt at a gateway (R184) -/

/-- R184: the office channel `n` granted to an attempt. -/
def officeSought (s : State) (l : Line) (r : CallRecord) (n : Nat) : State :=
  let t := grantChannel (countAttempt (takeSerial s l r) l) n (nextIdentity s l) r.grade
  countConnected
    (t.setLine l
      (enterTalk { t.line l with
        record := some { r with identity := some (nextIdentity s l), state := .connected, direction := none, timer := none } }))
    l

theorem officeAttempt_granted (hfree : freeChannel s = some n) (hroom : s.gw.toOffice.length < 32) (hpool : 16 ≤ s.poolFree) :
    officeAttempt s l r = officeSought s l r n := by
  have hgranted : channelGranted (countAttempt (takeSerial s l r) l) = true := by
    rw [channelGranted, Bool.and_eq_true, Bool.and_eq_true]
    exact ⟨⟨by rw [show freeChannel (countAttempt (takeSerial s l r) l) = some n from hfree]; rfl, decide_eq_true hroom⟩,
      decide_eq_true hpool⟩
  rw [officeAttempt]
  dsimp only
  rw [hgranted, show freeChannel (countAttempt (takeSerial s l r) l) = some n from hfree]
  rfl

theorem officeAttempt_refused (h : channelGranted s = false) :
    officeAttempt s l r = enterWaiting (channelRefusal (countAttempt (takeSerial s l r) l)) l r := by
  rw [officeAttempt]
  dsimp only
  rw [show channelGranted (countAttempt (takeSerial s l r) l) = false from h]

theorem officeSought_gw :
    (officeSought s l r n).gw
      = { s.gw with
          channels := s.gw.channels.set n (.localCall (nextIdentity s l) r.grade (some 3000))
          toOffice := s.gw.toOffice ++ [noticeCell s n .callSetup (nextIdentity s l) r.grade 0]
          counts := { s.gw.counts with callsTerminated := satInc s.gw.counts.callsTerminated } } := rfl

/-- R79, R80: TALK begins with an empty playout buffer. -/
theorem enterTalk_fields {x : PhoneLine} (h : x.playout = []) :
    (enterTalk x).state = .talk ∧ (enterTalk x).record = x.record ∧ (enterTalk x).playing = .silence
      ∧ (enterTalk x).playPeriod = some 4 ∧ (enterTalk x).packPeriod = some 4
      ∧ (enterTalk x).counts = { x.counts with playoutUnderrun := satInc x.counts.playoutUnderrun } := by
  rw [enterTalk, playHead]
  dsimp only
  rw [h]
  exact ⟨rfl, rfl, rfl, rfl, rfl, rfl⟩

/-- The line of an attempt that has taken its serial. -/
theorem countAttempt_takeSerial_line :
    (countAttempt (takeSerial s l r) l).line l
      = { s.line l with
          nextSerial := (s.line l).nextSerial + 1, record := some { r with identity := some (nextIdentity s l) }
          counts := { (s.line l).counts with callAttempts := satInc (s.line l).counts.callAttempts } } := by
  rw [countAttempt, State.countLine, setLine_line, takeSerial, setLine_line]

/-- R79, R80, R184: the line of a granted attempt. -/
theorem officeSought_line (hplayout : (s.line l).playout = []) :
    ((officeSought s l r n).line l).state = .talk ∧ ((officeSought s l r n).line l).playing = .silence
      ∧ ((officeSought s l r n).line l).counts.playoutUnderrun = satInc (s.line l).counts.playoutUnderrun
      ∧ ((officeSought s l r n).line l).record
        = some { r with identity := some (nextIdentity s l), state := .connected, direction := none, timer := none } := by
  rw [officeSought]
  dsimp only
  rw [countConnected, State.countLine, setLine_line, setLine_line]
  rw [show (grantChannel (countAttempt (takeSerial s l r) l) n (nextIdentity s l) r.grade).line l
    = (countAttempt (takeSerial s l r) l).line l from rfl]
  have hline := countAttempt_takeSerial_line (s := s) (l := l) (r := r)
  generalize (countAttempt (takeSerial s l r) l).line l = x at hline ⊢
  have hempty : x.playout = [] := by
    rw [hline]
    exact hplayout
  obtain ⟨hstate, hrecord, hplaying, _, _, hcounts⟩ := enterTalk_fields
    (x := { x with
      record := some { r with identity := some (nextIdentity s l), state := .connected, direction := none, timer := none } })
    hempty
  refine ⟨hstate, hplaying, ?_, hrecord⟩
  dsimp only
  rw [hcounts]
  dsimp only
  rw [hline]

end

/-! ## A call begins (R75) -/

section
variable {s t : State} {l m : Line} {d : Side} {r : CallRecord} {n : Nat} {id : Identity} {g : Grade} {w : Timer}

/-- R75: the state in which the first attempt is made. -/
def callStarted (s : State) (l : Line) : State :=
  s.setLine l { enterCalling (s.line l) with hookDebounce := none, record := some {} }

theorem exec_offhookDebounceExpiry (hworks : s.phonesWork = true) (hcheck : (s.line l).state = .offhookCheck)
    (hruns : (s.line l).hookDebounce.isSome = true) :
    exec (.offhookDebounceExpiry l) s = .next (ended s (raiseIncident (attempt (callStarted s l) l {}))) := by
  refine exec_done _ (if_pos ?_)
  rw [hworks, hruns, beq_iff_eq.2 hcheck]
  rfl

theorem callStarted_line (s : State) (l : Line) :
    (callStarted s l).line l = { enterCalling (s.line l) with hookDebounce := none, record := some {} } := setLine_line _ _ _

theorem raiseIncident_line (s : State) (l : Line) : (raiseIncident s).line l = s.line l :=
  line_of_within (within_raiseIncident s) (by decide) l

theorem raiseIncident_table (s : State) (d : Side) : (raiseIncident s).table d = s.table d :=
  table_of_within (within_raiseIncident s) (by decide) d

theorem raiseIncident_side (s : State) (d : Side) : (raiseIncident s).side d = s.side d :=
  side_of_within (within_raiseIncident s) (by decide) d

theorem raiseIncident_gw (s : State) : (raiseIncident s).gw = s.gw := within_raiseIncident s .gw (by decide)

theorem raiseIncident_sps (s : State) :
    (raiseIncident s).sps
      = if incidentAllowed s.straps = true ∧ s.sps.incident = false then
          { s.sps with incident := true, counts := { s.sps.counts with incidentRaises := satInc s.sps.counts.incidentRaises } }
        else s.sps := by
  unfold raiseIncident
  by_cases h : incidentAllowed s.straps = true ∧ s.sps.incident = false
  · rw [if_pos h, if_pos (by rw [h.1, h.2]; rfl)]
  · rw [if_neg h, if_neg (by rw [Bool.and_eq_true, Bool.not_eq_true']; exact h)]

end

/-- Settles O32. -/
theorem offHookBeginsACall : Obligations.OffHookBeginsACall := by
  intro l s hworks hcheck hruns id
  have hexec := exec_offhookDebounceExpiry hworks hcheck hruns
  have hroom : SameRoom s (callStarted s l) := SameRoom.of_within (within_setLine s l _) (by decide)
  refine ⟨fun d hgw hnearest hplace htakes => ?_, fun hgw hnearest => ?_, fun n hgw hfree hoffice hpool => ?_, ?_⟩
  · have htaken : takesLocal (callStarted s l) d .call = true := (hroom.takesLocal d .call).trans htakes
    rw [attempt_taken (s := callStarted s l) (l := l) (d := d) (r := {}) hgw hnearest hplace htaken] at hexec
    have hline := sought_line (s := callStarted s l) (l := l) (m := l) (r := {}) (d := d)
    rw [if_pos rfl, callStarted_line] at hline
    have htable := sought_table (s := callStarted s l) (l := l) (r := {}) (d := d)
    refine ⟨_, hexec, ?_, ?_, ?_, ?_, ?_, ?_, ?_, ?_⟩
    · rw [ended_line, raiseIncident_line, hline]
      rfl
    · rw [ended_line, raiseIncident_line, hline]
      rfl
    · rw [ended_line, raiseIncident_line, hline]
      rw [nextIdentity, callStarted_line]
      rfl
    · rw [ended_line, raiseIncident_line, hline]
      rfl
    · rw [ended_line, raiseIncident_line, hline]
      rfl
    · rw [ended_table, raiseIncident_table, htable, if_pos rfl]
      rw [nextIdentity, callStarted_line]
      rfl
    · rw [ended_table, raiseIncident_table, htable, if_neg (otherSide_ne d)]
      rfl
    · rw [ended_side, raiseIncident_side, sought_side htaken]
      rw [nextIdentity, callStarted_line]
      rfl
  · rw [attempt_waits (s := callStarted s l) (l := l) (r := {}) hgw hnearest] at hexec
    have hline := enterWaiting_line (s := callStarted s l) (l := l) (m := l) (r := {})
    rw [if_pos rfl, callStarted_line] at hline
    have hwithin : Within [.lines, .sps] s (raiseIncident (enterWaiting (callStarted s l) l {})) :=
      ((within_setLine s l _).trans (within_enterWaiting (callStarted s l) l {})).seq (within_raiseIncident _)
    refine ⟨_, hexec, ?_, ?_, ?_, ?_, ?_⟩
    · rw [ended_line, raiseIncident_line, hline]
      rfl
    · rw [ended_line, raiseIncident_line, hline]
      rfl
    · rw [ended_line, raiseIncident_line, hline]
    · rw [ended_srt]
      exact hwithin .srt (by decide)
    · rw [ended_tiu]
      exact hwithin .tiu (by decide)
  · rw [attempt_of_gateway (s := callStarted s l) (l := l) hgw,
      officeAttempt_granted (s := callStarted s l) (l := l) (n := n) hfree hoffice (hroom.pool ▸ hpool)] at hexec
    obtain ⟨hstate, hplaying, hunderrun, hrecord⟩ := officeSought_line (s := callStarted s l) (l := l) (r := {}) (n := n)
      (by rw [callStarted_line]; rfl)
    have hid : nextIdentity (callStarted s l) l = id := by
      rw [nextIdentity, callStarted_line]
      rfl
    refine ⟨_, hexec, ?_, ?_, ?_, ?_, ?_, noticeCell s n .callSetup id .breakdown 0, ?_, rfl, rfl, rfl⟩
    · rw [ended_line, raiseIncident_line, hstate]
    · rw [ended_line, raiseIncident_line, hplaying]
    · rw [ended_line, raiseIncident_line, hunderrun, callStarted_line]
      rfl
    · rw [ended_line, raiseIncident_line, hrecord, hid]
    · rw [ended_gw, raiseIncident_gw, officeSought_gw, hid]
      rfl
    · rw [ended_gw, raiseIncident_gw, officeSought_gw, hid]
      rfl
  · refine ⟨_, hexec, ?_⟩
    have hattempt : Within callParts s (attempt (callStarted s l) l {}) :=
      (within_setLine s l _).seq (within_attempt (callStarted s l) l {})
    rw [ended_sps, raiseIncident_sps, show (attempt (callStarted s l) l {}).sps = s.sps from hattempt .sps (by decide),
      show (attempt (callStarted s l) l {}).straps = s.straps from hattempt .straps (by decide)]

/-! ## A call ends at on-hook (R76) -/

section
variable {s t : State} {l m : Line} {d : Side} {r : CallRecord} {n : Nat} {id : Identity} {g : Grade} {w : Timer}

theorem recordActive_iff : recordActive r = true ↔ r.state = .seeking ∨ r.state = .connected := by
  rw [recordActive, Bool.or_eq_true, beq_iff_eq, beq_iff_eq]

theorem exec_onhookDebounceExpiry (hworks : s.phonesWork = true)
    (hbusy : (s.line l).state = .calling ∨ (s.line l).state = .talk ∨ (s.line l).state = .cleared)
    (hruns : (s.line l).hookDebounce.isSome = true) :
    exec (.onhookDebounceExpiry l) s = .next (ended s (callEnded s l)) := by
  refine exec_done _ (if_pos ?_)
  rw [hworks, hruns, lineBusy_iff.2 hbusy]
  rfl

theorem callEnded_of_record (h : (s.line l).record = some r) :
    callEnded s l = (onHookRecord s l r).setLine l (enterIdle ((onHookRecord s l r).line l)) := by
  rw [callEnded, h]

theorem releaseOwn_of (hd : r.direction = some d) (hid : r.identity = some id) : releaseOwn s r = releaseEntry s d id := by
  rw [releaseOwn, hd, hid]

theorem originRelease_of (hd : r.direction = some d) (hid : r.identity = some id) :
    originRelease s r = offerControl s d (callCell s.station .callRelease anyGateway id (gradeCode r.grade) 0) := by
  rw [originRelease, hd, hid]

theorem onHookRecord_of_node (hgw : s.isGateway = false) (hactive : r.state = .seeking ∨ r.state = .connected) :
    onHookRecord s l r = releaseOwn (originRelease s r) r :=
  (if_pos (recordActive_iff.2 hactive)).trans (if_neg (Bool.eq_false_iff.1 hgw))

theorem onHookRecord_of_gateway (hgw : s.isGateway = true) (hactive : r.state = .seeking ∨ r.state = .connected) :
    onHookRecord s l r = localRelease s l := (if_pos (recordActive_iff.2 hactive)).trans (if_pos hgw)

/-- R184: the LOCAL channel of a line. -/
theorem localChannel_of (hrecord : (s.line l).record = some r) (hid : r.identity = some id)
    (hfind : findChannel s id = some n) (hchannel : channelAt s n = .localCall id g w) :
    localChannel s l = some (n, id, g) := by
  rw [localChannel, hrecord]
  dsimp only
  rw [hid]
  dsimp only
  rw [hfind]
  dsimp only
  rw [hchannel]

theorem giveNotice_channels (s : State) (c : Cell) : (giveNotice s c).gw.channels = s.gw.channels := by
  unfold giveNotice
  split
  · rfl
  · split
    · rfl
    · rfl

theorem releaseEntry_table (x : Side) :
    (releaseEntry s d id).table x = if x = d then tableWithout (s.table d) id else s.table x := table_setTable s d x _

theorem offerControl_table (s : State) (d x : Side) (c : Cell) : (offerControl s d c).table x = s.table x :=
  table_of_within (within_offerControl s d c) (by decide) x

/-- R99: the CALL-RELEASE that an origin makes, where its direction takes it. -/
theorem originRelease_side (hd : r.direction = some d) (hid : r.identity = some id) (h : takesLocal s d .call = true) :
    ((originRelease s r).side d).insCall
      = (s.side d).insCall ++ [makeCell s.station .callRelease 254 (referenceOf id) (gradeCode r.grade) 0 0 []] := by
  rw [originRelease_of hd hid]
  exact congrArg Tiu.insCall
    (offerControl_call (s := s) (d := d) (x := callCell s.station .callRelease anyGateway id (gradeCode r.grade) 0) rfl nofun
      h).1

theorem originRelease_table (x : Side) : (originRelease s r).table x = s.table x := by
  unfold originRelease
  split
  · exact offerControl_table _ _ _ _
  · rfl

end

/-- Settles O33. -/
theorem onHookEndsTheCall : Obligations.OnHookEndsTheCall := by
  intro l s hworks hbusy hruns
  have hexec := exec_onhookDebounceExpiry hworks hbusy hruns
  refine ⟨?_, fun r d id hgw hrecord hactive hd hid => ?_, fun r n id g w hgw hrecord hactive hid hfind hchannel => ?_⟩
  · have hline : ∃ x, (ended s (callEnded s l)).line l = enterIdle x := by
      rw [ended_line, callEnded]
      exact ⟨_, setLine_line _ _ _⟩
    obtain ⟨x, hx⟩ := hline
    refine ⟨_, hexec, ?_⟩
    rw [hx]
    exact ⟨rfl, rfl, rfl, rfl, rfl⟩
  · rw [callEnded_of_record hrecord, onHookRecord_of_node hgw hactive, releaseOwn_of hd hid] at hexec
    have htable : ∀ x, (releaseEntry (originRelease s r) d id).table x
        = if x = d then tableWithout (s.table d) id else s.table x := by
      intro x
      rw [releaseEntry_table, originRelease_table, originRelease_table]
    refine ⟨_, hexec, ?_, ?_, fun htakes => ?_⟩
    · rw [ended_table]
      exact (htable d).trans (if_pos rfl)
    · rw [ended_table]
      exact (htable (otherSide d)).trans (if_neg (otherSide_ne d))
    · rw [ended_side]
      exact originRelease_side hd hid htakes
  · rw [callEnded_of_record hrecord, onHookRecord_of_gateway hgw hactive, localRelease,
      localChannel_of hrecord hid hfind hchannel] at hexec
    refine ⟨_, hexec, ?_⟩
    rw [ended_gw]
    exact giveNotice_channels (setChannel s n .free) (noticeCell s n .callRelease id g 0)

/-! ## The key grades a call (R77, R87) -/

section
variable {s t : State} {l m : Line} {d : Side} {r : CallRecord} {n us : Nat} {id : Identity} {g : Grade} {w : Timer}

/-- R77: the state in which a closed time is judged. -/
def keyOpened (s : State) (l : Line) : State := s.setLine l (openKey (s.line l))

theorem gradingTime_iff : gradingTime us = true ↔ 300000 ≤ us ∧ us ≤ 3000000 := by
  rw [gradingTime, Bool.and_eq_true, decide_eq_true_eq, decide_eq_true_eq]
  exact Iff.rfl

theorem exec_keyOpen_grades (hworks : s.phonesWork = true) (hmeasuring : (s.line l).keyMeasuring = true)
    (hlow : 300000 ≤ us) (hhigh : us ≤ 3000000) :
    exec (.keyOpen l us) s = .next (ended s (gradeAccident (keyOpened s l) l)) := by
  refine exec_done _ (if_pos ?_)
  rw [hworks, hmeasuring, gradingTime_iff.2 ⟨hlow, hhigh⟩]
  rfl

theorem exec_keyOpen_ignored (h : (s.line l).keyMeasuring = false ∨ us < 300000 ∨ 3000000 < us) :
    exec (.keyOpen l us) s = .next (keyOpened s l) := by
  refine if_neg ?_
  rw [Bool.and_eq_true, Bool.and_eq_true, gradingTime_iff]
  rintro ⟨⟨_, hmeasuring⟩, hlow, hhigh⟩
  rcases h with h | h | h
  · rw [hmeasuring] at h
    cases h
  · omega
  · omega

/-- R87: the record graded ACCIDENT, before its entry or channel is. -/
def recordGraded (s : State) (l : Line) (r : CallRecord) : State := setRecord s l { r with grade := .accident }

theorem gradeAccident_of_node (hrecord : (s.line l).record = some r) (hgrade : r.grade = .breakdown)
    (hactive : r.state = .seeking ∨ r.state = .connected) (hgw : s.isGateway = false) :
    gradeAccident s l = upgradeChain (recordGraded s l r) r := by
  rw [gradeAccident, hrecord]
  exact (if_neg (by rw [hgrade]; nofun)).trans
    ((if_pos (recordActive_iff.2 hactive)).trans (if_neg (Bool.eq_false_iff.1 hgw)))

theorem gradeAccident_of_gateway (hrecord : (s.line l).record = some r) (hgrade : r.grade = .breakdown)
    (hactive : r.state = .seeking ∨ r.state = .connected) (hgw : s.isGateway = true) :
    gradeAccident s l = upgradeLocal (recordGraded s l r) l := by
  rw [gradeAccident, hrecord]
  exact (if_neg (by rw [hgrade]; nofun)).trans ((if_pos (recordActive_iff.2 hactive)).trans (if_pos hgw))

theorem upgradeChain_of (hd : r.direction = some d) (hid : r.identity = some id) :
    upgradeChain s r
      = offerControl (s.setTable d (changeCall (s.table d) id upgradedEntry)) d
          (callCell s.station .callUpgrade anyGateway id 1 0) := by
  rw [upgradeChain, hd, hid]

theorem upgradeChain_lines : (upgradeChain s r).lines = s.lines := by
  unfold upgradeChain
  split
  · exact within_offerControl _ _ _ .lines (by decide)
  · rfl

theorem upgradeLocal_lines : (upgradeLocal s l).lines = s.lines := by
  unfold upgradeLocal
  split
  · dsimp only
    split
    · exact within_giveNotice _ _ .lines (by decide)
    · exact within_giveNotice _ _ .lines (by decide)
  · rfl

/-- R87: the line of a graded call has the record graded, and is otherwise as the key left it. -/
theorem gradeAccident_line (hrecord : (s.line l).record = some r) :
    (gradeAccident s l).line l = { s.line l with record := some { r with grade := .accident } } := by
  rw [gradeAccident, hrecord]
  dsimp only
  split
  · next hgrade =>
    have hsame : { r with grade := .accident } = r := by rw [← hgrade]
    rw [hsame, ← hrecord]
  · have hset : (recordGraded s l r).line l = { s.line l with record := some { r with grade := .accident } } :=
      setLine_line _ _ _
    split
    · split
      · rw [State.line, upgradeLocal_lines]
        exact hset
      · rw [State.line, upgradeChain_lines]
        exact hset
    · exact hset

end

/-- Settles O34. -/
theorem keyGradesTheCall : Obligations.KeyGradesTheCall := by
  intro l us s hworks
  refine ⟨fun h => exec_keyOpen_ignored h, fun hmeasuring hlow hhigh r hrecord => ?_⟩
  have hexec := exec_keyOpen_grades (s := s) (l := l) hworks hmeasuring hlow hhigh
  have hopened : (keyOpened s l).line l = openKey (s.line l) := setLine_line _ _ _
  have hkept : ((keyOpened s l).line l).record = some r := by
    rw [hopened]
    exact hrecord
  refine ⟨⟨_, hexec, ?_⟩, fun d id hgw hgrade hactive hd hid => ?_, fun n id g w hgw hgrade hactive hid hfind hchannel => ?_⟩
  · rw [ended_line, gradeAccident_line hkept, hopened]
    exact ⟨rfl, rfl, rfl, rfl⟩
  · rw [gradeAccident_of_node hkept hgrade hactive hgw, upgradeChain_of hd hid] at hexec
    refine ⟨_, hexec, ?_, fun htakes => ?_⟩
    · rw [ended_table, offerControl_table, setTable_table]
      rfl
    · have hroom : SameRoom s ((recordGraded (keyOpened s l) l r).setTable d
          (changeCall ((recordGraded (keyOpened s l) l r).table d) id upgradedEntry)) :=
        SameRoom.of_within (parts := [.lines, .srt])
          (((within_setLine s l _).trans (within_setLine (keyOpened s l) l _)).seq (within_setTable _ _ _)) (by decide)
      rw [ended_side]
      exact congrArg Tiu.insCall
        (offerControl_call (x := callCell (recordGraded (keyOpened s l) l r).station .callUpgrade anyGateway id 1 0) rfl nofun
          ((hroom.takesLocal d .call).trans htakes)).1
  · have hgraded : ((recordGraded (keyOpened s l) l r).line l).record = some { r with grade := .accident } := by
      rw [recordGraded, setRecord, setLine_line]
    have hlocal : localChannel (recordGraded (keyOpened s l) l r) l = some (n, id, g) :=
      localChannel_of hgraded hid hfind hchannel
    rw [gradeAccident_of_gateway hkept hgrade hactive hgw, upgradeLocal, hlocal] at hexec
    dsimp only at hexec
    rw [show channelAt (recordGraded (keyOpened s l) l r) n = .localCall id g w from hchannel] at hexec
    refine ⟨_, hexec, ?_⟩
    rw [ended_gw]
    exact giveNotice_channels _ _

end Sys2Proof.Machine
end

section
/-! PROOFS. A line in TALK packs and plays (O35). -/

set_option Elab.async false

namespace Sys2Proof.Machine

section
variable {s t : State} {l : Line} {d : Side} {r : CallRecord} {n : Nat} {id : Identity} {g : Grade} {w : Timer} {x : Cell}
  {samples : List Byte}

/-! ## The answers to an offer (R45) -/

theorem offerAnswer_of_absent (h : s.inService d = false) : offerAnswer s d x = .noSide :=
  if_pos (by rw [h]; rfl)

theorem offerAnswer_of_full (hin : s.inService d = true)
    (h : insCapacity (cellClass x) ≤ (insQueue (s.side d) (cellClass x)).length) : offerAnswer s d x = .queueFull :=
  (if_neg (by rw [hin]; exact Bool.false_ne_true)).trans (if_pos h)

theorem offerAnswer_of_unreserved (hin : s.inService d = true)
    (hroom : (insQueue (s.side d) (cellClass x)).length < insCapacity (cellClass x))
    (h : unreserved (s.table d) x = true) : offerAnswer s d x = .voiceUnreserved :=
  (if_neg (by rw [hin]; exact Bool.false_ne_true)).trans ((if_neg (Nat.not_le.2 hroom)).trans (if_pos h))

theorem offerAnswer_of_reserved (hin : s.inService d = true)
    (hroom : (insQueue (s.side d) (cellClass x)).length < insCapacity (cellClass x))
    (h : unreserved (s.table d) x = false) :
    offerAnswer s d x
      = if cellClass x == .link || decide (classFloor (cellClass x) ≤ s.poolFree) then .taken else .pool :=
  (if_neg (by rw [hin]; exact Bool.false_ne_true)).trans
    ((if_neg (Nat.not_le.2 hroom)).trans (if_neg (Bool.eq_false_iff.1 h)))

theorem offerEffect_of_absent (h : offerAnswer s d x = .noSide) :
    offerEffect s d x = s.countNode (fun n => countNoSide n (cellClass x)) := by rw [offerEffect, h]

theorem offerEffect_of_full (h : offerAnswer s d x = .queueFull) :
    offerEffect s d x = s.countSide d (fun n => countQueueRefused n (cellClass x)) := by rw [offerEffect, h]

theorem offerEffect_of_unreserved (h : offerAnswer s d x = .voiceUnreserved) :
    offerEffect s d x = s.countSide d (fun n => { n with voiceUnreserved := satInc n.voiceUnreserved }) := by
  rw [offerEffect, h]

theorem offerEffect_of_pool (h : offerAnswer s d x = .pool) :
    offerEffect s d x = s.countNode (fun n => countPoolRefused n (cellClass x)) := by rw [offerEffect, h]

/-! ## A period packed (R79) -/

/-- R79: the state in which a period of samples is packed. -/
def packStarted (s : State) (l : Line) : State := s.setLine l { s.line l with packPeriod := some 4 }

theorem packStarted_line (s : State) (l : Line) : (packStarted s l).line l = { s.line l with packPeriod := some 4 } :=
  setLine_line _ _ _

theorem room_packStarted (s : State) (l : Line) : SameRoom s (packStarted s l) :=
  SameRoom.of_within (within_setLine s l _) (by decide)

/-- R79, R99: the VOICE of a period. -/
def packedVoice (s : State) (r : CallRecord) (id : Identity) (samples : List Byte) : Cell :=
  makeCell s.station .voice 254 (referenceOf id) (gradeCode r.grade) 0 0 samples

theorem exec_voicePackPeriod (hworks : s.phonesWork = true) (htalk : (s.line l).state = .talk)
    (hrecord : (s.line l).record = some r) :
    exec (.voicePackPeriod l samples) s = .next (ended s (packVoice (packStarted s l) l r samples)) := by
  refine exec_done _ ?_
  show (if s.phonesWork && (s.line l).state == .talk then
      match (s.line l).record with
      | some y => done s (packVoice (packStarted s l) l y samples)
      | none => .next (packStarted s l)
    else .next s) = _
  rw [hworks, beq_iff_eq.2 htalk, Bool.and_self, if_pos rfl, hrecord]

theorem packVoice_chain (hd : r.direction = some d) (hid : r.identity = some id) :
    packVoice s l r samples = packChain s l r d id samples := by rw [packVoice, hd, hid]

theorem packVoice_local (hd : r.direction = none) (hlocal : localChannel s l = some (n, id, g)) :
    packVoice s l r samples = packLocal s l n id r.grade samples := by
  rw [packVoice, hd]
  dsimp only
  rw [hlocal]

theorem unreserved_packedVoice (s : State) (r : CallRecord) (id : Identity) (samples : List Byte) (table : List SrtEntry) :
    unreserved table (packedVoice s r id samples) = !heldIn table id := by
  have hcall : callOf (packedVoice s r id samples).toCellData = id := identity_of_reference id
  rw [unreserved, hcall]
  rfl

theorem packChain_of_taken (h : offerAnswer s d (packedVoice s r id samples) = .taken) :
    packChain s l r d id samples = offerEffect s d (packedVoice s r id samples) := if_pos (beq_iff_eq.2 h)

theorem packChain_of_refused (h : offerAnswer s d (packedVoice s r id samples) ≠ .taken) :
    packChain s l r d id samples = countVoiceDropped (offerEffect s d (packedVoice s r id samples)) l :=
  if_neg (by rw [beq_iff_eq]; exact h)

theorem countVoiceDropped_line (hl : t.line l = { s.line l with packPeriod := some 4 }) :
    ((countVoiceDropped t l).line l).counts.voiceDropped = satInc (s.line l).counts.voiceDropped := by
  rw [countVoiceDropped, State.countLine, setLine_line, hl]

/-- R79: a period that the direction refuses, `t` being what its offer leaves. -/
theorem exec_pack_refused (hworks : s.phonesWork = true) (htalk : (s.line l).state = .talk)
    (hrecord : (s.line l).record = some r) (hd : r.direction = some d) (hid : r.identity = some id)
    (hrefused : offerAnswer (packStarted s l) d (packedVoice s r id samples) ≠ .taken)
    (hleft : offerEffect (packStarted s l) d (packedVoice s r id samples) = t) (hlines : t.lines = (packStarted s l).lines) :
    exec (.voicePackPeriod l samples) s = .next (ended s (countVoiceDropped t l))
      ∧ ((ended s (countVoiceDropped t l)).line l).counts.voiceDropped = satInc (s.line l).counts.voiceDropped := by
  refine ⟨?_, ?_⟩
  · rw [exec_voicePackPeriod hworks htalk hrecord, packVoice_chain hd hid,
      packChain_of_refused (s := packStarted s l) hrefused]
    exact congrArg (fun y => Host.Outcome.next (ended s (countVoiceDropped y l))) hleft
  · rw [ended_line]
    refine countVoiceDropped_line ?_
    rw [State.line, hlines]
    exact packStarted_line s l

/-! ## A period for the office (R184) -/

theorem packLocal_of_full (h : 32 ≤ s.gw.toOffice.length) : packLocal s l n id g samples = countVoiceDropped s l :=
  if_pos (by rw [Bool.not_eq_true', officeRoom, decide_eq_false_iff_not]; exact Nat.not_lt.2 h)

theorem packLocal_of_room (h : s.gw.toOffice.length < 32) :
    packLocal s l n id g samples
      = if floorMet s .call then
          officePush s (onChannel n (makeCell s.station .voice anyGateway (referenceOf id) (gradeCode g) 0 0 samples))
        else countPool (countVoiceDropped s l) .call :=
  if_neg (by rw [Bool.not_eq_true, Bool.not_eq_false', officeRoom, decide_eq_true_eq]; exact h)

theorem floorMet_call_iff : floorMet s .call = true ↔ 16 ≤ s.poolFree := by
  rw [floorMet, decide_eq_true_eq]
  exact Iff.rfl

theorem playHead_of_empty {x : PhoneLine} (h : x.playout = []) :
    playHead x
      = { x with
          playing := .silence, playPeriod := some 4
          counts := { x.counts with playoutUnderrun := satInc x.counts.playoutUnderrun } } := by
  unfold playHead
  split
  · next heq =>
    rw [h] at heq
    cases heq
  · rfl

theorem exec_playoutPeriod (hworks : s.phonesWork = true) (htalk : (s.line l).state = .talk) :
    exec (.playoutPeriod l) s = .next (s.setLine l (playHead (s.line l))) :=
  if_pos (by rw [hworks, htalk]; rfl)

end

/-- Settles O35. -/
theorem talkPacksAndPlays : Obligations.TalkPacksAndPlays := by
  intro l s hworks htalk
  have hroom := room_packStarted s l
  refine ⟨fun samples r d id hrecord hd hid => ?_, fun samples r id n g w hrecord hd hid hfind hchannel => ?_,
    fun b rest hplayout => ?_, fun hplayout => ?_⟩
  · have hheldEq : unreserved ((packStarted s l).table d) (packedVoice s r id samples) = !heldIn (s.table d) id :=
      unreserved_packedVoice s r id samples (s.table d)
    refine ⟨fun hheld htakes => ?_, fun hin => ?_, fun hin hfull => ?_, fun hin hplace hbare => ?_,
      fun hin hplace hheld hpool => ?_⟩
    · rw [takesLocal, Bool.and_eq_true, Bool.and_eq_true, decide_eq_true_eq, decide_eq_true_eq] at htakes
      obtain ⟨⟨hin, hplace⟩, hpool⟩ := htakes
      have htaken : offerAnswer (packStarted s l) d (packedVoice s r id samples) = .taken := by
        rw [offerAnswer_of_reserved ((hroom.service d).trans hin) (by rw [hroom.side]; exact hplace)
          (hheldEq.trans (by rw [hheld]; rfl)), if_pos]
        rw [hroom.pool]
        exact Bool.or_eq_true_iff.2 (.inr (decide_eq_true hpool))
      have hexec := exec_voicePackPeriod (samples := samples) hworks htalk hrecord
      rw [packVoice_chain hd hid, packChain_of_taken (s := packStarted s l) htaken] at hexec
      refine ⟨_, hexec, ?_, ?_⟩
      · rw [ended_side]
        exact congrArg Tiu.insCall (offerEffect_call (s := packStarted s l) rfl htaken)
      · rw [ended_line]
        exact (line_of_within (within_offerEffect _ _ _) (by decide) l).trans (packStarted_line s l)
    · have hnone : offerAnswer (packStarted s l) d (packedVoice s r id samples) = .noSide :=
        offerAnswer_of_absent ((hroom.service d).trans hin)
      obtain ⟨hexec, hcount⟩ := exec_pack_refused (samples := samples) hworks htalk hrecord hd hid (by rw [hnone]; nofun)
        (offerEffect_of_absent hnone) rfl
      exact ⟨_, hexec, ended_tiu _ _, ended_node _ _, hcount⟩
    · have hnone : offerAnswer (packStarted s l) d (packedVoice s r id samples) = .queueFull :=
        offerAnswer_of_full ((hroom.service d).trans hin) (by rw [hroom.side]; exact hfull)
      obtain ⟨hexec, hcount⟩ := exec_pack_refused (samples := samples) hworks htalk hrecord hd hid (by rw [hnone]; nofun)
        (offerEffect_of_full hnone) rfl
      exact ⟨_, hexec, ended_node _ _, (ended_side _ _ _).trans (setSide_side (packStarted s l) d _), hcount⟩
    · have hnone : offerAnswer (packStarted s l) d (packedVoice s r id samples) = .voiceUnreserved :=
        offerAnswer_of_unreserved ((hroom.service d).trans hin) (by rw [hroom.side]; exact hplace)
          (hheldEq.trans (by rw [hbare]; rfl))
      obtain ⟨hexec, hcount⟩ := exec_pack_refused (samples := samples) hworks htalk hrecord hd hid (by rw [hnone]; nofun)
        (offerEffect_of_unreserved hnone) rfl
      exact ⟨_, hexec, ended_node _ _, (ended_side _ _ _).trans (setSide_side (packStarted s l) d _), hcount⟩
    · have hnone : offerAnswer (packStarted s l) d (packedVoice s r id samples) = .pool := by
        rw [offerAnswer_of_reserved ((hroom.service d).trans hin) (by rw [hroom.side]; exact hplace)
          (hheldEq.trans (by rw [hheld]; rfl)), if_neg]
        rw [hroom.pool, Bool.or_eq_true, decide_eq_true_eq]
        exact fun h => h.elim nofun (Nat.not_le.2 hpool)
      obtain ⟨hexec, hcount⟩ := exec_pack_refused (samples := samples) hworks htalk hrecord hd hid (by rw [hnone]; nofun)
        (offerEffect_of_pool hnone) rfl
      exact ⟨_, hexec, ended_tiu _ _, ended_node _ _, hcount⟩
  · have hkept : ((packStarted s l).line l).record = some r := by
      rw [packStarted_line]
      exact hrecord
    have hexec := exec_voicePackPeriod (samples := samples) hworks htalk hrecord
    rw [packVoice_local (s := packStarted s l) hd (localChannel_of hkept hid hfind hchannel)] at hexec
    have hdropped := countVoiceDropped_line (packStarted_line s l)
    have hstarted : Within [.lines] s (packStarted s l) := within_setLine s l _
    refine ⟨fun hoffice hpool => ?_, fun hfull => ?_, fun hoffice hpool => ?_⟩
    · rw [packLocal_of_room (s := packStarted s l) hoffice,
        if_pos (floorMet_call_iff.2 (hroom.pool ▸ hpool))] at hexec
      refine ⟨_, hexec, within_ended (hstarted.seq (within_officePush _ _) (parts := [.inHand, .ports, .lines, .gw])), ?_, ?_⟩
      · rw [ended_line]
        exact packStarted_line s l
      · rw [ended_gw]
        rfl
    · rw [packLocal_of_full (s := packStarted s l) hfull] at hexec
      refine ⟨_, hexec, within_ended (hstarted.seq (within_countVoiceDropped _ _) (parts := [.inHand, .ports, .lines])), ?_⟩
      rw [ended_line]
      exact hdropped
    · rw [packLocal_of_room (s := packStarted s l) hoffice,
        if_neg (by rw [floorMet_call_iff, hroom.pool]; exact Nat.not_le.2 hpool)] at hexec
      refine ⟨_, hexec, within_ended ((hstarted.trans (within_countVoiceDropped (packStarted s l) l)).seq
        (within_countPool _ _) (parts := [.inHand, .ports, .lines, .node])), ?_, ?_⟩
      · rw [ended_node]
        rfl
      · rw [ended_line]
        exact hdropped
  · rw [exec_playoutPeriod hworks htalk, playHead, hplayout]
    rfl
  · rw [exec_playoutPeriod hworks htalk, playHead_of_empty hplayout]

end Sys2Proof.Machine
end

section
/-! PROOFS. A record that loses its way seeks the other one or waits (R82, R84 to R86), and the CALL cells of the origin
(O37). -/

set_option Elab.async false

namespace Sys2Proof.Machine

section
variable {s t : State} {l m : Line} {d : Side} {r : CallRecord} {n : Nat} {id : Identity} {x : PhoneLine}

/-! ## The way of the next attempt (R82) -/

theorem recordDirection_of_lost (htried : hasTried r d = true) (h : (s.entry (otherSide d)).valid = false) :
    recordDirection s r = none := by
  have hexcluding : s.nearestExcluding d = none := if_neg (Bool.eq_false_iff.1 h)
  unfold recordDirection
  cases d with
  | up =>
    rw [show r.triedUp = true from htried]
    cases r.triedDown with
    | false => exact hexcluding
    | true => rfl
  | down =>
    rw [show r.triedDown = true from htried]
    cases r.triedUp with
    | false => exact hexcluding
    | true => rfl

theorem recordDirection_of_other (htried : hasTried r d = true) (hother : hasTried r (otherSide d) = false)
    (h : (s.entry (otherSide d)).valid = true) : recordDirection s r = some (otherSide d) := by
  have hexcluding : s.nearestExcluding d = some (otherSide d) := if_pos h
  unfold recordDirection
  cases d with
  | up =>
    rw [show r.triedUp = true from htried, show r.triedDown = false from hother]
    exact hexcluding
  | down =>
    rw [show r.triedDown = true from htried, show r.triedUp = false from hother]
    exact hexcluding

/-- R85, R86: the record of a broken call: a new round that has tried its direction. -/
theorem newRound_of (hd : r.direction = some d) :
    newRound r = addTried { r with triedUp := false, triedDown := false } d := by rw [newRound, hd]

theorem hasTried_addTried (r : CallRecord) (d : Side) : hasTried (rerouted (addTried r d)) d = true := by
  cases d with
  | _ => rfl

theorem hasTried_addTried_other (r : CallRecord) (d : Side) :
    hasTried (rerouted (addTried r d)) (otherSide d) = hasTried r (otherSide d) := by
  cases d with
  | _ => rfl

/-- R82, R85: the record that seeks the other way. -/
theorem seekingRecord_other (hother : hasTried r (otherSide d) = false) :
    seekingRecord (rerouted (addTried r d)) id (otherSide d) = soughtOther id r.grade d := by
  cases d with
  | up =>
    have hdown : r.triedDown = false := hother
    rw [seekingRecord, rerouted, addTried, soughtOther]
    dsimp only
    rw [hdown]
    rfl
  | down =>
    have hup : r.triedUp = false := hother
    rw [seekingRecord, rerouted, addTried, soughtOther]
    dsimp only
    rw [hup]
    rfl

theorem grade_rerouted (r : CallRecord) (d : Side) : (rerouted (addTried r d)).grade = r.grade := by
  cases d with
  | _ => rfl

theorem waiting_rerouted (r : CallRecord) (d : Side) :
    { rerouted (addTried r d) with
      state := .waiting, identity := none, direction := none, triedUp := false, triedDown := false, timer := some 3000 }
      = waitingRecord r.grade := by
  cases d with
  | _ => rfl

/-! ## A record rerouted from `d` (R85, R86) -/

/-- R82: the next attempt of a record that has tried `d` goes out of the other side. -/
theorem attempt_other (hgw : s.isGateway = false) (hother : hasTried r (otherSide d) = false)
    (hvalid : (s.entry (otherSide d)).valid = true) (hroom : (s.table (otherSide d)).length < 8)
    (htakes : takesLocal s (otherSide d) .call = true) :
    attempt s l (rerouted (addTried r d)) = sought s l (rerouted (addTried r d)) (otherSide d) :=
  attempt_taken hgw (recordDirection_of_other (hasTried_addTried r d) ((hasTried_addTried_other r d).trans hother) hvalid)
    hroom htakes

/-- R84: the next attempt of a record that has tried `d` waits where the other side is not VALID. -/
theorem attempt_lost (hgw : s.isGateway = false) (hinvalid : (s.entry (otherSide d)).valid = false) :
    attempt s l (rerouted (addTried r d)) = enterWaiting s l (rerouted (addTried r d)) :=
  attempt_waits hgw (recordDirection_of_lost (hasTried_addTried r d) hinvalid)

theorem sought_other_line (hother : hasTried r (otherSide d) = false) :
    (sought s l (rerouted (addTried r d)) (otherSide d)).line l
      = { s.line l with
          nextSerial := (s.line l).nextSerial + 1, record := some (soughtOther (nextIdentity s l) r.grade d)
          counts := { (s.line l).counts with callAttempts := satInc (s.line l).counts.callAttempts } } := by
  rw [sought_line, if_pos rfl, seekingRecord_other hother]

theorem enterWaiting_lost_line :
    (enterWaiting s l (rerouted (addTried r d))).line l = { s.line l with record := some (waitingRecord r.grade) } := by
  rw [enterWaiting_line, if_pos rfl, waiting_rerouted]

/-- R85: the record of line `l`, refused, with its entry released. -/
theorem recordRefused_of (hrecord : (s.line l).record = some r) (hd : r.direction = some d) (hid : r.identity = some id) :
    recordRefused s l = attempt (releaseEntry s d id) l (rerouted (addTried r d)) := by
  unfold recordRefused
  rw [hrecord]
  dsimp only
  rw [releaseOwn_of hd hid, hd]

/-- R85, R86: the state in which a broken record makes its next attempt. -/
def brokenOff (s : State) (l : Line) (d : Side) (id : Identity) : State :=
  (releaseEntry s d id).setLine l (enterCalling (s.line l))

theorem breakRecord_of {att : State → Line → CallRecord → State} (hrecord : (s.line l).record = some r)
    (hactive : r.state = .seeking ∨ r.state = .connected) (hd : r.direction = some d) (hid : r.identity = some id) :
    breakRecord att s l
      = att (brokenOff s l d id) l (rerouted (addTried { r with triedUp := false, triedDown := false } d)) := by
  unfold breakRecord
  rw [hrecord]
  dsimp only
  rw [if_pos (recordActive_iff.2 hactive), releaseOwn_of hd hid, newRound_of hd]
  rfl

theorem recordBroken_of (hrecord : (s.line l).record = some r) (hactive : r.state = .seeking ∨ r.state = .connected)
    (hd : r.direction = some d) (hid : r.identity = some id) :
    recordBroken s l
      = attempt (brokenOff s l d id) l (rerouted (addTried { r with triedUp := false, triedDown := false } d)) :=
  breakRecord_of hrecord hactive hd hid

theorem brokenOff_line (l : Line) : (brokenOff s l d id).line l = enterCalling (s.line l) := setLine_line _ _ _

theorem brokenOff_line_ne (h : m ≠ l) : (brokenOff s l d id).line m = s.line m := line_setLine_ne _ h

theorem brokenOff_table (x : Side) :
    (brokenOff s l d id).table x = if x = d then tableWithout (s.table d) id else s.table x := releaseEntry_table x

theorem within_brokenOff (s : State) (l : Line) (d : Side) (id : Identity) :
    Within [.srt, .lines] s (brokenOff s l d id) :=
  (within_releaseEntry s d id).seq (within_setLine (releaseEntry s d id) l _)

theorem room_brokenOff (s : State) (l : Line) (d : Side) (id : Identity) : SameRoom s (brokenOff s l d id) :=
  SameRoom.of_within (within_brokenOff s l d id) (by decide)

theorem room_releaseEntry (s : State) (d : Side) (id : Identity) : SameRoom s (releaseEntry s d id) :=
  SameRoom.of_within (within_releaseEntry s d id) (by decide)

theorem nextIdentity_of_line (hstraps : t.straps = s.straps) (h : (t.line l).nextSerial = (s.line l).nextSerial) :
    nextIdentity t l = nextIdentity s l := by
  rw [nextIdentity, nextIdentity, h, State.station, State.station, hstraps]

/-- R85, R86, R82: what a broken record that seeks the other way leaves. -/
theorem recordBroken_seeks (hgw : s.isGateway = false) (hrecord : (s.line l).record = some r)
    (hactive : r.state = .seeking ∨ r.state = .connected) (hd : r.direction = some d) (hid : r.identity = some id)
    (hvalid : (s.entry (otherSide d)).valid = true) (hroom : (s.table (otherSide d)).length < 8)
    (htakes : takesLocal s (otherSide d) .call = true) :
    (recordBroken s l).line l
        = { enterCalling (s.line l) with
            nextSerial := (s.line l).nextSerial + 1, record := some (soughtOther (nextIdentity s l) r.grade d)
            counts := { (s.line l).counts with callAttempts := satInc (s.line l).counts.callAttempts } }
      ∧ (recordBroken s l).table d = tableWithout (s.table d) id
      ∧ (recordBroken s l).table (otherSide d) = s.table (otherSide d) ++ [originEntry (nextIdentity s l) r.grade]
      ∧ ((recordBroken s l).side (otherSide d)).insCall
        = (s.side (otherSide d)).insCall
          ++ [makeCell s.station .callSetup 254 (referenceOf (nextIdentity s l)) (gradeCode r.grade) 0 0 []]
      ∧ (recordBroken s l).ccu = s.ccu := by
  have hplace : ((brokenOff s l d id).table (otherSide d)).length < 8 := by
    rw [brokenOff_table, if_neg (otherSide_ne d)]
    exact hroom
  have htaken : takesLocal (brokenOff s l d id) (otherSide d) .call = true :=
    ((room_brokenOff s l d id).takesLocal _ _).trans htakes
  have hnone : hasTried { r with triedUp := false, triedDown := false } (otherSide d) = false := by
    cases d with
    | _ => rfl
  have hnext : nextIdentity (brokenOff s l d id) l = nextIdentity s l :=
    nextIdentity_of_line rfl (by rw [brokenOff_line]; rfl)
  rw [recordBroken_of hrecord hactive hd hid,
    attempt_other (s := brokenOff s l d id) (d := d) (l := l) hgw hnone hvalid hplace htaken]
  refine ⟨?_, ?_, ?_, ?_, ?_⟩
  · rw [sought_other_line hnone, brokenOff_line, hnext]
    rfl
  · rw [sought_table, if_neg (otherSide_ne d).symm, brokenOff_table, if_pos rfl]
  · rw [sought_table, if_pos rfl, brokenOff_table, if_neg (otherSide_ne d), hnext, grade_rerouted]
  · rw [sought_side htaken, hnext, grade_rerouted]
    rfl
  · exact within_sought (brokenOff s l d id) l _ (otherSide d) .ccu (by decide)

/-- R84 to R86: what a broken record that waits leaves. -/
theorem breakRecord_waits {att : State → Line → CallRecord → State} (hrecord : (s.line l).record = some r)
    (hactive : r.state = .seeking ∨ r.state = .connected) (hd : r.direction = some d) (hid : r.identity = some id)
    (hatt : att (brokenOff s l d id) l (rerouted (addTried { r with triedUp := false, triedDown := false } d))
      = enterWaiting (brokenOff s l d id) l (rerouted (addTried { r with triedUp := false, triedDown := false } d))) :
    (breakRecord att s l).line l = { enterCalling (s.line l) with record := some (waitingRecord r.grade) }
      ∧ (∀ q, q ≠ l → (breakRecord att s l).line q = s.line q)
      ∧ (∀ x, (breakRecord att s l).table x = if x = d then tableWithout (s.table d) id else s.table x)
      ∧ Within [.srt, .lines] s (breakRecord att s l) := by
  rw [breakRecord_of hrecord hactive hd hid, hatt]
  refine ⟨?_, fun q hq => ?_, fun x => brokenOff_table (l := l) x,
    (within_brokenOff s l d id).seq (within_enterWaiting (brokenOff s l d id) l _)⟩
  · rw [enterWaiting_lost_line, brokenOff_line]
  · rw [enterWaiting_line, if_neg hq, brokenOff_line_ne hq]

theorem recordBroken_waits (hgw : s.isGateway = false) (hrecord : (s.line l).record = some r)
    (hactive : r.state = .seeking ∨ r.state = .connected) (hd : r.direction = some d) (hid : r.identity = some id)
    (hinvalid : (s.entry (otherSide d)).valid = false) :
    (recordBroken s l).line l = { enterCalling (s.line l) with record := some (waitingRecord r.grade) }
      ∧ (∀ q, q ≠ l → (recordBroken s l).line q = s.line q)
      ∧ (∀ x, (recordBroken s l).table x = if x = d then tableWithout (s.table d) id else s.table x)
      ∧ Within [.srt, .lines] s (recordBroken s l) :=
  breakRecord_waits hrecord hactive hd hid (attempt_lost (s := brokenOff s l d id) (l := l) hgw hinvalid)

/-- R85, R82: what a refused record that seeks the other way leaves. -/
theorem recordRefused_seeks (hgw : s.isGateway = false) (hrecord : (s.line l).record = some r)
    (hd : r.direction = some d) (hid : r.identity = some id) (hother : hasTried r (otherSide d) = false)
    (hvalid : (s.entry (otherSide d)).valid = true) (hroom : (s.table (otherSide d)).length < 8)
    (htakes : takesLocal s (otherSide d) .call = true) :
    ((recordRefused s l).line l).record = some (soughtOther (nextIdentity s l) r.grade d)
      ∧ (recordRefused s l).table d = tableWithout (s.table d) id
      ∧ (recordRefused s l).table (otherSide d) = s.table (otherSide d) ++ [originEntry (nextIdentity s l) r.grade]
      ∧ ((recordRefused s l).side (otherSide d)).insCall
        = (s.side (otherSide d)).insCall
          ++ [makeCell s.station .callSetup 254 (referenceOf (nextIdentity s l)) (gradeCode r.grade) 0 0 []] := by
  have hplace : ((releaseEntry s d id).table (otherSide d)).length < 8 := by
    rw [releaseEntry_table, if_neg (otherSide_ne d)]
    exact hroom
  have htaken : takesLocal (releaseEntry s d id) (otherSide d) .call = true :=
    ((room_releaseEntry s d id).takesLocal _ _).trans htakes
  rw [recordRefused_of hrecord hd hid,
    attempt_other (s := releaseEntry s d id) (d := d) (l := l) hgw hother hvalid hplace htaken]
  refine ⟨?_, ?_, ?_, ?_⟩
  · rw [sought_other_line hother]
    rfl
  · rw [sought_table, if_neg (otherSide_ne d).symm, releaseEntry_table, if_pos rfl]
  · rw [sought_table, if_pos rfl, releaseEntry_table, if_neg (otherSide_ne d), grade_rerouted]
    rfl
  · rw [sought_side htaken, grade_rerouted]
    rfl

/-- R84, R85: what a refused record that waits leaves. -/
theorem recordRefused_waits (hgw : s.isGateway = false) (hrecord : (s.line l).record = some r)
    (hd : r.direction = some d) (hid : r.identity = some id) (hinvalid : (s.entry (otherSide d)).valid = false) :
    ((recordRefused s l).line l).record = some (waitingRecord r.grade)
      ∧ (∀ x, (recordRefused s l).table x = if x = d then tableWithout (s.table d) id else s.table x)
      ∧ Within [.srt, .lines] s (recordRefused s l) := by
  rw [recordRefused_of hrecord hd hid, attempt_lost (s := releaseEntry s d id) (d := d) (l := l) hgw hinvalid]
  refine ⟨?_, fun x => releaseEntry_table x, (within_releaseEntry s d id).seq (within_enterWaiting _ l _)⟩
  rw [enterWaiting_lost_line]

/-! ## The cells of the record's own call (R85, R86) -/

/-- R74, R80: TALK keeps the record and every count but PLAYOUT-UNDERRUN. -/
theorem enterTalk_keeps (x : PhoneLine) :
    (enterTalk x).state = .talk ∧ (enterTalk x).record = x.record
      ∧ (enterTalk x).counts.callsConnected = x.counts.callsConnected := by
  rw [enterTalk, playHead]
  dsimp only
  split
  · exact ⟨rfl, rfl, rfl⟩
  · exact ⟨rfl, rfl, rfl⟩

theorem recordAccepted_table (x : Side) :
    (recordAccepted s l r id d).table x = if x = d then changeCall (s.table d) id heldEntry else s.table x :=
  table_setTable s d x _

/-- R85: the line of an accepted call. -/
theorem recordAccepted_line :
    (recordAccepted s l r id d).line l
      = let y := enterTalk { s.line l with record := some { r with state := .connected, timer := none } }
        { y with counts := { y.counts with callsConnected := satInc y.counts.callsConnected } } := by
  rw [recordAccepted]
  dsimp only
  rw [countConnected, State.countLine, setLine_line, setLine_line]
  rfl

theorem within_accepted : Within [.srt, .lines] s (recordAccepted s l r id d) :=
  ((within_setTable s d _).seq (within_setLine _ l _) (parts := [.srt, .lines])).seq (within_countLine _ l _)

theorem recordReleased_of (hrecord : (s.line l).record = some r) (hd : r.direction = some d) (hid : r.identity = some id) :
    recordReleased s l = (releaseEntry s d id).setLine l (enterCleared (s.line l)) := by
  unfold recordReleased
  rw [hrecord]
  dsimp only
  rw [releaseOwn_of hd hid]
  rfl

theorem playoutPush_playout (s : State) (l : Line) (b : List Byte) :
    ((playoutPush s l b).line l).playout
      = (if 4 ≤ (s.line l).playout.length then (s.line l).playout.drop 1 else (s.line l).playout) ++ [b] := by
  unfold playoutPush
  by_cases h : playoutCapacity ≤ (s.line l).playout.length
  · rw [if_pos h, if_pos (show 4 ≤ (s.line l).playout.length from h), State.countLine, setLine_line, setLine_line]
  · rw [if_neg h, if_neg (show ¬ 4 ≤ (s.line l).playout.length from h), setLine_line]

end

section
variable {s t : State} {p : Port} {a d : Side} {c : CellData} {i : Instr} {k : Kind} {x : Cell} {v : PortUnit}
  {r : CallRecord}

/-! ## A CALL cell at its origin (R85 to R88) -/

theorem exec_call_at_origin (h : (i, k) ∈ callCommands p c) (hgrant : cellGranted s p (cellOf k c) = true)
    (hends : endsHere s c = true) :
    ∃ v, exec i s = .next (ended s (takeAtOrigin (met s p v) (s.sideOf p) (cellOf k c))) ∧ Admitted s p v := by
  obtain ⟨v, hexec, hv⟩ := exec_call_granted h hgrant
  exact ⟨v, hexec.trans (congrArg Host.Outcome.next (congrArg (ended s) (call_at_origin (met s p v) (s.sideOf p) k c hends))),
    hv⟩

theorem node_of_ends (h : endsHere s c = true) : s.isGateway = false := by
  simp only [endsHere, Bool.and_eq_true, Bool.not_eq_true'] at h
  exact h.1.1

theorem takeAtOrigin_of (hrecord : (s.line (callOf c).phone).record = some r) :
    takeAtOrigin s a (cellOf k c)
      = match r.state, r.direction, r.identity == some (callOf c) with
        | .seeking, some d, true => takeSeeking s (callOf c).phone r (callOf c) d k
        | .connected, some d, true => takeConnected s (callOf c).phone (callOf c) d (cellOf k c)
        | _, _, _ => takeStale s a (cellOf k c) := by
  unfold takeAtOrigin
  dsimp only
  rw [show (s.line (callOf (cellOf k c).toCellData).phone).record = some r from hrecord]
  rfl

theorem takeAtOrigin_seeking (hrecord : (s.line (callOf c).phone).record = some r) (hd : r.direction = some d)
    (hid : r.identity = some (callOf c)) (h : r.state = .seeking) :
    takeAtOrigin s a (cellOf k c) = takeSeeking s (callOf c).phone r (callOf c) d k := by
  rw [takeAtOrigin_of hrecord, h, hd, hid, beq_self_eq_true]

theorem takeAtOrigin_connected (hrecord : (s.line (callOf c).phone).record = some r) (hd : r.direction = some d)
    (hid : r.identity = some (callOf c)) (h : r.state = .connected) :
    takeAtOrigin s a (cellOf k c) = takeConnected s (callOf c).phone (callOf c) d (cellOf k c) := by
  rw [takeAtOrigin_of hrecord, h, hd, hid, beq_self_eq_true]

/-- R88: no active record of the line has the identity. -/
theorem takeAtOrigin_stale
    (h : ∀ r, (s.line (callOf c).phone).record = some r → r.identity = some (callOf c) →
      r.state ≠ .seeking ∧ r.state ≠ .connected) :
    takeAtOrigin s a (cellOf k c) = takeStale s a (cellOf k c) := by
  cases hrecord : (s.line (callOf c).phone).record with
  | none =>
    unfold takeAtOrigin
    dsimp only
    rw [show (s.line (callOf (cellOf k c).toCellData).phone).record = none from hrecord]
  | some r =>
    rw [takeAtOrigin_of hrecord]
    split
    · next hstate _ hid => exact absurd hstate (h r hrecord (beq_iff_eq.1 hid)).1
    · next hstate _ hid => exact absurd hstate (h r hrecord (beq_iff_eq.1 hid)).2
    · rfl

/-- R85, R86: a CALL-RELEASE and a CALL-BROKEN are taken alike in SEEKING and in CONNECTED. -/
theorem takeAtOrigin_active (hrecord : (s.line (callOf c).phone).record = some r) (hd : r.direction = some d)
    (hid : r.identity = some (callOf c)) (h : r.state = .seeking ∨ r.state = .connected) :
    takeAtOrigin s a (cellOf .callRelease c) = recordReleased s (callOf c).phone
      ∧ takeAtOrigin s a (cellOf .callBroken c) = recordBroken s (callOf c).phone := by
  rcases h with h | h
  · exact ⟨takeAtOrigin_seeking hrecord hd hid h, takeAtOrigin_seeking hrecord hd hid h⟩
  · exact ⟨takeAtOrigin_connected hrecord hd hid h, takeAtOrigin_connected hrecord hd hid h⟩

/-- R88: the answer to a stale ACCEPT or VOICE. -/
def staleAnswer (s : State) (a : Side) (c : CellData) : State :=
  offerControl s a (callCell s.station .callRelease c.origin (callOf c) 0 0)

theorem answerStale_of_free (h : (s.line (callOf c).phone).staleHold = none) :
    answerStale s a (cellOf k c)
      = ((staleAnswer s a c).setLine (callOf c).phone
          { (staleAnswer s a c).line (callOf c).phone with staleHold := some 500 }).countLine (callOf c).phone
          (fun n => { n with staleAnswered := satInc n.staleAnswered }) := by
  unfold answerStale
  dsimp only
  rw [show (s.line (callOf (cellOf k c).toCellData).phone).staleHold = none from h]
  rfl

theorem answerStale_of_held (h : (s.line (callOf c).phone).staleHold.isSome = true) :
    answerStale s a (cellOf k c) = s := if_pos h

theorem answerStale_line (h : (s.line (callOf c).phone).staleHold = none) :
    (answerStale s a (cellOf k c)).line (callOf c).phone
      = { s.line (callOf c).phone with
          staleHold := some 500
          counts := { (s.line (callOf c).phone).counts with
            staleAnswered := satInc (s.line (callOf c).phone).counts.staleAnswered } } := by
  have hline : (staleAnswer s a c).line (callOf c).phone = s.line (callOf c).phone :=
    line_of_within (within_offerControl s a _) (by decide) (callOf c).phone
  rw [answerStale_of_free h, State.countLine, setLine_line, setLine_line, hline]

theorem within_answerStale (h : (s.line (callOf c).phone).staleHold = none) :
    Within [.ports, .node, .tiu, .lines, .ccu] s (answerStale s a (cellOf k c)) := by
  rw [answerStale_of_free h]
  exact ((within_offerControl s a _).seq (within_setLine (staleAnswer s a c) _ _)
    (parts := [.ports, .node, .tiu, .lines, .ccu])).seq (within_countLine _ _ _)

theorem answerStale_side (h : (s.line (callOf c).phone).staleHold = none) (htakes : takesLocal s a .call = true) :
    ((answerStale s a (cellOf k c)).side a).insCall
      = (s.side a).insCall ++ [makeCell s.station .callRelease c.origin (referenceOf (callOf c)) 0 0 0 []] := by
  rw [answerStale_of_free h]
  exact congrArg Tiu.insCall
    (offerControl_call (s := s) (d := a) (x := callCell s.station .callRelease c.origin (callOf c) 0 0) rfl nofun htakes).1

theorem mem_callRefuse (p : Port) (c : CellData) : (Instr.callRefuse p c, Kind.callRefuse) ∈ callCommands p c := by
  simp [callCommands]

theorem mem_callRelease (p : Port) (c : CellData) : (Instr.callRelease p c, Kind.callRelease) ∈ callCommands p c := by
  simp [callCommands]

theorem mem_callBroken (p : Port) (c : CellData) : (Instr.callBroken p c, Kind.callBroken) ∈ callCommands p c := by
  simp [callCommands]

end

/-- Settles O37. -/
theorem originTakesItsCells : Obligations.OriginTakesItsCells := by
  refine ⟨fun p c r d s => ?_, fun p c s => ?_⟩
  · intro id l new hends hrecord hd hid
    have hgw := node_of_ends hends
    refine ⟨fun hseeking hgrant => ?_, fun hactive hgrant => ?_, fun hseeking hgrant hinvalid => ?_,
      fun hseeking hgrant hvalid hother hroom htakes => ?_, fun hactive hgrant hvalid hroom htakes => ?_,
      fun hactive hgrant hinvalid => ?_, fun hconnected hgrant => ?_⟩
    · obtain ⟨v, hexec, hv⟩ := exec_call_at_origin (mem_callAccept p c) hgrant hends
      rw [takeAtOrigin_seeking (s := met s p v) hrecord hd hid hseeking] at hexec
      have hline := recordAccepted_line (s := met s p v) (l := l) (r := r) (id := id) (d := d)
      obtain ⟨hstate, hkept, hcount⟩ := enterTalk_keeps
        { s.line l with record := some { r with state := .connected, timer := none } }
      refine ⟨_, hexec, within_ended ((within_met s p v).seq within_accepted (parts := [.inHand, .ports, .srt, .lines])),
        ?_, ?_, ?_, fun hplayout => ?_, ?_⟩
      · rw [ended_line]
        exact (congrArg PhoneLine.state hline).trans hstate
      · rw [ended_line]
        exact (congrArg PhoneLine.record hline).trans hkept
      · rw [ended_line]
        exact (congrArg (fun y => y.counts.callsConnected) hline).trans (congrArg satInc hcount)
      · obtain ⟨_, _, hplaying, hplay, hpack, hcounts⟩ := enterTalk_fields
          (x := { s.line l with record := some { r with state := .connected, timer := none } }) hplayout
        rw [ended_line]
        exact ⟨(congrArg PhoneLine.playing hline).trans hplaying, (congrArg PhoneLine.playPeriod hline).trans hplay,
          (congrArg PhoneLine.packPeriod hline).trans hpack,
          (congrArg (fun y => y.counts.playoutUnderrun) hline).trans (congrArg LineCounts.playoutUnderrun hcounts)⟩
      · rw [ended_table]
        exact (recordAccepted_table d).trans (if_pos rfl)
    · obtain ⟨v, hexec, hv⟩ := exec_call_at_origin (mem_callRelease p c) hgrant hends
      rw [(takeAtOrigin_active (s := met s p v) hrecord hd hid hactive).1,
        recordReleased_of (s := met s p v) hrecord hd hid] at hexec
      refine ⟨_, hexec, within_ended ((within_met s p v).seq
        ((within_releaseEntry (met s p v) d id).seq (within_setLine _ _ _) (parts := [.srt, .lines]))
        (parts := [.inHand, .ports, .srt, .lines])), ?_, ?_, ?_, ?_⟩
      · rw [ended_line, setLine_line]
        rfl
      · rw [ended_line, setLine_line]
        rfl
      · rw [ended_line, setLine_line]
        rfl
      · rw [ended_table]
        exact (releaseEntry_table (s := met s p v) d).trans (if_pos rfl)
    · obtain ⟨v, hexec, hv⟩ := exec_call_at_origin (mem_callRefuse p c) hgrant hends
      rw [takeAtOrigin_seeking (s := met s p v) hrecord hd hid hseeking] at hexec
      obtain ⟨hline, htable, _⟩ := recordRefused_waits (s := met s p v) (l := l) hgw hrecord hd hid hinvalid
      refine ⟨_, hexec, ?_, waitingRecord r.grade, ?_, rfl, rfl, rfl⟩
      · rw [ended_table]
        exact (htable d).trans (if_pos rfl)
      · rw [ended_line]
        exact hline
    · obtain ⟨v, hexec, hv⟩ := exec_call_at_origin (mem_callRefuse p c) hgrant hends
      rw [takeAtOrigin_seeking (s := met s p v) hrecord hd hid hseeking] at hexec
      obtain ⟨hline, htable, hother, hside⟩ := recordRefused_seeks (s := met s p v) (l := l) hgw hrecord hd hid hother hvalid
        hroom (((SameRoom.granted hv).takesLocal _ _).trans htakes)
      refine ⟨_, hexec, ?_, ?_, ?_, ?_⟩
      · rw [ended_line]
        exact hline
      · rw [ended_table]
        exact htable
      · rw [ended_table]
        exact hother
      · rw [ended_side]
        exact hside
    · obtain ⟨v, hexec, hv⟩ := exec_call_at_origin (mem_callBroken p c) hgrant hends
      rw [(takeAtOrigin_active (s := met s p v) hrecord hd hid hactive).2] at hexec
      obtain ⟨hline, htable, hother, _⟩ := recordBroken_seeks (s := met s p v) (l := l) hgw hrecord hactive hd hid hvalid
        hroom (((SameRoom.granted hv).takesLocal _ _).trans htakes)
      refine ⟨_, hexec, ?_, ?_, ?_, ?_, ?_, ?_⟩
      · rw [ended_line]
        exact congrArg PhoneLine.state hline
      · rw [ended_line]
        exact congrArg PhoneLine.playing hline
      · rw [ended_line]
        exact congrArg PhoneLine.record hline
      · rw [ended_line]
        exact congrArg (fun y => y.counts.callAttempts) hline
      · rw [ended_table]
        exact htable
      · rw [ended_table]
        exact hother
    · obtain ⟨v, hexec, hv⟩ := exec_call_at_origin (mem_callBroken p c) hgrant hends
      rw [(takeAtOrigin_active (s := met s p v) hrecord hd hid hactive).2] at hexec
      obtain ⟨hline, _, htable, _⟩ := recordBroken_waits (s := met s p v) (l := l) hgw hrecord hactive hd hid hinvalid
      refine ⟨_, hexec, ?_, ?_, ?_, waitingRecord r.grade, ?_, rfl, rfl, rfl⟩
      · rw [ended_table]
        exact (htable d).trans (if_pos rfl)
      · rw [ended_line]
        exact congrArg PhoneLine.state hline
      · rw [ended_line]
        exact congrArg PhoneLine.playing hline
      · rw [ended_line]
        exact congrArg PhoneLine.record hline
    · obtain ⟨v, hexec, hv⟩ := exec_call_at_origin (mem_voice p c) hgrant hends
      rw [takeAtOrigin_connected (s := met s p v) hrecord hd hid hconnected] at hexec
      refine ⟨_, hexec, within_ended ((within_met s p v).seq
        ((within_setTable (met s p v) d _).seq (within_playoutPush _ _ _) (parts := [.srt, .lines]))
        (parts := [.inHand, .ports, .srt, .lines])), ?_, ?_⟩
      · rw [ended_table]
        refine (table_of_within (within_playoutPush _ _ _) (by decide) d).trans ?_
        rw [setTable_table]
        exact changeCall_watched _
      · rw [ended_line]
        exact playoutPush_playout _ _ _
  · intro a id l hends hstale
    refine ⟨fun i k h hgrant => ?_, fun i k h hgrant => ?_⟩
    · have hmem : (i, k) ∈ callCommands p c := by
        simp only [List.mem_cons, Prod.mk.injEq, List.not_mem_nil, or_false] at h
        rcases h with ⟨rfl, rfl⟩ | ⟨rfl, rfl⟩
        · exact mem_callAccept p c
        · exact mem_voice p c
      have hanswers : ∀ y : State, takeStale y a (cellOf k c) = answerStale y a (cellOf k c) := by
        intro y
        simp only [List.mem_cons, Prod.mk.injEq, List.not_mem_nil, or_false] at h
        rcases h with ⟨_, rfl⟩ | ⟨_, rfl⟩
        · rfl
        · rfl
      obtain ⟨v, hexec, hv⟩ := exec_call_at_origin hmem hgrant hends
      rw [takeAtOrigin_stale (s := met s p v) hstale, hanswers] at hexec
      refine ⟨fun hfree => ⟨_, hexec, ?_, ?_, fun htakes => ?_⟩, fun hheld => ?_⟩
      · exact within_ended ((within_met s p v).seq (within_answerStale (s := met s p v) hfree)
          (parts := [.inHand, .ports, .node, .tiu, .lines, .ccu]))
      · rw [ended_line]
        exact answerStale_line (s := met s p v) hfree
      · rw [ended_side]
        exact answerStale_side (s := met s p v) hfree (((SameRoom.granted hv).takesLocal _ _).trans htakes)
      · rw [answerStale_of_held (s := met s p v) hheld] at hexec
        exact ⟨_, hexec, within_ended (within_met s p v), ended_inHand _ _⟩
    · obtain ⟨hmem, hk⟩ := endCommands_cases h
      obtain ⟨v, hexec, hv⟩ := exec_call_at_origin hmem hgrant hends
      have hdiscards : takeStale (met s p v) a (cellOf k c) = met s p v := by
        rcases hk with rfl | rfl | rfl
        · rfl
        · rfl
        · rfl
      rw [takeAtOrigin_stale (s := met s p v) hstale, hdiscards] at hexec
      exact ⟨_, hexec, within_ended (within_met s p v), ended_inHand _ _⟩

end Sys2Proof.Machine
end

section
/-! PROOFS. Preemption (R92), and the timers of a Call Record (O36). -/

set_option Elab.async false

namespace Sys2Proof.Machine

section
variable {s t u : State} {l m : Line} {d : Side} {r y : CallRecord} {n : Nat} {id : Identity} {e : SrtEntry} {x : Cell}

/-! ## Two CALL-BROKENs made one after the other (R92, R99) -/

/-- R45: what two CALL cells made by the CCU can take: two buffers, and one place in a queue of each side. -/
structure TwoMade (s t : State) : Prop where
  within : Within controlParts s t
  service : ∀ d, t.inService d = s.inService d
  queue : ∀ d, (t.side d).insCall.length ≤ (s.side d).insCall.length + 1
  transit : ∀ d, (t.side d).tqCall = (s.side d).tqCall
  held : t.poolHeld ≤ s.poolHeld + 2

theorem insCall_insPush (v : Tiu) (x : Cell) : (insPush v x).insCall.length ≤ v.insCall.length + 1 := by
  unfold insPush
  split
  · exact Nat.le_succ _
  · exact Nat.le_of_eq List.length_append
  · exact Nat.le_succ _
  · exact Nat.le_succ _
  · exact Nat.le_succ _

theorem insCall_offerControl (s : State) (d : Side) (x : Cell) :
    ((offerControl s d x).side d).insCall.length ≤ (s.side d).insCall.length + 1 := by
  rw [offerControl_side]
  unfold offerEffect
  split
  · split
    · rw [setSide_side]
      exact insCall_insPush _ _
    · rw [side_wakeSide, setSide_side]
      exact insCall_insPush _ _
  · exact Nat.le_succ _
  · rw [State.countSide, setSide_side]
    exact Nat.le_succ _
  · rw [State.countSide, setSide_side]
    exact Nat.le_succ _
  · exact Nat.le_succ _

theorem eq_otherSide {a : Side} (h : d ≠ a) : d = otherSide a := by
  cases a with
  | up =>
    cases d with
    | up => exact absurd rfl h
    | down => rfl
  | down =>
    cases d with
    | up => rfl
    | down => exact absurd rfl h

theorem twoMade (s : State) (a : Side) (x y : Cell) {f g : CcuCounts → CcuCounts} :
    TwoMade s (offerControl ((offerControl (s.countCcu f) a x).countCcu g) (otherSide a) y) where
  within :=
    (((within_countCcu s f).seq (within_offerControl (s.countCcu f) a x) (parts := controlParts)).seq
      (within_countCcu (offerControl (s.countCcu f) a x) g) (parts := controlParts)).trans (within_offerControl _ _ _)
  service d := (inService_offerControl _ (otherSide a) d y).trans (inService_offerControl (s.countCcu f) a d x)
  queue d := by
    by_cases hd : d = a
    · rw [hd, offerControl_back]
      exact insCall_offerControl (s.countCcu f) a x
    · rw [eq_otherSide hd]
      refine Nat.le_trans (insCall_offerControl _ (otherSide a) y) (Nat.add_le_add_right (Nat.le_of_eq ?_) 1)
      exact congrArg (fun v : Tiu => v.insCall.length) (offerControl_other (s.countCcu f) a x)
  transit d := (tqCall_offerControl _ (otherSide a) d y).trans (tqCall_offerControl (s.countCcu f) a d x)
  held := by
    have hfirst : (offerControl (s.countCcu f) a x).poolHeld ≤ s.poolHeld + 1 := poolHeld_offerControl (s.countCcu f) a x
    have hsecond := poolHeld_offerControl ((offerControl (s.countCcu f) a x).countCcu g) (otherSide a) y
    have hsame : ((offerControl (s.countCcu f) a x).countCcu g).poolHeld = (offerControl (s.countCcu f) a x).poolHeld := rfl
    omega

/-- R92: the side toward the origin of a PATH victim. -/
def towardOrigin (d : Side) (e : SrtEntry) : Side := if e.faces = .origin then d else otherSide d

theorem preemptPath_eq (s : State) (d : Side) (e : SrtEntry) :
    preemptPath s d e
      = makeBroken
          (makeBroken s (towardOrigin d e) e.identity.station e.identity (gradeCode e.grade) .preempted)
          (otherSide (towardOrigin d e)) anyGateway e.identity (gradeCode e.grade) .preempted := rfl

theorem twoMade_preemptPath (s : State) (d : Side) (e : SrtEntry) : TwoMade s (preemptPath s d e) := twoMade s _ _ _

theorem preemptPath_ccu (s : State) (d : Side) (e : SrtEntry) :
    (preemptPath s d e).ccu.preemptions = s.ccu.preemptions
      ∧ (preemptPath s d e).ccu.brokenPreempted = satInc (satInc s.ccu.brokenPreempted) := by
  rw [preemptPath_eq]
  unfold makeBroken
  rw [offerControl_ccu]
  dsimp only [countBroken, State.countCcu]
  rw [offerControl_ccu]
  exact ⟨rfl, rfl⟩

/-! ## A preempted entry (R92) -/

/-- R92: PREEMPTIONS counted. -/
def preemptionCounted (s : State) : State := s.countCcu (fun n => { n with preemptions := satInc n.preemptions })

theorem preemptEntry_of_path (h : e.place = .path) :
    preemptEntry s d e = preemptPath (releaseBoth (preemptionCounted s) e.identity) d e := by
  unfold preemptEntry
  rw [h]
  rfl

theorem preemptEntry_of_origin (h : e.place = .origin) :
    preemptEntry s d e = releaseEntry (preemptionCounted s) d e.identity := by
  unfold preemptEntry
  rw [h]
  rfl

theorem victimLine_of_path (h : e.place = .path) : victimLine e = none := by rw [victimLine, h]
theorem victimLine_of_origin (h : e.place = .origin) : victimLine e = some e.identity.phone := by rw [victimLine, h]

theorem tableWithout_twice (table : List SrtEntry) (id : Identity) :
    tableWithout (tableWithout table id) id = tableWithout table id := by
  rw [tableWithout, tableWithout, List.filter_filter]
  exact congrArg (fun p => List.filter p table) (funext fun e => Bool.and_self _)

/-- R92: what the preemption of a PATH entry leaves. -/
theorem preemptEntry_path (h : e.place = .path) :
    (preemptEntry s d e).ccu.preemptions = satInc s.ccu.preemptions
      ∧ (preemptEntry s d e).ccu.brokenPreempted = satInc (satInc s.ccu.brokenPreempted)
      ∧ (∀ x, (preemptEntry s d e).table x = tableWithout (s.table x) e.identity)
      ∧ TwoMade (releaseBoth (preemptionCounted s) e.identity) (preemptEntry s d e)
      ∧ Within [.ports, .node, .tiu, .srt, .ccu] s (preemptEntry s d e) := by
  rw [preemptEntry_of_path h]
  have hmade := twoMade_preemptPath (releaseBoth (preemptionCounted s) e.identity) d e
  obtain ⟨hpreemptions, hbroken⟩ := preemptPath_ccu (releaseBoth (preemptionCounted s) e.identity) d e
  refine ⟨hpreemptions, hbroken, fun x => ?_, hmade, ?_⟩
  · exact (table_of_within hmade.within (by decide) x).trans (releaseBoth_table x)
  · exact (((within_countCcu s _).seq (within_releaseBoth (preemptionCounted s) e.identity)
      (parts := [.srt, .ccu]))).seq hmade.within

theorem room_releaseBoth (s : State) (id : Identity) : SameRoom s (releaseBoth (preemptionCounted s) id) :=
  SameRoom.of_within (parts := [.ccu, .srt])
    ((within_countCcu s _).seq (within_releaseBoth (preemptionCounted s) id)) (by decide)

/-- R92: room is left for an own CALL cell beside two CALL-BROKENs. -/
theorem TwoMade.takesLocal (h : TwoMade s t) (hin : s.inService d = true) (hroom : (s.side d).insCall.length + 1 < 16)
    (hpool : 18 ≤ s.poolFree) : Machine.takesLocal t d .call = true := by
  have hqueue := h.queue d
  have hheld := h.held
  rw [poolFree_eq] at hpool
  rw [Machine.takesLocal, Bool.and_eq_true, Bool.and_eq_true, decide_eq_true_eq, decide_eq_true_eq]
  refine ⟨⟨(h.service d).trans hin, ?_⟩, ?_⟩
  · show (t.side d).insCall.length < 16
    omega
  · show 16 ≤ t.poolFree
    rw [poolFree_eq]
    omega

/-! ## An own entry preempted (R92) -/

theorem preemptedRecord_of (s : State) (l : Line) (k : Spoken) : preemptedRecord k s l = breakRecord (attemptPlain k) s l := rfl

theorem attemptPlain_waits {k : Spoken} (hgw : s.isGateway = false) (hdir : recordDirection s r = none) :
    attemptPlain k s l r = enterWaiting s l r :=
  (if_neg (Bool.eq_false_iff.1 hgw)).trans (attemptSteps_waits hdir)

/-- R84, R86, R92: the record of a preempted ORIGIN entry waits where the other side is not VALID. -/
theorem preemptedRecord_waits {k : Spoken} (hgw : s.isGateway = false) (hrecord : (s.line l).record = some r)
    (hactive : r.state = .seeking ∨ r.state = .connected) (hd : r.direction = some d) (hid : r.identity = some id)
    (hinvalid : (s.entry (otherSide d)).valid = false) :
    (preemptedRecord k s l).line l = { enterCalling (s.line l) with record := some (waitingRecord r.grade) }
      ∧ (∀ q, q ≠ l → (preemptedRecord k s l).line q = s.line q)
      ∧ (∀ x, (preemptedRecord k s l).table x = if x = d then tableWithout (s.table d) id else s.table x)
      ∧ Within [.srt, .lines] s (preemptedRecord k s l) :=
  breakRecord_waits hrecord hactive hd hid
    (attemptPlain_waits (s := brokenOff s l d id) hgw (recordDirection_of_lost (hasTried_addTried _ d) hinvalid))

theorem ownRoom_preempts {spoken : Spoken} (hfull : 8 ≤ (s.table d).length + spoken d) (hgrade : r.grade = .accident)
    (h : youngestBreakdown (s.table d) = some e) :
    ownRoom true spoken s d r = some (preemptEntry s d e, victimLine e) := by
  have htaken : ¬ (!tableTaken (spoken d) (s.table d)) = true := by
    rw [not_tableTaken_iff]
    exact Nat.not_lt.2 hfull
  have haccident : (true && r.grade == .accident) = true := by
    rw [hgrade]
    rfl
  rw [ownRoom, if_neg htaken, if_pos haccident, h]

/-- R92: an attempt of an ACCIDENT record that preempts; `u` is the state in which its own entry is placed. -/
theorem attempt_preempts (hgw : s.isGateway = false) (hdir : recordDirection s r = some d) (hgrade : r.grade = .accident)
    (hfull : 8 ≤ (s.table d).length) (h : youngestBreakdown (s.table d) = some e)
    (hu : settleVictim (preemptedRecord (spokenOwn d)) (preemptEntry s d e) (victimLine e) = u)
    (htakes : takesLocal u d .call = true) : attempt s l r = sought u l r d :=
  (if_neg (Bool.eq_false_iff.1 hgw)).trans (attemptSteps_taken hdir (ownRoom_preempts hfull hgrade h) hu htakes)

/-! ## The timers of a record (R84 to R86) -/

theorem recordIn_of {st : RecordState} (hrecord : (s.line l).record = some r) (h : r.state = st) :
    recordIn s l st = some r := by
  rw [recordIn, hrecord]
  exact if_pos h

theorem exec_setupTimerExpiry (hworks : s.phonesWork = true) (hrecord : (s.line l).record = some r)
    (hstate : r.state = .seeking) (htimer : r.timer.isSome = true) :
    exec (.setupTimerExpiry l) s = .next (ended s (recordRefused (originRelease s r) l)) := by
  refine exec_done _ ((if_pos hworks).trans ?_)
  rw [recordIn_of hrecord hstate]
  exact if_pos htimer

theorem exec_callRetryTimerExpiry (hworks : s.phonesWork = true) (hrecord : (s.line l).record = some r)
    (hstate : r.state = .waiting) (htimer : r.timer.isSome = true) :
    exec (.callRetryTimerExpiry l) s = .next (ended s (attempt s l (rerouted r))) := by
  refine exec_done _ ((if_pos hworks).trans ?_)
  rw [recordIn_of hrecord hstate]
  exact if_pos htimer

theorem exec_originVoiceWatchExpiry (hworks : s.phonesWork = true) (hrecord : (s.line l).record = some r)
    (hstate : r.state = .connected) (hruns : watchRuns s r = true) :
    exec (.originVoiceWatchExpiry l) s = .next (ended s (watchExpired s l r)) := by
  refine exec_done _ ((if_pos hworks).trans ?_)
  rw [recordIn_of hrecord hstate]
  exact if_pos hruns

theorem originRelease_other (hd : r.direction = some d) (hid : r.identity = some id) :
    (originRelease s r).side (otherSide d) = s.side (otherSide d) := by
  rw [originRelease_of hd hid]
  exact offerControl_other _ _ _

theorem within_released (s : State) (r : CallRecord) : Within controlParts s (originRelease s r) := originRelease_parts s r

theorem originRelease_line (l : Line) : (originRelease s r).line l = s.line l :=
  line_of_within (within_released s r) (by decide) l

/-- R45: after the CALL-RELEASE of the old way the other side still takes the CALL-SETUP of the new one. -/
theorem takesLocal_after_release (hd : r.direction = some d) (hid : r.identity = some id)
    (h : takesLocal (s.holding (s.inHand + 1)) (otherSide d) .call = true) :
    takesLocal (originRelease s r) (otherSide d) .call = true := by
  rw [originRelease_of hd hid]
  exact takesLocal_after_offer (n := s.inHand) (SameRoom.refl s) h

/-- R81: the record that a first attempt or a retry seeks with. -/
theorem seekingRecord_first (hup : r.triedUp = false) (hdown : r.triedDown = false) :
    seekingRecord (rerouted r) id d
      = { identity := some id, grade := r.grade, state := .seeking, direction := some d, triedUp := false,
          triedDown := false, timer := some 2000 } := by
  rw [seekingRecord, rerouted]
  dsimp only
  rw [hup, hdown]
  rfl

theorem recordDirection_first (hup : r.triedUp = false) (hdown : r.triedDown = false) :
    recordDirection s (rerouted r) = s.nearest := by
  rw [recordDirection, show (rerouted r).triedUp = false from hup, show (rerouted r).triedDown = false from hdown]

/-- R86: the voice watch expired, counted, before the record is broken. -/
def watchCounted (s : State) (r : CallRecord) : State :=
  (originRelease s r).countCcu (fun n => { n with voiceWatchExpiries := satInc n.voiceWatchExpiries })

theorem watchExpired_eq (s : State) (l : Line) (r : CallRecord) : watchExpired s l r = recordBroken (watchCounted s r) l := rfl

theorem watchCounted_ccu (hd : r.direction = some d) (hid : r.identity = some id) :
    (watchCounted s r).ccu.voiceWatchExpiries = satInc s.ccu.voiceWatchExpiries := by
  unfold watchCounted
  rw [originRelease_of hd hid, State.countCcu, offerControl_ccu]

theorem within_watchCounted (s : State) (r : CallRecord) : Within controlParts s (watchCounted s r) :=
  (within_released s r).trans (within_countCcu (originRelease s r) _).widen

theorem room_watchCounted (s : State) (r : CallRecord) : SameRoom (originRelease s r) (watchCounted s r) :=
  SameRoom.of_within (within_countCcu (originRelease s r) _) (by decide)

theorem isGateway_of_within {parts : List Part} (h : Within parts s t) (k : Part.straps ∉ parts) :
    t.isGateway = s.isGateway := by
  rw [State.isGateway, show t.straps = s.straps from h .straps k, State.isGateway]

theorem nextIdentity_of_within {parts : List Part} (h : Within parts s t) (hstraps : Part.straps ∉ parts)
    (hlines : Part.lines ∉ parts) : nextIdentity t l = nextIdentity s l :=
  nextIdentity_of_line (h .straps hstraps) (by rw [line_of_within h hlines])

/-- R84: the retry of a record that waits. -/
theorem retry_moves (hworks : s.phonesWork = true) (hgw : s.isGateway = false) (hrecord : (s.line l).record = some r)
    (htimer : r.timer.isSome = true) (hstate : r.state = .waiting) (hup : r.triedUp = false) (hdown : r.triedDown = false)
    (hnearest : s.nearest = some d) (hroom : (s.table d).length < 8) (htakes : takesLocal s d .call = true) :
    ∃ t, exec (.callRetryTimerExpiry l) s = .next t
      ∧ (t.line l).record
        = some { identity := some (nextIdentity s l), grade := r.grade, state := .seeking, direction := some d,
                 triedUp := false, triedDown := false, timer := some 2000 }
      ∧ t.table d = s.table d ++ [originEntry (nextIdentity s l) r.grade] := by
  have hexec := exec_callRetryTimerExpiry hworks hrecord hstate htimer
  rw [attempt_taken hgw ((recordDirection_first hup hdown).trans hnearest) hroom htakes] at hexec
  refine ⟨_, hexec, ?_, ?_⟩
  · rw [ended_line, sought_line, if_pos rfl, seekingRecord_first hup hdown]
  · rw [ended_table, sought_table, if_pos rfl]
    rfl

/-- R92: an ACCIDENT record that preempts a PATH call of a full table. -/
theorem retry_preempts_path (hgw : s.isGateway = false) (hup : r.triedUp = false) (hdown : r.triedDown = false)
    (hnearest : s.nearest = some d) (hgrade : r.grade = .accident) (hfull : 8 ≤ (s.table d).length)
    (hyoungest : youngestBreakdown (s.table d) = some e) (hplace : e.place = .path) (hin : s.inService d = true)
    (hroom : (s.side d).insCall.length + 1 < 16) (hpool : 18 ≤ s.poolFree) :
    let t := attempt s l (rerouted r)
    t.ccu.preemptions = satInc s.ccu.preemptions ∧ t.ccu.brokenPreempted = satInc (satInc s.ccu.brokenPreempted)
      ∧ t.table d = tableWithout (s.table d) e.identity ++ [originEntry (nextIdentity s l) .accident]
      ∧ t.table (otherSide d) = tableWithout (s.table (otherSide d)) e.identity
      ∧ (t.line l).record
        = some { identity := some (nextIdentity s l), grade := r.grade, state := .seeking, direction := some d,
                 triedUp := false, triedDown := false, timer := some 2000 } := by
  intro t
  obtain ⟨hpreemptions, hbroken, htable, hmade, hwithin⟩ := preemptEntry_path (s := s) (d := d) hplace
  have hroomy := room_releaseBoth s e.identity
  have htakes : takesLocal (preemptEntry s d e) d .call = true :=
    hmade.takesLocal ((hroomy.service d).trans hin) (by rw [hroomy.side]; exact hroom) (hroomy.pool ▸ hpool)
  have hattempt : t = sought (preemptEntry s d e) l (rerouted r) d :=
    attempt_preempts hgw ((recordDirection_first hup hdown).trans hnearest) hgrade hfull hyoungest
      (by rw [victimLine_of_path hplace]; rfl) htakes
  have hccu : (sought (preemptEntry s d e) l (rerouted r) d).ccu = (preemptEntry s d e).ccu :=
    within_sought (preemptEntry s d e) l (rerouted r) d .ccu (by decide)
  have hnext : nextIdentity (preemptEntry s d e) l = nextIdentity s l :=
    nextIdentity_of_within hwithin (by decide) (by decide)
  rw [hattempt, hccu]
  refine ⟨hpreemptions, hbroken, ?_, ?_, ?_⟩
  · rw [sought_table, if_pos rfl, htable, hnext, show (rerouted r).grade = .accident from hgrade]
  · rw [sought_table, if_neg (otherSide_ne d), htable]
  · rw [sought_line, if_pos rfl, seekingRecord_first hup hdown, hnext]

/-- R84, R92: an ACCIDENT record that preempts an own call, whose record then waits. -/
theorem retry_preempts_own (hgw : s.isGateway = false) (hup : r.triedUp = false) (hdown : r.triedDown = false)
    (hnearest : s.nearest = some d) (hgrade : r.grade = .accident) (hfull : 8 ≤ (s.table d).length)
    (hyoungest : youngestBreakdown (s.table d) = some e) (hplace : e.place = .origin) (hne : e.identity.phone ≠ l)
    (hrecord : (s.line e.identity.phone).record = some y) (hactive : y.state = .seeking ∨ y.state = .connected)
    (hd : y.direction = some d) (hid : y.identity = some e.identity) (hinvalid : (s.entry (otherSide d)).valid = false)
    (htakes : takesLocal s d .call = true) :
    let t := attempt s l (rerouted r)
    t.ccu.preemptions = satInc s.ccu.preemptions
      ∧ t.table d = tableWithout (s.table d) e.identity ++ [originEntry (nextIdentity s l) .accident]
      ∧ (t.line e.identity.phone).record = some (waitingRecord y.grade) ∧ (t.line e.identity.phone).state = .calling
      ∧ (t.line l).record
        = some { identity := some (nextIdentity s l), grade := r.grade, state := .seeking, direction := some d,
                 triedUp := false, triedDown := false, timer := some 2000 } := by
  intro t
  have hreleased : Within [.srt, .ccu] s (releaseEntry (preemptionCounted s) d e.identity) :=
    (within_countCcu s _).seq (within_releaseEntry (preemptionCounted s) d e.identity)
  obtain ⟨hvictim, hothers, htable, hwithin⟩ := preemptedRecord_waits
    (s := releaseEntry (preemptionCounted s) d e.identity) (l := e.identity.phone) (k := spokenOwn d) hgw hrecord hactive hd
    hid hinvalid
  generalize hu : preemptedRecord (spokenOwn d) (releaseEntry (preemptionCounted s) d e.identity) e.identity.phone = u
    at hvictim hothers htable hwithin
  have hsettled : settleVictim (preemptedRecord (spokenOwn d)) (preemptEntry s d e) (victimLine e) = u := by
    rw [victimLine_of_origin hplace, preemptEntry_of_origin hplace]
    exact hu
  have hroomy : SameRoom s u :=
    SameRoom.of_within (parts := [.srt, .ccu, .lines]) (hreleased.seq hwithin) (by decide)
  have hattempt : t = sought u l (rerouted r) d :=
    attempt_preempts hgw ((recordDirection_first hup hdown).trans hnearest) hgrade hfull hyoungest hsettled
      ((hroomy.takesLocal d .call).trans htakes)
  have hccu : (sought u l (rerouted r) d).ccu = u.ccu := within_sought u l (rerouted r) d .ccu (by decide)
  have hline : u.line l = s.line l := hothers l hne.symm
  have hnext : nextIdentity u l = nextIdentity s l := nextIdentity_of_line hroomy.straps (by rw [hline])
  have huccu : u.ccu = (preemptionCounted s).ccu := hwithin .ccu (by decide)
  rw [hattempt, hccu]
  refine ⟨congrArg CcuCounts.preemptions huccu, ?_, ?_, ?_, ?_⟩
  · rw [sought_table, if_pos rfl, htable, if_pos rfl, releaseEntry_table, if_pos rfl, tableWithout_twice, hnext,
      show (rerouted r).grade = .accident from hgrade]
    rfl
  · rw [sought_line, if_neg hne, hvictim]
  · rw [sought_line, if_neg hne, hvictim]
    rfl
  · rw [sought_line, if_pos rfl, seekingRecord_first hup hdown, hnext]

end

/-- Settles O36. -/
theorem recordTimersMoveTheRecord : Obligations.RecordTimersMoveTheRecord := by
  intro l r s hworks
  refine ⟨fun hheld => ?_, fun hgw hrecord htimer => ?_, fun d id hgw hrecord hstate hd hid hruns => ?_⟩
  · have hlive : s.live = true := (Bool.and_eq_true_iff.1 hworks).1
    exact if_pos (by rw [hlive, hheld]; rfl)
  · intro id waiting
    refine ⟨fun hstate hup hdown => ⟨fun hnearest => ?_, fun d hnearest hroom htakes => ?_,
      fun d e hnearest hgrade hfull hyoungest => ⟨fun hplace hin hroom hpool => ?_,
        fun y hplace hne hrecord' hactive hd hid hinvalid htakes => ?_⟩⟩,
      fun d old hstate hd hid hvalid hother hroom htakes => ?_, fun d old hstate hd hid hinvalid => ?_⟩
    · have hexec := exec_callRetryTimerExpiry hworks hrecord hstate htimer
      rw [attempt_waits hgw ((recordDirection_first hup hdown).trans hnearest)] at hexec
      refine ⟨_, hexec, ?_, ended_srt _ _⟩
      rw [ended_line, enterWaiting_line, if_pos rfl]
      rfl
    · exact retry_moves hworks hgw hrecord htimer hstate hup hdown hnearest hroom htakes
    · have hexec := exec_callRetryTimerExpiry hworks hrecord hstate htimer
      obtain ⟨hpreemptions, hbroken, htable, hother, hline⟩ := retry_preempts_path (l := l) hgw hup hdown hnearest hgrade hfull
        hyoungest hplace hin hroom hpool
      refine ⟨_, hexec, ?_, ?_, ?_, ?_, ?_⟩
      · rw [ended_ccu]
        exact hpreemptions
      · rw [ended_ccu]
        exact hbroken
      · rw [ended_table]
        exact htable
      · rw [ended_table]
        exact hother
      · exact ⟨_, (congrArg PhoneLine.record (ended_line s _ l)).trans hline, rfl, rfl, rfl⟩
    · have hexec := exec_callRetryTimerExpiry hworks hrecord hstate htimer
      obtain ⟨hpreemptions, htable, hvictim, hcalling, hline⟩ := retry_preempts_own (l := l) hgw hup hdown hnearest hgrade
        hfull hyoungest hplace hne hrecord' hactive hd hid hinvalid htakes
      refine ⟨_, hexec, ?_, ?_, ?_, ?_, ?_⟩
      · rw [ended_ccu]
        exact hpreemptions
      · rw [ended_table]
        exact htable
      · rw [ended_line]
        exact hvictim
      · rw [ended_line]
        exact hcalling
      · exact ⟨_, (congrArg PhoneLine.record (ended_line s _ l)).trans hline, rfl, rfl, rfl⟩
    · have hexec := exec_setupTimerExpiry hworks hrecord hstate htimer
      have hreleased := within_released s r
      obtain ⟨hline, htable, hplaced, hside⟩ := recordRefused_seeks (s := originRelease s r) (l := l) (r := r) (d := d)
        (id := old) ((isGateway_of_within hreleased (by decide)).trans hgw) (by rw [originRelease_line]; exact hrecord) hd hid
        hother (by rw [entry_of_within hreleased (by decide)]; exact hvalid)
        (by rw [table_of_within hreleased (by decide)]; exact hroom) (takesLocal_after_release hd hid htakes)
      have hnext : nextIdentity (originRelease s r) l = id := nextIdentity_of_within hreleased (by decide) (by decide)
      rw [hnext] at hline hplaced hside
      refine ⟨_, hexec, ?_, ?_, ?_, ?_⟩
      · rw [ended_line]
        exact hline
      · rw [ended_table, htable, originRelease_table]
      · rw [ended_table, hplaced, originRelease_table]
      · rw [ended_side, hside, originRelease_other hd hid]
        rw [State.station, show (originRelease s r).straps = s.straps from hreleased .straps (by decide)]
        rfl
    · have hexec := exec_setupTimerExpiry hworks hrecord hstate htimer
      have hreleased := within_released s r
      obtain ⟨hline, htable, hwithin⟩ := recordRefused_waits (s := originRelease s r) (l := l) (r := r) (d := d)
        (id := old) ((isGateway_of_within hreleased (by decide)).trans hgw) (by rw [originRelease_line]; exact hrecord) hd hid
        (by rw [entry_of_within hreleased (by decide)]; exact hinvalid)
      refine ⟨_, hexec, ?_, ?_, ?_, fun htakes => ?_⟩
      · rw [ended_line]
        exact hline
      · rw [ended_table, htable, if_pos rfl, originRelease_table]
      · rw [ended_table, htable, if_neg (otherSide_ne d), originRelease_table]
      · rw [ended_side, side_of_within hwithin (by decide)]
        exact originRelease_side hd hid htakes
  · have hwatch : watchRuns s r = true := by
      rw [watchRuns, hd, hid]
      exact hruns
    have hexec := exec_originVoiceWatchExpiry hworks hrecord hstate hwatch
    rw [watchExpired_eq] at hexec
    have hcounted := within_watchCounted s r
    have hnode : (watchCounted s r).isGateway = false := (isGateway_of_within hcounted (by decide)).trans hgw
    have hkept : ((watchCounted s r).line l).record = some r := by
      rw [line_of_within hcounted (by decide)]
      exact hrecord
    refine ⟨fun hinvalid => ?_, fun hvalid hroom htakes => ?_⟩
    · obtain ⟨hline, _, htable, hwithin⟩ := recordBroken_waits (s := watchCounted s r) (l := l) hnode hkept (.inr hstate) hd
        hid (by rw [entry_of_within hcounted (by decide)]; exact hinvalid)
      have hccu : (recordBroken (watchCounted s r) l).ccu = (watchCounted s r).ccu := hwithin .ccu (by decide)
      refine ⟨_, hexec, ?_, ?_, ⟨waitingRecord r.grade, ?_, rfl, rfl, rfl⟩, ?_, ?_⟩
      · rw [ended_line, hline]
        rfl
      · rw [ended_line, hline]
        rfl
      · rw [ended_line, hline]
      · rw [ended_table, htable, if_pos rfl, table_of_within hcounted (by decide)]
      · rw [ended_ccu, hccu]
        exact watchCounted_ccu hd hid
    · intro new
      have hnext : nextIdentity (watchCounted s r) l = new := nextIdentity_of_within hcounted (by decide) (by decide)
      obtain ⟨hline, htable, hplaced, _, hccu⟩ := recordBroken_seeks (s := watchCounted s r) (l := l) hnode hkept (.inr hstate)
        hd hid (by rw [entry_of_within hcounted (by decide)]; exact hvalid)
        (by rw [table_of_within hcounted (by decide)]; exact hroom)
        (((room_watchCounted s r).takesLocal _ _).trans (takesLocal_after_release hd hid htakes))
      rw [hnext] at hline hplaced
      refine ⟨_, hexec, ?_, ?_, ?_, ?_, ?_, ?_⟩
      · rw [ended_line, hline]
        rfl
      · rw [ended_line, hline]
        rfl
      · rw [ended_line, hline]
      · rw [ended_table, htable, table_of_within hcounted (by decide)]
      · rw [ended_table, hplaced, table_of_within hcounted (by decide)]
      · rw [ended_ccu, hccu]
        exact watchCounted_ccu hd hid

end Sys2Proof.Machine
end

section
/-! PROOFS. An ACCIDENT setup at a path node that preempts the youngest BREAKDOWN call (O28). -/

set_option Elab.async false

namespace Sys2Proof.Machine

section
variable {s t u : State} {p : Port} {l : Line} {a d : Side} {r : CallRecord} {id : Identity} {e : SrtEntry} {x : Cell}
  {c : CellData} {v : PortUnit} {k : Spoken} {g : Grade}

/-! ## A preempted record that seeks the other way or waits (R82, R84, R92) -/

theorem enterWaiting_eq : enterWaiting s l r = setRecord s l (waitingRecord r.grade) := rfl

theorem recordDirection_exhausted (hup : r.triedUp = true) (hdown : r.triedDown = true) : recordDirection s r = none := by
  rw [recordDirection, hup, hdown]

theorem recordDirection_both (r : CallRecord) (d : Side) :
    recordDirection s (addTried (rerouted (addTried r d)) (otherSide d)) = none := by
  cases d with
  | _ => exact recordDirection_exhausted rfl rfl

theorem grade_addTried (r : CallRecord) (d : Side) : (addTried r d).grade = r.grade := by
  cases d with
  | _ => rfl

theorem ownRoom_none {spoken : Spoken} (h : 8 ≤ (s.table d).length + spoken d) : ownRoom false spoken s d r = none := by
  have htaken : ¬ (!tableTaken (spoken d) (s.table d)) = true := by
    rw [not_tableTaken_iff]
    exact Nat.not_lt.2 h
  rw [ownRoom, if_neg htaken]
  rfl

/-- R82, R84: a rerouted record that may preempt nobody waits where the other side has no place left for it. -/
theorem attemptPlain_blocked (hgw : s.isGateway = false) (hfull : 8 ≤ (s.table (otherSide d)).length + k (otherSide d))
    (hdir : recordDirection s (rerouted (addTried r d)) = some (otherSide d)) :
    attemptPlain k s l (rerouted (addTried r d)) = enterWaiting s l (rerouted (addTried r d)) := by
  refine (if_neg (Bool.eq_false_iff.1 hgw)).trans ?_
  rw [attemptSteps, hdir]
  dsimp only
  rw [ownRoom_none hfull]
  dsimp only
  rw [attemptSteps, recordDirection_both]
  dsimp only
  rw [enterWaiting_eq, enterWaiting_eq, grade_addTried]

theorem attemptPlain_taken (hgw : s.isGateway = false) (hroom : (s.table d).length + k d < 8)
    (hdir : recordDirection s r = some d) (htakes : takesLocal s d .call = true) :
    attemptPlain k s l r = sought s l r d :=
  (if_neg (Bool.eq_false_iff.1 hgw)).trans (attemptSteps_taken hdir (ownRoom_of_room hroom) rfl htakes)

/-- R92: the record of a preempted own call waits where the other side is not VALID or has no place to spare. -/
theorem preemptedRecord_stays (hgw : s.isGateway = false) (hrecord : (s.line l).record = some r)
    (hactive : r.state = .seeking ∨ r.state = .connected) (hd : r.direction = some d) (hid : r.identity = some id)
    (h : (s.entry (otherSide d)).valid = false ∨ 8 ≤ (s.table (otherSide d)).length + k (otherSide d)) :
    (preemptedRecord k s l).line l = { enterCalling (s.line l) with record := some (waitingRecord r.grade) }
      ∧ (∀ q, q ≠ l → (preemptedRecord k s l).line q = s.line q)
      ∧ (∀ x, (preemptedRecord k s l).table x = if x = d then tableWithout (s.table d) id else s.table x)
      ∧ Within [.srt, .lines] s (preemptedRecord k s l) := by
  cases hvalid : (s.entry (otherSide d)).valid with
  | false => exact preemptedRecord_waits hgw hrecord hactive hd hid hvalid
  | true =>
    have hfull := h.resolve_left (by rw [hvalid]; exact nofun)
    refine breakRecord_waits hrecord hactive hd hid (attemptPlain_blocked (s := brokenOff s l d id) hgw ?_ ?_)
    · rw [brokenOff_table, if_neg (otherSide_ne d)]
      exact hfull
    · exact recordDirection_of_other (hasTried_addTried _ d)
        ((hasTried_addTried_other _ d).trans (by cases d with | _ => rfl)) hvalid

/-- R85, R92: the record of a preempted own call seeks the other way, where that leaves the places spoken for. -/
theorem preemptedRecord_seeks (hgw : s.isGateway = false) (hrecord : (s.line l).record = some r)
    (hactive : r.state = .seeking ∨ r.state = .connected) (hd : r.direction = some d) (hid : r.identity = some id)
    (hvalid : (s.entry (otherSide d)).valid = true) (hroom : (s.table (otherSide d)).length + k (otherSide d) < 8)
    (htakes : takesLocal s (otherSide d) .call = true) :
    (preemptedRecord k s l).line l
        = { enterCalling (s.line l) with
            nextSerial := (s.line l).nextSerial + 1, record := some (soughtOther (nextIdentity s l) r.grade d)
            counts := { (s.line l).counts with callAttempts := satInc (s.line l).counts.callAttempts } }
      ∧ (preemptedRecord k s l).table d = tableWithout (s.table d) id
      ∧ (preemptedRecord k s l).table (otherSide d) = s.table (otherSide d) ++ [originEntry (nextIdentity s l) r.grade]
      ∧ Within [.ports, .node, .tiu, .srt, .lines] s (preemptedRecord k s l) := by
  have hplace : ((brokenOff s l d id).table (otherSide d)).length + k (otherSide d) < 8 := by
    rw [brokenOff_table, if_neg (otherSide_ne d)]
    exact hroom
  have htaken : takesLocal (brokenOff s l d id) (otherSide d) .call = true :=
    ((room_brokenOff s l d id).takesLocal _ _).trans htakes
  have hnone : hasTried { r with triedUp := false, triedDown := false } (otherSide d) = false := by
    cases d with
    | _ => rfl
  have hnext : nextIdentity (brokenOff s l d id) l = nextIdentity s l :=
    nextIdentity_of_line rfl (by rw [brokenOff_line]; rfl)
  have hdir : recordDirection (brokenOff s l d id)
      (rerouted (addTried { r with triedUp := false, triedDown := false } d)) = some (otherSide d) :=
    recordDirection_of_other (hasTried_addTried _ d) ((hasTried_addTried_other _ d).trans hnone) hvalid
  rw [preemptedRecord_of, breakRecord_of hrecord hactive hd hid,
    attemptPlain_taken (s := brokenOff s l d id) hgw hplace hdir htaken]
  refine ⟨?_, ?_, ?_, ?_⟩
  · rw [sought_other_line hnone, brokenOff_line, hnext]
    rfl
  · rw [sought_table, if_neg (otherSide_ne d).symm, brokenOff_table, if_pos rfl]
  · rw [sought_table, if_pos rfl, brokenOff_table, if_neg (otherSide_ne d), hnext, grade_rerouted]
  · exact (within_brokenOff s l d id).seq (within_sought _ l _ (otherSide d))

/-! ## Room made for the setup (R91, R92) -/

theorem yieldTable_of_room (h : (s.table d).length < 8) : yieldTable s d = s :=
  if_neg (by rw [tableFull_iff]; exact Nat.not_le.2 h)

theorem yieldTable_of_full (hfull : 8 ≤ (s.table d).length) (h : youngestBreakdown (s.table d) = some e) :
    yieldTable s d = settleVictim (preemptedRecord spokenPath) (preemptEntry s d e) (victimLine e) := by
  rw [yieldTable, if_pos (tableFull_iff.2 hfull), h]

theorem setupAnswer_preempts (ha : namesCall (s.table a) id = false) (hb : namesCall (s.table (otherSide a)) id = false)
    (hin : s.inService (otherSide a) = true) (hgw : s.isGateway = false) (hgrade : g = .accident)
    (hroom : (s.table a).length < 8) (hfull : 8 ≤ (s.table (otherSide a)).length)
    (h : youngestBreakdown (s.table (otherSide a)) = some e) : setupAnswer s a id g = .preempt := by
  rw [setupAnswer_of_route, if_pos, if_pos]
  · rw [Bool.and_eq_true, Bool.and_eq_true, canYield_iff, canYield_iff, hgrade, h]
    exact ⟨⟨rfl, fun hstuck => Nat.not_le.2 hroom hstuck.1⟩, fun hstuck => by cases hstuck.2⟩
  · rw [Bool.or_eq_true, tableFull_iff, tableFull_iff]
    exact .inr hfull
  · rw [ha, hb]
    exact fun hnamed => hnamed.elim nofun nofun
  · rw [hin, outerSide_node s (otherSide a) hgw]
    exact fun hlost => hlost.elim nofun nofun

/-- R91, R92: an ACCIDENT setup that preempts; `t` is the state with room made in the way on. -/
theorem exec_setup_preempts (hpasses : passesHere s c = true) (hgrant : cellGranted s p (cellOf .callSetup c) = true)
    (ha : namesCall (s.table (s.sideOf p)) (callOf c) = false)
    (hb : namesCall (s.table (otherSide (s.sideOf p))) (callOf c) = false) (hgrade : gradeOf c.aux6 = .accident)
    (hroom : (s.table (s.sideOf p)).length < 8) (hfull : 8 ≤ (s.table (otherSide (s.sideOf p))).length)
    (htakes : takesCall s (otherSide (s.sideOf p)) = true)
    (h : youngestBreakdown (s.table (otherSide (s.sideOf p))) = some e) :
    ∃ v, Admitted s p v ∧ ∀ t,
      settleVictim (preemptedRecord spokenPath) (preemptEntry (met s p v) (otherSide (s.sideOf p)) e) (victimLine e) = t →
      (t.table (s.sideOf p)).length < 8 →
      exec (.callSetup p c) s
        = .next (ended s (carryOn (reservePath t (s.sideOf p) (callOf c) .accident) (s.sideOf p) (cellOf .callSetup c))) := by
  obtain ⟨v, hexec, hv⟩ := exec_call_at_path (mem_callSetup p c) hgrant (.inl hpasses)
  have hanswer : setupAnswer (met s p v) (s.sideOf p) (callOf c) (gradeOf c.aux6) = .preempt :=
    (setupAnswer_met hv (s.sideOf p)).trans
      (setupAnswer_preempts ha hb (Bool.and_eq_true_iff.1 htakes).1 (node_of_passes hpasses) hgrade hroom hfull h)
  refine ⟨v, hv, fun t ht hplace => ?_⟩
  have hyield : yieldTable (yieldTable (met s p v) (otherSide (s.sideOf p))) (s.sideOf p) = t := by
    rw [yieldTable_of_full (s := met s p v) hfull h, ht, yieldTable_of_room hplace]
  rw [takeAtPath_setup_eq, pathSetup_of_preempt hanswer, preemptAndReserve, hyield, hgrade] at hexec
  exact hexec

theorem reserved_table (x : Side) :
    (ended u (carryOn (reservePath t a id g) a (cellOf .callSetup c))).table x
      = t.table x ++ [pathEntry id g (if x = a then .origin else .gateway)] := by
  rw [ended_table, table_of_within (carryOn_parts _ a _) (by decide), table_reservePath_eq]

theorem reserved_ccu : (ended u (carryOn (reservePath t a id g) a (cellOf .callSetup c))).ccu = t.ccu := by
  rw [ended_ccu]
  exact carryOn_parts (reservePath t a id g) a (cellOf .callSetup c) .ccu (by decide)

theorem reserved_line (l : Line) : (ended u (carryOn (reservePath t a id g) a (cellOf .callSetup c))).line l = t.line l := by
  rw [ended_line, line_of_within (carryOn_parts _ a _) (by decide)]
  rfl

/-- R41, R91: the setup goes on where the way on still takes CALL cells. -/
theorem reserved_queue (hgw : t.isGateway = false) (hin : t.inService (otherSide a) = true)
    (hroom : (t.side (otherSide a)).tqCall.length < 32) :
    ((ended u (carryOn (reservePath t a id g) a (cellOf .callSetup c))).side (otherSide a)).tqCall
      = (t.side (otherSide a)).tqCall ++ [{ cellOf .callSetup c with hops := c.hops + 1 }] := by
  have htakes : takesCall { reservePath t a id g with inHand := 0 } (otherSide a) = true := by
    rw [takesCall, Bool.and_eq_true, decide_eq_true_eq]
    exact ⟨hin, hroom⟩
  rw [ended_side, carryOn_node (reservePath t a id g) a (cellOf .callSetup c) hgw, passOn,
    (forwardCell_of_call (x := cellOf .callSetup c) rfl htakes nofun).2]
  rfl

theorem length_tableWithout (table : List SrtEntry) (id : Identity) : (tableWithout table id).length ≤ table.length :=
  List.length_filter_le _ _

end

/-- Settles O28. -/
theorem accidentSetupPreemptsTheYoungestBreakdown : Obligations.AccidentSetupPreemptsTheYoungestBreakdown := by
  refine ⟨fun p c e s => ?_, fun p c e r s => ?_⟩
  · intro a b id hpasses hgrant hnamea hnameb hgrade hrooma hfullb htakes hyoungest hplace
    obtain ⟨v, hv, hexec⟩ := exec_setup_preempts hpasses hgrant hnamea hnameb hgrade hrooma hfullb htakes hyoungest
    obtain ⟨hpreemptions, hbroken, htable, hmade, hwithin⟩ := preemptEntry_path (s := met s p v) (d := b) hplace
    generalize ht : preemptEntry (met s p v) b e = t at hexec hpreemptions hbroken htable hmade hwithin
    have hnext := hexec t (by rw [victimLine_of_path hplace]; rfl)
      (by rw [htable]; exact Nat.lt_of_le_of_lt (length_tableWithout _ _) hrooma)
    have hroomy : SameRoom (grantedState s) (releaseBoth (preemptionCounted (met s p v)) e.identity) :=
      (SameRoom.granted hv).trans (room_releaseBoth (met s p v) e.identity)
    have hqueue : (t.side b).tqCall = (s.side b).tqCall :=
      (hmade.transit b).trans (congrArg Tiu.tqCall (hroomy.side b))
    refine ⟨_, hnext, ?_, ?_, ?_, ?_, ?_⟩
    · rw [reserved_table, if_pos rfl, htable]
      rfl
    · rw [reserved_table, if_neg (otherSide_ne a), htable]
      rfl
    · rw [reserved_ccu]
      exact hpreemptions
    · rw [reserved_ccu]
      exact hbroken
    · rw [takesCall, Bool.and_eq_true, decide_eq_true_eq] at htakes
      rw [reserved_queue ((isGateway_of_within hwithin (by decide)).trans (node_of_passes hpasses))
        ((hmade.service b).trans ((hroomy.service b).trans htakes.1)) (by rw [hqueue]; exact htakes.2), hqueue]
  · intro a b id w next hpasses hgrant hnamea hnameb hgrade hrooma hfullb htakes hyoungest hplace hrecord hactive hd hid
    have hgw := node_of_passes hpasses
    obtain ⟨v, hv, hexec⟩ := exec_setup_preempts hpasses hgrant hnamea hnameb hgrade hrooma hfullb htakes hyoungest
    have hback : otherSide b = a := other_other a
    have hne : a ≠ b := (otherSide_ne a).symm
    generalize hm : releaseEntry (preemptionCounted (met s p v)) b e.identity = m
    have hreleased : Within [.srt, .ccu] (met s p v) m := by
      rw [← hm]
      exact (within_countCcu (met s p v) _).seq (within_releaseEntry (preemptionCounted (met s p v)) b e.identity)
    have hmtable : ∀ x, m.table x = if x = b then tableWithout (s.table b) e.identity else s.table x := by
      rw [← hm]
      exact fun x => releaseEntry_table (s := preemptionCounted (met s p v)) x
    have hmgw : m.isGateway = false := (isGateway_of_within hreleased (by decide)).trans hgw
    have hmrecord : (m.line w).record = some r := by
      rw [line_of_within hreleased (by decide)]
      exact hrecord
    have hmentry : m.entry (otherSide b) = s.entry a := by
      rw [entry_of_within hreleased (by decide), hback]
      rfl
    have hmother : m.table (otherSide b) = s.table a := by rw [hmtable, if_neg (otherSide_ne b), hback]
    have hmccu : m.ccu.preemptions = satInc s.ccu.preemptions := by
      rw [← hm]
      rfl
    have hsettled : ∀ t, preemptedRecord spokenPath m w = t →
        settleVictim (preemptedRecord spokenPath) (preemptEntry (met s p v) b e) (victimLine e) = t := by
      intro t ht
      rw [victimLine_of_origin hplace, preemptEntry_of_origin hplace, hm]
      exact ht
    refine ⟨fun hstays => ?_, fun hvalid hspare htaken => ?_⟩
    · obtain ⟨hline, _, htable, hwithin⟩ := preemptedRecord_stays (s := m) (k := spokenPath) hmgw hmrecord hactive hd hid
        (by
          rw [hmentry, hmother]
          exact hstays.imp_right (fun hseven => Nat.succ_le_succ hseven))
      have hta : (preemptedRecord spokenPath m w).table a = s.table a := by
        rw [htable, if_neg hne, hmtable, if_neg hne]
      have htb : (preemptedRecord spokenPath m w).table b = tableWithout (s.table b) e.identity := by
        rw [htable, if_pos rfl, hmtable, if_pos rfl, tableWithout_twice]
      have hnext := hexec _ (hsettled _ rfl) (by rw [hta]; exact hrooma)
      have hccu : (preemptedRecord spokenPath m w).ccu = m.ccu := hwithin .ccu (by decide)
      refine ⟨_, hnext, ?_, ?_, ?_, ?_, ?_, ?_⟩
      · rw [reserved_ccu, hccu, hmccu]
      · rw [reserved_table, if_pos rfl, hta]
      · rw [reserved_table, if_neg (otherSide_ne a), htb]
      · rw [reserved_line, hline]
      · rw [reserved_line, hline]
        rfl
      · rw [reserved_line, hline]
        rfl
    · have hroomy : SameRoom (grantedState s) m :=
        (SameRoom.granted hv).trans (SameRoom.of_within hreleased (by decide))
      obtain ⟨hline, htable, hplaced, hwithin⟩ := preemptedRecord_seeks (s := m) (k := spokenPath) hmgw hmrecord hactive hd hid
        (by rw [hmentry]; exact hvalid) (by rw [hmother]; exact Nat.succ_lt_succ hspare)
        (by rw [hback]; exact (hroomy.takesLocal a .call).trans htaken)
      have hid' : nextIdentity m w = next := nextIdentity_of_within (s := met s p v) (t := m) hreleased (by decide) (by decide)
      rw [hid'] at hline hplaced
      rw [hback, hmtable, if_neg hne] at hplaced
      have htb : (preemptedRecord spokenPath m w).table b = tableWithout (s.table b) e.identity := by
        rw [htable, hmtable, if_pos rfl, tableWithout_twice]
      have hnext := hexec _ (hsettled _ rfl) (by rw [hplaced, List.length_append]; exact Nat.succ_lt_succ hspare)
      have hccu : (preemptedRecord spokenPath m w).ccu = m.ccu := hwithin .ccu (by decide)
      refine ⟨_, hnext, ?_, ?_, ?_, ?_, ?_, ?_⟩
      · rw [reserved_ccu, hccu, hmccu]
      · rw [reserved_table, if_pos rfl, hplaced, List.append_assoc]
        rfl
      · rw [reserved_table, if_neg (otherSide_ne a), htb]
      · rw [reserved_line, hline]
      · rw [reserved_line, hline]
        rfl
      · rw [reserved_line, hline]
        rfl

end Sys2Proof.Machine
end

section
/-! PROOFS. CALL cells at the gateway end (R180 to R184): setups, ends, upgrades, voice and the voice watches (O38, O39). -/

set_option Elab.async false

namespace Sys2Proof.Machine

section
variable {s t u : State} {p : Port} {l : Line} {a d : Side} {r : CallRecord} {id : Identity} {e : SrtEntry} {x y : Cell}
  {c : CellData} {v : PortUnit} {g : Grade} {n m : Nat} {i : Instr} {k : Kind} {w : Timer}

/-! ## A CALL cell consumed at the gateway -/

theorem exec_call_at_gateway (h : (i, k) ∈ callCommands p c) (hgrant : cellGranted s p (cellOf k c) = true)
    (hends : gatewayEnds s c = true) :
    ∃ v, exec i s = .next (ended s (takeAtGateway (met s p v) (cellOf k c))) ∧ Admitted s p v := by
  obtain ⟨v, hexec, hv⟩ := exec_call_granted h hgrant
  exact ⟨v, hexec.trans
    (congrArg Host.Outcome.next (congrArg (ended s) (call_at_gateway (met s p v) (s.sideOf p) k c hends))), hv⟩

theorem room_setChannel (s : State) (n : Nat) (x : OfficeChannel) : SameRoom s (setChannel s n x) :=
  ⟨rfl, fun _ => rfl, fun _ => rfl, poolFree_setChannel n x⟩

theorem room_setTable (s : State) (d : Side) (q : List SrtEntry) : SameRoom s (s.setTable d q) :=
  SameRoom.of_within (within_setTable s d q) (by decide)

/-! ## What a setup meets (R181) -/

/-- R181: the setup finds the table full and a BREAKDOWN call to preempt. -/
def setupPreempts (s : State) (g : Grade) : Prop :=
  8 ≤ (s.table s.inner).length ∧ g = .accident ∧ youngestBreakdown (s.table s.inner) ≠ none

/-- R181: the setup finds no channel, or no room for its notices. -/
def setupNoPlace (s : State) (g : Grade) : Prop :=
  freeChannel s = none ∨ 32 ≤ s.gw.toOffice.length ∨ (31 ≤ s.gw.toOffice.length ∧ setupPreempts s g)

/-- R181: the call has a channel or an entry already. -/
def setupNamed (s : State) (id : Identity) : Prop :=
  (findChannel s id).isSome = true ∨ namesCall (s.table s.inner) id = true

theorem setupPreempts_iff :
    (tableFull (s.table s.inner) && g == .accident && (youngestBreakdown (s.table s.inner)).isSome) = true
      ↔ setupPreempts s g := by
  rw [Bool.and_eq_true, Bool.and_eq_true, tableFull_iff, beq_iff_eq, Option.isSome_iff_ne_none, setupPreempts, and_assoc]

theorem setupNoPlace_iff :
    ((freeChannel s).isNone || !officeRoom s
        || (decide (31 ≤ s.gw.toOffice.length)
          && (tableFull (s.table s.inner) && g == .accident && (youngestBreakdown (s.table s.inner)).isSome))) = true
      ↔ setupNoPlace s g := by
  rw [Bool.or_eq_true, Bool.or_eq_true, Option.isNone_iff_eq_none, Bool.not_eq_true', officeRoom, decide_eq_false_iff_not,
    Nat.not_lt, Bool.and_eq_true, decide_eq_true_eq, setupPreempts_iff, setupNoPlace, or_assoc]
  exact Iff.rfl

theorem setupNamed_iff : ((findChannel s id).isSome || namesCall (s.table s.inner) id) = true ↔ setupNamed s id := by
  rw [Bool.or_eq_true, setupNamed]

theorem gatewaySetupAnswer_of_named (h : setupNamed s id) : gatewaySetupAnswer s id g = .refuse .duplicate :=
  if_pos (setupNamed_iff.2 h)

theorem gatewaySetupAnswer_of_noPlace (hnamed : ¬ setupNamed s id) (h : setupNoPlace s g) :
    gatewaySetupAnswer s id g = .refuse .officeFull :=
  (if_neg (mt setupNamed_iff.1 hnamed)).trans (if_pos (setupNoPlace_iff.2 h))

/-- R181: the third test is reached. -/
theorem gatewaySetupAnswer_of_place (hnamed : ¬ setupNamed s id) (h : ¬ setupNoPlace s g) :
    gatewaySetupAnswer s id g
      = if tableFull (s.table s.inner) && g == .accident && (youngestBreakdown (s.table s.inner)).isSome then .preempt
        else if tableFull (s.table s.inner) then .refuse .spanFull else .reserve :=
  (if_neg (mt setupNamed_iff.1 hnamed)).trans (if_neg (mt setupNoPlace_iff.1 h))

theorem gatewaySetupAnswer_of_preempt (hnamed : ¬ setupNamed s id) (hplace : ¬ setupNoPlace s g)
    (h : setupPreempts s g) : gatewaySetupAnswer s id g = .preempt :=
  (gatewaySetupAnswer_of_place hnamed hplace).trans (if_pos (setupPreempts_iff.2 h))

theorem gatewaySetupAnswer_of_stuck (hnamed : ¬ setupNamed s id) (hplace : ¬ setupNoPlace s g)
    (h : ¬ setupPreempts s g) (hfull : 8 ≤ (s.table s.inner).length) :
    gatewaySetupAnswer s id g = .refuse .spanFull :=
  (gatewaySetupAnswer_of_place hnamed hplace).trans
    ((if_neg (mt setupPreempts_iff.1 h)).trans (if_pos (tableFull_iff.2 hfull)))

theorem gatewaySetupAnswer_of_room (hnamed : ¬ setupNamed s id) (hplace : ¬ setupNoPlace s g)
    (hroom : (s.table s.inner).length < 8) : gatewaySetupAnswer s id g = .reserve :=
  (gatewaySetupAnswer_of_place hnamed hplace).trans
    ((if_neg (mt setupPreempts_iff.1 (fun h => Nat.not_le.2 hroom h.1))).trans
      (if_neg (mt tableFull_iff.1 (Nat.not_le.2 hroom))))

theorem takeAtGateway_refuse {reason : RefuseReason}
    (h : gatewaySetupAnswer s (callOf c) (gradeOf c.aux6) = .refuse reason) :
    takeAtGateway s (cellOf .callSetup c) = makeRefuse s s.inner (callOf c) c.aux6 reason := by
  show gatewaySetup s (cellOf .callSetup c) = _
  unfold gatewaySetup
  dsimp only
  rw [show gatewaySetupAnswer s (callOf (cellOf .callSetup c).toCellData) (gradeOf (cellOf .callSetup c).aux6)
    = .refuse reason from h]
  rfl

theorem takeAtGateway_reserve (h : gatewaySetupAnswer s (callOf c) (gradeOf c.aux6) = .reserve) :
    takeAtGateway s (cellOf .callSetup c)
      = gatewayAccept s (cellOf .callSetup c) (callOf c) (gradeOf c.aux6) := by
  show gatewaySetup s (cellOf .callSetup c) = _
  unfold gatewaySetup
  dsimp only
  rw [show gatewaySetupAnswer s (callOf (cellOf .callSetup c).toCellData) (gradeOf (cellOf .callSetup c).aux6)
    = .reserve from h]
  rfl

theorem takeAtGateway_preempt (h : gatewaySetupAnswer s (callOf c) (gradeOf c.aux6) = .preempt) :
    takeAtGateway s (cellOf .callSetup c)
      = gatewayAccept (gatewayPreempt s) (cellOf .callSetup c) (callOf c) (gradeOf c.aux6) := by
  show gatewaySetup s (cellOf .callSetup c) = _
  unfold gatewaySetup
  dsimp only
  rw [show gatewaySetupAnswer s (callOf (cellOf .callSetup c).toCellData) (gradeOf (cellOf .callSetup c).aux6)
    = .preempt from h]
  rfl

/-! ## A setup refused (R181) -/

theorem exec_gateway_refused {reason : RefuseReason} {q : CcuCounts} (hends : gatewayEnds s c = true)
    (hgrant : cellGranted s p (cellOf .callSetup c) = true)
    (h : gatewaySetupAnswer s (callOf c) (gradeOf c.aux6) = .refuse reason) (hq : (countRefuse s reason).ccu = q) :
    ∃ t, exec (.callSetup p c) s = .next t ∧ Within [.inHand, .ports, .node, .tiu, .ccu] s t ∧ t.inHand = 0
      ∧ (takesLocal (grantedState s) s.inner .call = true →
          t.ccu = q
            ∧ (t.side s.inner).insCall
              = (s.side s.inner).insCall
                ++ [makeCell s.station .callRefuse (callOf c).station (referenceOf (callOf c)) c.aux6 (refuseCode reason) 0
                  []]) := by
  obtain ⟨v, hexec, hv⟩ := exec_call_at_gateway (mem_callSetup p c) hgrant hends
  rw [takeAtGateway_refuse (s := met s p v) h] at hexec
  refine ⟨_, hexec, within_ended ((within_met s p v).seq
    (within_makeRefuse (met s p v) (met s p v).inner (callOf c) c.aux6 reason)
    (parts := [.inHand, .ports, .node, .tiu, .ccu])), ended_inHand _ _, fun htakes => ?_⟩
  rw [ended_ccu, ended_side]
  obtain ⟨hccu, hins⟩ := makeRefuse_taken (s := met s p v) (a := s.inner) (id := callOf c) (grade := c.aux6) (r := reason)
    (((SameRoom.granted hv).takesLocal s.inner .call).trans htakes)
  exact ⟨hccu.trans hq, hins⟩

/-! ## A setup accepted (R181) -/

/-- R181: the GATEWAY entry of an accepted setup. -/
def gatewayEntry (id : Identity) (g : Grade) : SrtEntry :=
  { identity := id, grade := g, held := true, place := .gateway, faces := .origin, timer := some 3000 }

/-- R181: the state in which the CALL-ACCEPT of a setup is offered. -/
def setupTaken (s : State) (n : Nat) (id : Identity) (g : Grade) : State :=
  setChannel (s.setTable s.inner (s.table s.inner ++ [gatewayEntry id g])) n (.chain id g)

/-- R181: the setup answered and its notice given. -/
def setupAnswered (s : State) (x : Cell) (n : Nat) (id : Identity) (g : Grade) : State :=
  (officePush
    { offerControl (setupTaken s n id g) s.inner (callCell s.station .callAccept id.station id (gradeCode g) 0) with
      inHand := 0 }
    (onChannel n x)).countGw (fun q => { q with callsTerminated := satInc q.callsTerminated })

theorem gatewayAccept_of (h : freeChannel s = some n) : gatewayAccept s x id g = setupAnswered s x n id g := by
  unfold gatewayAccept
  rw [h]
  rfl

theorem room_setupTaken (s : State) (n : Nat) (id : Identity) (g : Grade) : SameRoom s (setupTaken s n id g) :=
  (room_setTable s s.inner _).trans (room_setChannel _ n _)

theorem setupAnswered_table : (setupAnswered s x n id g).table s.inner = s.table s.inner ++ [gatewayEntry id g] := by
  refine (offerControl_table (setupTaken s n id g) s.inner s.inner _).trans ?_
  exact setTable_table s s.inner _

theorem offerControl_gw (s : State) (d : Side) (x : Cell) : (offerControl s d x).gw = s.gw :=
  within_offerControl s d x .gw (by decide)

theorem setupAnswered_gw :
    (setupAnswered s x n id g).gw
      = { s.gw with
          channels := s.gw.channels.set n (.chain id g), toOffice := s.gw.toOffice ++ [onChannel n x]
          counts := { s.gw.counts with callsTerminated := satInc s.gw.counts.callsTerminated } } := by
  have hgw := offerControl_gw (setupTaken s n id g) s.inner (callCell s.station .callAccept id.station id (gradeCode g) 0)
  unfold setupAnswered State.countGw officePush
  dsimp only
  rw [hgw]
  rfl

theorem setupAnswered_side (h : takesLocal s s.inner .call = true) :
    ((setupAnswered s x n id g).side s.inner).insCall
      = (s.side s.inner).insCall
        ++ [makeCell s.station .callAccept id.station (referenceOf id) (gradeCode g) 0 0 []] :=
  congrArg Tiu.insCall
    (offerControl_call (s := setupTaken s n id g) (d := s.inner)
      (x := callCell s.station .callAccept id.station id (gradeCode g) 0) rfl nofun
      (((room_setupTaken s n id g).takesLocal s.inner .call).trans h)).1

theorem setupAnswered_ccu :
    (setupAnswered s x n id g).ccu.preemptions = s.ccu.preemptions
      ∧ (setupAnswered s x n id g).ccu.brokenPreempted = s.ccu.brokenPreempted := by
  have hccu := offerControl_ccu (setupTaken s n id g) s.inner (callCell s.station .callAccept id.station id (gradeCode g) 0)
  have hpreemptions := congrArg CcuCounts.preemptions hccu
  have hbroken := congrArg CcuCounts.brokenPreempted hccu
  exact ⟨hpreemptions, hbroken⟩

/-- R45: an offer keeps what waits in the queue. -/
theorem insCall_kept (s : State) (d : Side) (x : Cell) :
    ∃ more, ((offerControl s d x).side d).insCall = (s.side d).insCall ++ more := by
  have hpush : ∃ more, (insPush (s.side d) x).insCall = (s.side d).insCall ++ more := by
    unfold insPush
    split
    · exact ⟨[], (List.append_nil _).symm⟩
    · exact ⟨[x], rfl⟩
    · exact ⟨[], (List.append_nil _).symm⟩
    · exact ⟨[], (List.append_nil _).symm⟩
    · exact ⟨[], (List.append_nil _).symm⟩
  rw [offerControl_side]
  unfold offerEffect
  split
  · split
    · rw [setSide_side]
      exact hpush
    · rw [side_wakeSide, setSide_side]
      exact hpush
  · exact ⟨[], (List.append_nil _).symm⟩
  · rw [State.countSide, setSide_side]
    exact ⟨[], (List.append_nil _).symm⟩
  · rw [State.countSide, setSide_side]
    exact ⟨[], (List.append_nil _).symm⟩
  · exact ⟨[], (List.append_nil _).symm⟩

/-! ## A CHAIN call preempted (R183) -/

theorem giveNotice_taken (hroom : s.gw.toOffice.length < 32) (hpool : 16 ≤ s.poolFree) :
    giveNotice s x = officePush s x :=
  (if_neg (by rw [Bool.not_eq_true, Bool.not_eq_false', officeRoom, decide_eq_true_eq]; exact hroom)).trans
    (if_pos (floorMet_call_iff.2 hpool))

theorem giveNotice_full (h : 32 ≤ s.gw.toOffice.length) : giveNotice s x = countNoticeLost s :=
  if_pos (by rw [Bool.not_eq_true', officeRoom, decide_eq_false_iff_not]; exact Nat.not_lt.2 h)

theorem giveNotice_refused (hroom : s.gw.toOffice.length < 32) (hpool : s.poolFree < 16) :
    giveNotice s x = countPool (countNoticeLost s) .call :=
  (if_neg (by rw [Bool.not_eq_true, Bool.not_eq_false', officeRoom, decide_eq_true_eq]; exact hroom)).trans
    (if_neg (by rw [floorMet_call_iff]; exact Nat.not_le.2 hpool))

/-- R183: the state in which the CALL-BROKEN of a preempted CHAIN call is offered. -/
def chainFreed (s : State) (n : Nat) (id : Identity) : State := freeChain (preemptionCounted s) n id

/-- R183: the CALL-BROKEN of a preempted CHAIN call made. -/
def chainBroken (s : State) (n : Nat) (e : SrtEntry) : State :=
  makeBroken (chainFreed s n e.identity) s.inner e.identity.station e.identity (gradeCode e.grade) .preempted

theorem preemptChain_of (h : findChannel s e.identity = some n) :
    preemptChain s e
      = giveNotice (chainBroken s n e) (noticeCell s n .callBroken e.identity e.grade (brokenCode .preempted)) := by
  unfold preemptChain
  dsimp only
  rw [h]
  rfl

theorem room_chainFreed (s : State) (n : Nat) (id : Identity) : SameRoom s (chainFreed s n id) :=
  (SameRoom.of_within (parts := [.ccu, .srt])
    ((within_countCcu s _).seq (within_releaseEntry (preemptionCounted s) s.inner id)) (by decide)).trans
    (room_setChannel (releaseEntry (preemptionCounted s) s.inner id) n .free)

theorem chainBroken_table (x : Side) :
    (chainBroken s n e).table x = if x = s.inner then tableWithout (s.table s.inner) e.identity else s.table x :=
  (table_of_within (within_makeBroken (chainFreed s n e.identity) s.inner _ _ _ _) (by decide) x).trans
    (releaseEntry_table (s := preemptionCounted s) x)

theorem chainBroken_gw : (chainBroken s n e).gw = { s.gw with channels := s.gw.channels.set n .free } :=
  within_makeBroken (chainFreed s n e.identity) s.inner _ _ _ _ .gw (by decide)

theorem chainBroken_ccu :
    (chainBroken s n e).ccu.preemptions = satInc s.ccu.preemptions
      ∧ (chainBroken s n e).ccu.brokenPreempted = satInc s.ccu.brokenPreempted := by
  unfold chainBroken makeBroken
  rw [offerControl_ccu]
  exact ⟨rfl, rfl⟩

theorem chainBroken_side (h : takesLocal s s.inner .call = true) :
    ((chainBroken s n e).side s.inner).insCall
      = (s.side s.inner).insCall
        ++ [makeCell s.station .callBroken e.identity.station (referenceOf e.identity) (gradeCode e.grade) 6 0 []] :=
  congrArg Tiu.insCall
    (makeBroken_taken (s := chainFreed s n e.identity) (d := s.inner) (id := e.identity) (r := .preempted)
      (((room_chainFreed s n e.identity).takesLocal s.inner .call).trans h)).2

theorem poolHeld_chainBroken : (chainBroken s n e).poolHeld ≤ s.poolHeld + 1 := by
  unfold chainBroken makeBroken
  exact poolHeld_offerControl (countBroken (chainFreed s n e.identity) .preempted) s.inner _

/-- R183: a CHAIN call preempted where its notice finds a place and a buffer. -/
theorem preemptChain_noticed (h : findChannel s e.identity = some n) (hroom : s.gw.toOffice.length < 32)
    (hpool : s.poolHeld + 17 ≤ 512) :
    preemptChain s e
      = officePush (chainBroken s n e) (noticeCell s n .callBroken e.identity e.grade (brokenCode .preempted)) := by
  have hheld := poolHeld_chainBroken (s := s) (n := n) (e := e)
  rw [preemptChain_of h, giveNotice_taken]
  · rw [chainBroken_gw]
    exact hroom
  · rw [poolFree_eq]
    omega

end

/-- Settles O38. -/
theorem gatewaySetupTakesAChannel : Obligations.GatewaySetupTakesAChannel := by
  refine ⟨fun p c n s => ?_, fun p c s => ?_⟩
  · intro id hends hgrant hfind hnamed hfree hoffice hroom
    obtain ⟨v, hexec, hv⟩ := exec_call_at_gateway (mem_callSetup p c) hgrant hends
    have hanswer : gatewaySetupAnswer (met s p v) id (gradeOf c.aux6) = .reserve := by
      refine gatewaySetupAnswer_of_room (s := met s p v) (fun h => ?_) (fun h => ?_) hroom
      · rcases h with h | h
        · rw [show findChannel (met s p v) id = none from hfind] at h
          cases h
        · rw [show namesCall ((met s p v).table (met s p v).inner) id = false from hnamed] at h
          cases h
      · rcases h with h | h | h
        · rw [show freeChannel (met s p v) = some n from hfree] at h
          cases h
        · exact Nat.not_le.2 hoffice h
        · exact Nat.not_le.2 hroom h.2.1
    rw [takeAtGateway_reserve hanswer, gatewayAccept_of (s := met s p v) hfree] at hexec
    refine ⟨_, hexec, ended_inHand _ _, ?_, ?_, ?_, ?_, fun htakes => ?_⟩
    · rw [ended_table]
      exact setupAnswered_table (s := met s p v)
    · rw [ended_gw, setupAnswered_gw]
      rfl
    · rw [ended_gw, setupAnswered_gw]
      rfl
    · rw [ended_gw, setupAnswered_gw]
      rfl
    · rw [ended_side]
      exact setupAnswered_side (s := met s p v) (((SameRoom.granted hv).takesLocal s.inner .call).trans htakes)
  · intro id d named preempts noPlace refused hends hgrant
    refine ⟨fun hnamed => exec_gateway_refused hends hgrant (gatewaySetupAnswer_of_named hnamed) rfl,
      fun hnamed hnoPlace => exec_gateway_refused hends hgrant (gatewaySetupAnswer_of_noPlace hnamed hnoPlace) rfl,
      fun hnamed hnoPlace hfull hpreempts =>
        exec_gateway_refused hends hgrant (gatewaySetupAnswer_of_stuck hnamed hnoPlace hpreempts hfull) rfl,
      fun e m n hnamed hnoPlace hpreempts hyoungest hfind hfree hpool => ?_⟩
    obtain ⟨v, hexec, hv⟩ := exec_call_at_gateway (mem_callSetup p c) hgrant hends
    have hanswer : gatewaySetupAnswer (met s p v) id (gradeOf c.aux6) = .preempt :=
      gatewaySetupAnswer_of_preempt (s := met s p v) hnamed hnoPlace hpreempts
    have hgrade : gradeOf c.aux6 = .accident := hpreempts.2.1
    have hoffice : s.gw.toOffice.length < 32 := Nat.not_le.1 (fun h => hnoPlace (.inr (.inl h)))
    have hheld : (met s p v).poolHeld + 17 ≤ 512 := by
      have hsame : (met s p v).poolFree = (s.holding 1).poolFree := (SameRoom.granted hv).pool
      have hone : (s.holding 2).poolHeld = (s.holding 1).poolHeld + 1 := poolHeld_holding s 1
      rw [poolFree_eq] at hpool hsame
      rw [poolFree_eq] at hsame
      omega
    have hpreempted : gatewayPreempt (met s p v)
        = officePush (chainBroken (met s p v) m e)
            (noticeCell (met s p v) m .callBroken e.identity e.grade (brokenCode .preempted)) := by
      rw [gatewayPreempt, show youngestBreakdown ((met s p v).table (met s p v).inner) = some e from hyoungest]
      exact preemptChain_noticed (s := met s p v) hfind hoffice hheld
    generalize hw : officePush (chainBroken (met s p v) m e)
      (noticeCell (met s p v) m .callBroken e.identity e.grade (brokenCode .preempted)) = w at hpreempted
    have hwstraps : w.straps = s.straps := by
      rw [← hw]
      exact within_makeBroken (chainFreed (met s p v) m e.identity) s.inner _ _ _ _ .straps (by decide)
    have hwinner : w.inner = d := by rw [State.inner, hwstraps]; rfl
    have hwtable : w.table d = tableWithout (s.table d) e.identity := by
      rw [← hw]
      exact (chainBroken_table (s := met s p v) d).trans (if_pos rfl)
    have hwgw : w.gw
        = { s.gw with
            channels := s.gw.channels.set m .free
            toOffice := s.gw.toOffice ++ [noticeCell s m .callBroken e.identity e.grade (brokenCode .preempted)] } := by
      rw [← hw, officePush, chainBroken_gw]
      rfl
    have hwccu : w.ccu.preemptions = satInc s.ccu.preemptions ∧ w.ccu.brokenPreempted = satInc s.ccu.brokenPreempted := by
      rw [← hw]
      exact chainBroken_ccu (s := met s p v)
    have hwside : takesLocal (grantedState s) d .call = true →
        (w.side d).insCall
          = (s.side d).insCall
            ++ [makeCell s.station .callBroken e.identity.station (referenceOf e.identity) (gradeCode e.grade) 6 0 []] := by
      intro htakes
      rw [← hw]
      exact chainBroken_side (s := met s p v) (((SameRoom.granted hv).takesLocal d .call).trans htakes)
    have hwfree : freeChannel w = some n := by
      rw [freeChannel, hwgw]
      exact hfree
    rw [takeAtGateway_preempt hanswer, hpreempted, gatewayAccept_of hwfree, hgrade] at hexec
    obtain ⟨hpreemptions, hbroken⟩ := setupAnswered_ccu (s := w) (x := cellOf .callSetup c) (n := n) (id := id)
      (g := .accident)
    have htable := setupAnswered_table (s := w) (x := cellOf .callSetup c) (n := n) (id := id) (g := .accident)
    rw [hwinner, hwtable] at htable
    refine ⟨_, hexec, ended_inHand _ _, ?_, ?_, ?_, ?_, ?_, ?_, fun htakes => ?_⟩
    · rw [ended_table]
      exact htable
    · rw [ended_gw, setupAnswered_gw, hwgw]
    · rw [ended_gw, setupAnswered_gw, hwgw]
      exact List.append_assoc _ _ _
    · rw [ended_ccu, hpreemptions]
      exact hwccu.1
    · rw [ended_ccu, hbroken]
      exact hwccu.2
    · rw [ended_gw, setupAnswered_gw, hwgw]
    · obtain ⟨more, hmore⟩ := insCall_kept (setupTaken w n id .accident) d
        (callCell w.station .callAccept id.station id (gradeCode .accident) 0)
      refine ⟨more, ?_⟩
      rw [ended_side, setupAnswered, hwinner]
      refine hmore.trans ?_
      rw [show (setupTaken w n id .accident).side d = w.side d from rfl, hwside htakes]
      exact List.append_assoc _ _ _

end Sys2Proof.Machine
end

section
/-! PROOFS. The ends, upgrades, voice and voice watches of the calls of a gateway (O39). -/

set_option Elab.async false

namespace Sys2Proof.Machine

section
variable {s t u : State} {p : Port} {l : Line} {d : Side} {r : CallRecord} {id : Identity} {e : SrtEntry} {x : Cell}
  {c : CellData} {v : PortUnit} {g : Grade} {n m : Nat} {i : Instr} {k : Kind} {w : Timer}

/-! ## The cells of a CHAIN call (R182) -/

theorem takeAtGateway_ends (hfind : findChannel s (callOf c) = some n) (hchannel : channelAt s n = .chain id g)
    (hk : k = .callRelease ∨ k = .callBroken) :
    takeAtGateway s (cellOf k c) = passNotice (freeChain s n (callOf c)) (chainNotice n g (cellOf k c)) := by
  have hrelease : ∀ x : Cell, x.toCellData = c →
      gatewayRelease s x = passNotice (freeChain s n (callOf c)) (chainNotice n g x) := by
    intro x hx
    unfold gatewayRelease
    dsimp only
    rw [hx, hfind]
    dsimp only
    rw [hchannel]
  rcases hk with rfl | rfl
  · exact hrelease (cellOf .callRelease c) rfl
  · exact hrelease (cellOf .callBroken c) rfl

theorem takeAtGateway_upgrade (hfind : findChannel s (callOf c) = some n) (hchannel : channelAt s n = .chain id g) :
    takeAtGateway s (cellOf .callUpgrade c)
      = passNotice
          (setChannel (s.setTable s.inner (changeCall (s.table s.inner) (callOf c) upgradedEntry)) n
            (.chain (callOf c) .accident))
          (chainNotice n .accident (cellOf .callUpgrade c)) := by
  show gatewayUpgrade s (cellOf .callUpgrade c) = _
  unfold gatewayUpgrade
  dsimp only
  rw [show findChannel s (callOf (cellOf .callUpgrade c).toCellData) = some n from hfind]
  dsimp only
  rw [hchannel]
  rfl

theorem takeAtGateway_voice (hfind : findChannel s (callOf c) = some n) (hchannel : channelAt s n = .chain id g) :
    takeAtGateway s (cellOf .voice c)
      = passVoice (s.setTable s.inner (changeCall (s.table s.inner) (callOf c) watchedEntry)) n g (cellOf .voice c) := by
  show gatewayVoice s (cellOf .voice c) = _
  unfold gatewayVoice
  dsimp only
  rw [show findChannel s (callOf (cellOf .voice c).toCellData) = some n from hfind]
  dsimp only
  rw [hchannel]
  rfl

theorem officeRoom_iff : officeRoom s = true ↔ s.gw.toOffice.length < 32 := by
  rw [officeRoom, decide_eq_true_eq]
  exact Iff.rfl

theorem passNotice_of_room (h : s.gw.toOffice.length < 32) : passNotice s x = officePush { s with inHand := 0 } x :=
  if_pos (officeRoom_iff.2 h)

theorem passVoice_of_room (h : s.gw.toOffice.length < 32) :
    passVoice s n g x = officePush { s with inHand := 0 } (chainNotice n g x) := if_pos (officeRoom_iff.2 h)

/-- R182: what a notice in the cell's own buffer leaves, after a change of the entries and of the channels. -/
theorem notice_passed (ht : Within [.srt, .gw] (met s p v) t) :
    Within [.inHand, .ports, .srt, .gw] s (ended s (officePush { t with inHand := 0 } x))
      ∧ (∀ d, (ended s (officePush { t with inHand := 0 } x)).table d = t.table d)
      ∧ (ended s (officePush { t with inHand := 0 } x)).gw = { t.gw with toOffice := t.gw.toOffice ++ [x] } := by
  refine ⟨within_ended (parts := [.inHand, .ports, .srt, .gw]) (((within_met s p v).seq ht (parts := [.inHand, .ports, .srt, .gw])).seq
    ((within_withInHand t 0).seq (within_officePush _ x) (parts := [.inHand, .gw]))), fun d => ?_, ?_⟩
  · rw [ended_table]
    rfl
  · rw [ended_gw]
    rfl

/-- R182: a CALL-RELEASE or a CALL-BROKEN ends a CHAIN call. -/
theorem exec_chain_ended (hends : gatewayEnds s c = true) (hfind : findChannel s (callOf c) = some n)
    (hchannel : channelAt s n = .chain id g) (hoffice : s.gw.toOffice.length < 32)
    (h : (i, k) ∈ [(Instr.callRelease p c, Kind.callRelease), (.callBroken p c, .callBroken)])
    (hgrant : cellGranted s p (cellOf k c) = true) :
    ∃ t, exec i s = .next t ∧ Within [.inHand, .ports, .srt, .gw] s t
      ∧ t.table s.inner = tableWithout (s.table s.inner) (callOf c) ∧ t.gw.channels = s.gw.channels.set n .free
      ∧ t.gw.toOffice = s.gw.toOffice ++ [{ cellOf k c with hops := BitVec.ofNat 8 n, aux6 := gradeCode g }] := by
  have hcall : (i, k) ∈ callCommands p c ∧ (k = .callRelease ∨ k = .callBroken) := by
    simp only [List.mem_cons, Prod.mk.injEq, List.not_mem_nil, or_false] at h
    rcases h with ⟨rfl, rfl⟩ | ⟨rfl, rfl⟩
    · exact ⟨mem_callRelease p c, .inl rfl⟩
    · exact ⟨mem_callBroken p c, .inr rfl⟩
  obtain ⟨hmem, hk⟩ := hcall
  obtain ⟨v, hexec, hv⟩ := exec_call_at_gateway hmem hgrant hends
  rw [takeAtGateway_ends (s := met s p v) hfind hchannel hk,
    passNotice_of_room (s := freeChain (met s p v) n (callOf c)) hoffice] at hexec
  obtain ⟨hwithin, htable, hgw⟩ := notice_passed (x := chainNotice n g (cellOf k c))
    (within_freeChain (met s p v) n (callOf c))
  refine ⟨_, hexec, hwithin, ?_, ?_, ?_⟩
  · rw [htable]
    exact (releaseEntry_table (s := met s p v) s.inner).trans (if_pos rfl)
  · rw [hgw]
    rfl
  · rw [hgw]
    rfl

theorem exec_chain_upgraded (hends : gatewayEnds s c = true) (hfind : findChannel s (callOf c) = some n)
    (hchannel : channelAt s n = .chain id g) (hoffice : s.gw.toOffice.length < 32)
    (hgrant : cellGranted s p (cellOf .callUpgrade c) = true) :
    ∃ t, exec (.callUpgrade p c) s = .next t ∧ Within [.inHand, .ports, .srt, .gw] s t
      ∧ t.table s.inner
        = (s.table s.inner).map (fun e => if e.identity = callOf c then { e with grade := .accident } else e)
      ∧ t.gw.channels = s.gw.channels.set n (.chain (callOf c) .accident)
      ∧ t.gw.toOffice = s.gw.toOffice ++ [{ cellOf .callUpgrade c with hops := BitVec.ofNat 8 n, aux6 := 1 }] := by
  obtain ⟨v, hexec, hv⟩ := exec_call_at_gateway (mem_callUpgrade p c) hgrant hends
  rw [takeAtGateway_upgrade (s := met s p v) hfind hchannel, passNotice_of_room (by exact hoffice)] at hexec
  obtain ⟨hwithin, htable, hgw⟩ := notice_passed (x := chainNotice n .accident (cellOf .callUpgrade c))
    ((within_setTable (met s p v) s.inner (changeCall (s.table s.inner) (callOf c) upgradedEntry)).seq
      (within_setChannel _ n (.chain (callOf c) .accident)) (parts := [.srt, .gw]))
  refine ⟨_, hexec, hwithin, ?_, ?_, ?_⟩
  · exact (htable s.inner).trans (setTable_table (met s p v) s.inner _)
  · have hchannels := congrArg Gateway.channels hgw
    exact hchannels
  · have hoffice' := congrArg Gateway.toOffice hgw
    exact hoffice'

theorem exec_chain_spoken (hends : gatewayEnds s c = true) (hfind : findChannel s (callOf c) = some n)
    (hchannel : channelAt s n = .chain id g) (hoffice : s.gw.toOffice.length < 32)
    (hgrant : cellGranted s p (cellOf .voice c) = true) :
    ∃ t, exec (.voice p c) s = .next t ∧ Within [.inHand, .ports, .srt, .gw] s t
      ∧ t.table s.inner
        = (s.table s.inner).map
            (fun e => if e.identity = callOf c ∧ e.held = true then { e with timer := some 3000 } else e)
      ∧ t.gw.channels = s.gw.channels
      ∧ t.gw.toOffice
        = s.gw.toOffice ++ [{ cellOf .voice c with hops := BitVec.ofNat 8 n, aux6 := gradeCode g }] := by
  obtain ⟨v, hexec, hv⟩ := exec_call_at_gateway (mem_voice p c) hgrant hends
  rw [takeAtGateway_voice (s := met s p v) hfind hchannel, passVoice_of_room (by exact hoffice)] at hexec
  obtain ⟨hwithin, htable, hgw⟩ := notice_passed (x := chainNotice n g (cellOf .voice c))
    (within_setTable (met s p v) s.inner (changeCall (s.table s.inner) (callOf c) watchedEntry)).widen
  refine ⟨_, hexec, hwithin, ?_, ?_, ?_⟩
  · exact ((htable s.inner).trans (setTable_table (met s p v) s.inner _)).trans (changeCall_watched _)
  · have hchannels := congrArg Gateway.channels hgw
    exact hchannels
  · have hoffice' := congrArg Gateway.toOffice hgw
    exact hoffice'

/-! ## The voice watch of a CHAIN call (R183) -/

/-- R183: a voice watch that has expired, counted. -/
def watchLapsed (s : State) : State := s.countCcu (fun n => { n with voiceWatchExpiries := satInc n.voiceWatchExpiries })

theorem chainWatchExpired_of (h : findChannel s id = some n) :
    chainWatchExpired s id g
      = giveNotice
          (offerControl (freeChain (watchLapsed s) n id) s.inner
            (callCell s.station .callRelease id.station id (gradeCode g) 0))
          (noticeCell s n .callBroken id g (brokenCode .lost)) := by
  unfold chainWatchExpired
  dsimp only
  rw [show findChannel (s.countCcu _) id = some n from h]
  rfl

theorem room_freeChain (s : State) (n : Nat) (id : Identity) : SameRoom s (freeChain s n id) :=
  (room_releaseEntry s s.inner id).trans (room_setChannel (releaseEntry s s.inner id) n .free)

theorem exec_gatewayVoiceWatchExpiry (hworks : s.gatewayWorks = true) (h : watchedGatewayEntry s id = some e)
    (hfind : findChannel s id = some n) :
    ∃ t, exec (.gatewayVoiceWatchExpiry id) s = .next t ∧ t.table s.inner = tableWithout (s.table s.inner) id
      ∧ t.gw.channels = s.gw.channels.set n .free ∧ t.ccu.voiceWatchExpiries = satInc s.ccu.voiceWatchExpiries
      ∧ (takesLocal s s.inner .call = true →
          (t.side s.inner).insCall
            = (s.side s.inner).insCall
              ++ [makeCell s.station .callRelease id.station (referenceOf id) (gradeCode e.grade) 0 0 []]) := by
  have hdone : exec (.gatewayVoiceWatchExpiry id) s = done s (chainWatchExpired s id e.grade) := by
    refine (if_pos hworks).trans ?_
    rw [h]
  have hexec := exec_done _ hdone
  rw [chainWatchExpired_of hfind] at hexec
  generalize hx : callCell s.station .callRelease id.station id (gradeCode e.grade) 0 = x at hexec
  generalize hy : noticeCell s n .callBroken id e.grade (brokenCode .lost) = y at hexec
  have hgiven := within_giveNotice (offerControl (freeChain (watchLapsed s) n id) s.inner x) y
  refine ⟨_, hexec, ?_, ?_, ?_, fun htakes => ?_⟩
  · rw [ended_table, table_of_within hgiven (by decide), offerControl_table]
    exact (releaseEntry_table (s := watchLapsed s) s.inner).trans (if_pos rfl)
  · rw [ended_gw, giveNotice_channels, offerControl_gw]
    rfl
  · rw [ended_ccu, show (giveNotice (offerControl (freeChain (watchLapsed s) n id) s.inner x) y).ccu = _ from
      hgiven .ccu (by decide), offerControl_ccu]
    rfl
  · have hroom : SameRoom s (freeChain (watchLapsed s) n id) :=
      (SameRoom.of_within (within_countCcu s _) (by decide)).trans (room_freeChain (watchLapsed s) n id)
    rw [ended_side, side_of_within hgiven (by decide), ← hx]
    exact congrArg Tiu.insCall
      (offerControl_call (x := callCell s.station .callRelease id.station id (gradeCode e.grade) 0) rfl nofun
        ((hroom.takesLocal s.inner .call).trans htakes)).1

/-! ## The voice watch of a LOCAL call (R184) -/

/-- R184: the state in which the notice of a lost LOCAL call is given. -/
def localFreed (s : State) (n : Nat) : State := setChannel (watchLapsed s) n .free

theorem exec_localVoiceWatchExpiry (hworks : s.gatewayWorks = true) (hlocal : localChannel s l = some (n, id, g)) :
    exec (.localVoiceWatchExpiry l) s
      = .next (ended s (recordBroken
          (giveNotice (localFreed s n) (noticeCell s n .callBroken id g (brokenCode .lost))) l)) := by
  refine exec_done _ ((if_pos hworks).trans ?_)
  rw [hlocal]
  rfl

/-- R85, R86: the state in which a broken record makes its next attempt, whatever its direction. -/
def lineBroken (s : State) (l : Line) (r : CallRecord) : State :=
  (releaseOwn s r).setLine l (enterCalling (s.line l))

theorem releaseOwn_line (l : Line) : (releaseOwn s r).line l = s.line l :=
  line_of_within (within_releaseOwn s r) (by decide) l

theorem lineBroken_line : (lineBroken s l r).line l = enterCalling (s.line l) := setLine_line _ _ _

theorem within_lineBroken (s : State) (l : Line) (r : CallRecord) : Within [.srt, .lines] s (lineBroken s l r) :=
  (within_releaseOwn s r).seq (within_setLine (releaseOwn s r) l _)

/-- R83, R86: at a gateway a broken record asks for an office channel. -/
theorem recordBroken_of_gateway (hgw : s.isGateway = true) (hrecord : (s.line l).record = some r)
    (hactive : r.state = .seeking ∨ r.state = .connected) :
    recordBroken s l = officeAttempt (lineBroken s l r) l (rerouted (newRound r)) := by
  have hbroken : recordBroken s l = attempt (lineBroken s l r) l (rerouted (newRound r)) := by
    unfold recordBroken breakRecord
    rw [hrecord]
    dsimp only
    rw [if_pos (recordActive_iff.2 hactive), releaseOwn_line]
    rfl
  exact hbroken.trans (attempt_of_gateway ((isGateway_of_within (within_lineBroken s l r) (by decide)).trans hgw))

theorem channelGranted_iff :
    channelGranted s = true ↔ (freeChannel s).isSome = true ∧ s.gw.toOffice.length < 32 ∧ 16 ≤ s.poolFree := by
  rw [channelGranted, Bool.and_eq_true, Bool.and_eq_true, officeRoom_iff, floorMet_call_iff, and_assoc]

theorem channelRefusal_counts (s : State) :
    Within [.node, .ccu] s (channelRefusal s)
      ∧ (channelRefusal s).ccu = { s.ccu with refusesOfficeFull := satInc s.ccu.refusesOfficeFull } := by
  unfold channelRefusal
  dsimp only
  split
  · exact ⟨(within_countCcu s _).seq (within_countPool _ .call), rfl⟩
  · exact ⟨(within_countCcu s _).widen, rfl⟩

/-- R84, R184: a broken record of a gateway's phone that finds no channel waits. -/
theorem officeAttempt_waits (h : ¬ (s.gw.toOffice.length < 32 ∧ 16 ≤ s.poolFree)) :
    (officeAttempt s l r).gw = s.gw
      ∧ (officeAttempt s l r).ccu = { s.ccu with refusesOfficeFull := satInc s.ccu.refusesOfficeFull }
      ∧ ((officeAttempt s l r).line l).state = (s.line l).state
      ∧ ((officeAttempt s l r).line l).playing = (s.line l).playing
      ∧ ∃ y, ((officeAttempt s l r).line l).record = some y ∧ y.state = .waiting ∧ y.timer = some 3000 := by
  have hrefused : channelGranted s = false := by
    rw [Bool.eq_false_iff, ne_eq, channelGranted_iff]
    exact fun hgranted => h hgranted.2
  obtain ⟨hwithin, hccu⟩ := channelRefusal_counts (countAttempt (takeSerial s l r) l)
  have hline : (officeAttempt s l r).line l
      = { (countAttempt (takeSerial s l r) l).line l with record := some (waitingRecord r.grade) } := by
    rw [officeAttempt_refused hrefused, enterWaiting_line, if_pos rfl, line_of_within hwithin (by decide)]
    rfl
  rw [countAttempt_takeSerial_line] at hline
  rw [officeAttempt_refused hrefused] at hline ⊢
  refine ⟨?_, ?_, ?_, ?_, waitingRecord r.grade, ?_, rfl, rfl⟩
  · exact hwithin .gw (by decide)
  · exact hccu
  · rw [hline]
  · rw [hline]
  · rw [hline]

theorem newRound_keeps (r : CallRecord) :
    (newRound r).grade = r.grade ∧ (r.direction = none → (newRound r).triedUp = false ∧ (newRound r).triedDown = false) := by
  unfold newRound
  cases hd : r.direction with
  | none => exact ⟨rfl, fun _ => ⟨rfl, rfl⟩⟩
  | some d => exact ⟨by cases d with | _ => rfl, nofun⟩

/-- R184: a lost LOCAL call whose record finds no channel; `t` is the state with the notice given or lost. -/
theorem local_waits (ht : giveNotice (localFreed s n) (noticeCell s n .callBroken id g (brokenCode .lost)) = t)
    (hworks : s.gatewayWorks = true) (hrecord : (s.line l).record = some r) (hstate : r.state = .connected)
    (hlocal : localChannel s l = some (n, id, g)) (h : ¬ (t.gw.toOffice.length < 32 ∧ 16 ≤ t.poolFree)) :
    ∃ z, exec (.localVoiceWatchExpiry l) s = .next z ∧ z.gw = t.gw
      ∧ (z.line l).state = .calling ∧ (z.line l).playing = .holdTone
      ∧ (∃ y, (z.line l).record = some y ∧ y.state = .waiting ∧ y.timer = some 3000)
      ∧ z.ccu.voiceWatchExpiries = satInc s.ccu.voiceWatchExpiries
      ∧ z.ccu.refusesOfficeFull = satInc s.ccu.refusesOfficeFull := by
  have hgiven : Within [.ccu, .node, .gw] s t := by
    rw [← ht]
    exact ((within_countCcu s _).seq (within_setChannel (watchLapsed s) n .free) (parts := [.ccu, .node, .gw])).seq
      (within_giveNotice (localFreed s n) _)
  have hgw : t.isGateway = true :=
    (isGateway_of_within hgiven (by decide)).trans (Bool.and_eq_true_iff.1 hworks).2
  have htrecord : (t.line l).record = some r := by
    rw [line_of_within hgiven (by decide)]
    exact hrecord
  have hexec := exec_localVoiceWatchExpiry hworks hlocal
  rw [ht, recordBroken_of_gateway hgw htrecord (.inr hstate)] at hexec
  have hbroken := within_lineBroken t l r
  have hbgw : (lineBroken t l r).gw = t.gw := hbroken .gw (by decide)
  have hpool : (lineBroken t l r).poolFree = t.poolFree := (SameRoom.of_within hbroken (by decide)).pool
  obtain ⟨hgwEq, hccu, hcalling, hplaying, hrecordEq⟩ := officeAttempt_waits (s := lineBroken t l r) (l := l)
    (r := rerouted (newRound r)) (by rw [hbgw, hpool]; exact h)
  rw [lineBroken_line] at hcalling hplaying
  have htccu : (lineBroken t l r).ccu = (watchLapsed s).ccu := by
    have hnotice : t.ccu = (localFreed s n).ccu := by
      rw [← ht]
      exact within_giveNotice (localFreed s n) _ .ccu (by decide)
    have hsame : (lineBroken t l r).ccu = t.ccu := hbroken .ccu (by decide)
    exact hsame.trans hnotice
  rw [htccu] at hccu
  refine ⟨_, hexec, ?_, ?_, ?_, ?_, ?_, ?_⟩
  · rw [ended_gw, hgwEq, hbgw]
  · rw [ended_line]
    exact hcalling
  · rw [ended_line]
    exact hplaying
  · rw [ended_line]
    exact hrecordEq
  · rw [ended_ccu, hccu]
    rfl
  · rw [ended_ccu, hccu]
    rfl

end

/-- Settles O39. -/
theorem gatewayCallsEndUpgradeAndSpeak : Obligations.GatewayCallsEndUpgradeAndSpeak := by
  refine ⟨fun p c n g s => ?_, fun id e n s hworks hwatched hfind => exec_gatewayVoiceWatchExpiry hworks hwatched hfind,
    fun l r id n g w s hworks hrecord hstate hid hfind hchannel => ?_⟩
  · intro id hends hfind hchannel hoffice
    exact ⟨fun i k h hgrant => exec_chain_ended hends hfind hchannel hoffice h hgrant,
      fun hgrant => exec_chain_upgraded hends hfind hchannel hoffice hgrant,
      fun hgrant => exec_chain_spoken hends hfind hchannel hoffice hgrant⟩
  · intro next broken waits
    have hlocal : localChannel s l = some (n, id, g) := localChannel_of hrecord hid hfind hchannel
    have hfreed : SameRoom s (localFreed s n) :=
      (SameRoom.of_within (within_countCcu s _) (by decide)).trans (room_setChannel (watchLapsed s) n .free)
    have hpush : (officePush (localFreed s n) broken).poolHeld = (localFreed s n).poolHeld + 1 := by
      rw [poolHeld_eq, poolHeld_eq]
      show _ + _ + _ + _ + _ + _ + (s.gw.toOffice ++ [broken]).length = _
      rw [List.length_append]
      rfl
    have hheld := hfreed.pool
    rw [poolFree_eq] at hheld
    rw [poolFree_eq] at hheld
    refine ⟨fun hfull => ?_, fun hroom hpool hlast => ?_, fun hroom hpool => ?_, fun m hroom hpool hfree => ?_⟩
    · have hlost : giveNotice (localFreed s n) (noticeCell s n .callBroken id g (brokenCode .lost))
          = countNoticeLost (localFreed s n) := giveNotice_full hfull
      obtain ⟨z, hexec, hgw, hcalling, hplaying, hwaiting, hwatch, hrefuses⟩ := local_waits hlost hworks hrecord hstate hlocal
        (fun h => Nat.not_lt.2 hfull h.1)
      refine ⟨z, hexec, ⟨?_, hcalling, hplaying, hwaiting, hwatch, hrefuses⟩, ?_, ?_⟩
      · rw [hgw]
        rfl
      · rw [hgw]
        rfl
      · rw [hgw]
        rfl
    · have hgiven : giveNotice (localFreed s n) (noticeCell s n .callBroken id g (brokenCode .lost))
          = officePush (localFreed s n) broken := giveNotice_taken (s := localFreed s n) hroom (hfreed.pool ▸ hpool)
      obtain ⟨z, hexec, hgw, hcalling, hplaying, hwaiting, hwatch, hrefuses⟩ := local_waits hgiven hworks hrecord hstate
        hlocal (fun h => by
          have hlength : (officePush (localFreed s n) broken).gw.toOffice.length = s.gw.toOffice.length + 1 :=
            List.length_append
          have hleft := h.2
          rw [poolFree_eq] at hleft hpool hlast
          rcases hlast with hlast | hlast
          · omega
          · omega)
      refine ⟨z, hexec, ⟨?_, hcalling, hplaying, hwaiting, hwatch, hrefuses⟩, ?_, ?_⟩
      · rw [hgw]
        rfl
      · rw [hgw]
        rfl
      · rw [hgw]
        rfl
    · have hlost : giveNotice (localFreed s n) (noticeCell s n .callBroken id g (brokenCode .lost))
          = countPool (countNoticeLost (localFreed s n)) .call :=
        giveNotice_refused (s := localFreed s n) hroom (hfreed.pool ▸ hpool)
      obtain ⟨z, hexec, hgw, hcalling, hplaying, hwaiting, hwatch, hrefuses⟩ := local_waits hlost hworks hrecord hstate hlocal
        (fun h => Nat.not_le.2 hpool (hfreed.pool ▸ h.2))
      refine ⟨z, hexec, ⟨?_, hcalling, hplaying, hwaiting, hwatch, hrefuses⟩, ?_, ?_⟩
      · rw [hgw]
        rfl
      · rw [hgw]
        rfl
      · rw [hgw]
        rfl
    · have hgiven : giveNotice (localFreed s n) (noticeCell s n .callBroken id g (brokenCode .lost))
          = officePush (localFreed s n) broken :=
        giveNotice_taken (s := localFreed s n) (Nat.lt_succ_of_lt hroom)
          (hfreed.pool ▸ Nat.le_of_succ_le hpool)
      have hexec := exec_localVoiceWatchExpiry hworks hlocal
      have hgw : (officePush (localFreed s n) broken).isGateway = true := (Bool.and_eq_true_iff.1 hworks).2
      rw [hgiven, recordBroken_of_gateway hgw hrecord (.inr hstate)] at hexec
      have hbroken := within_lineBroken (officePush (localFreed s n) broken) l r
      have hbgw : (lineBroken (officePush (localFreed s n) broken) l r).gw
          = { s.gw with channels := s.gw.channels.set n .free, toOffice := s.gw.toOffice ++ [broken] } :=
        hbroken .gw (by decide)
      have hbpool := (SameRoom.of_within hbroken (by decide)).pool
      have hbline := lineBroken_line (s := officePush (localFreed s n) broken) (l := l) (r := r)
      have hnext : nextIdentity (lineBroken (officePush (localFreed s n) broken) l r) l = next := by
        rw [nextIdentity, hbline, State.station, show (lineBroken (officePush (localFreed s n) broken) l r).straps = s.straps
          from hbroken .straps (by decide)]
        rfl
      have hbccu : (lineBroken (officePush (localFreed s n) broken) l r).ccu = (watchLapsed s).ccu :=
        hbroken .ccu (by decide)
      have hbstation : (lineBroken (officePush (localFreed s n) broken) l r).station = s.station :=
        congrArg strapStation (hbroken .straps (by decide))
      generalize lineBroken (officePush (localFreed s n) broken) l r = y at hexec hbgw hbpool hbline hnext hbccu hbstation
      rw [officeAttempt_granted (n := m) (by rw [freeChannel, hbgw]; exact hfree)
        (by rw [hbgw, List.length_append]; exact Nat.succ_lt_succ hroom)
        (by rw [hbpool, poolFree_eq]; rw [poolFree_eq] at hpool; omega)] at hexec
      obtain ⟨htalk, _, _, hnewRecord⟩ := officeSought_line (s := y) (l := l) (r := rerouted (newRound r)) (n := m)
        (by rw [hbline]; rfl)
      obtain ⟨hgradeEq, htried⟩ := newRound_keeps r
      have hgrade : (rerouted (newRound r)).grade = r.grade := hgradeEq
      rw [hnext] at hnewRecord
      have hsetup : noticeCell y m .callSetup next r.grade 0
          = { makeCell s.station .callSetup 254 (referenceOf next) (gradeCode r.grade) 0 0 [] with
              hops := BitVec.ofNat 8 m } := by
        rw [noticeCell, hbstation]
        rfl
      refine ⟨_, hexec, ?_, ?_, ?_, ⟨_, (congrArg PhoneLine.record (ended_line s _ l)).trans hnewRecord, rfl, hgrade, rfl, rfl,
        rfl, htried⟩, ?_, ?_⟩
      · rw [ended_gw, officeSought_gw, hnext, hgrade, hbgw]
      · rw [ended_gw, officeSought_gw, hnext, hgrade, hsetup, hbgw]
        exact List.append_assoc _ _ _
      · rw [ended_line]
        exact htalk
      · rw [ended_gw, officeSought_gw, hbgw]
      · rw [ended_ccu]
        show y.ccu.voiceWatchExpiries = _
        rw [hbccu]
        rfl

end Sys2Proof.Machine
end

section
/-! PROOFS. The beacons and the Reach Table (O24). -/

set_option Elab.async false

namespace Sys2Proof.Machine

section
variable {s t : State} {p : Port} {d : Side} {c : CellData} {e : ReachEntry} {x : Cell}

/-! ## A granted beacon -/

theorem entry_setEntry_same (s : State) (d : Side) (e : ReachEntry) : (s.setEntry d e).entry d = e :=
  (entry_setEntry s d d e).trans (if_pos rfl)

theorem entry_setEntry_other (s : State) (d : Side) (e : ReachEntry) :
    (s.setEntry d e).entry (otherSide d) = s.entry (otherSide d) :=
  (entry_setEntry s d (otherSide d) e).trans (if_neg (otherSide_ne d))

theorem ended_entry (s t : State) (d : Side) : (ended s t).entry d = t.entry d := rfl

/-- R61: a granted beacon is taken by the Reach Table on the state it meets. -/
theorem exec_beacon_granted (hgrant : cellGranted s p (cellOf .beacon c) = true) :
    exec (.beacon p c) s = .next (ended s (takeBeacon (met s p ((takeIn s p).port p)) (s.sideOf p) (cellOf .beacon c)))
      ∧ ∀ d, (met s p ((takeIn s p).port p)).inService d = s.inService d := by
  have hservice := granted_service hgrant
  simp only [cellGranted, Bool.and_eq_true, bne_iff_ne, ne_eq, decide_eq_true_eq] at hgrant
  obtain ⟨⟨htaken, hhops⟩, hpool⟩ := hgrant
  have hstate : ((takeIn s p).port p).state = (s.port p).state := by
    rw [takeIn_port]
  have hpoolFree : (takeIn s p).poolFree = s.poolFree := by
    have hheld : (takeIn s p).poolHeld = s.poolHeld := poolHeld_setPort s p _ rfl
    rw [State.poolFree, hheld, State.poolFree]
  have hmet : ({ takeIn s p with inHand := 1 } : State) = met s p ((takeIn s p).port p) := by
    rw [takeIn_port]
    rfl
  refine ⟨exec_done _ (congrArg (done s) ?_), fun d => met_inService s p _ d (by rw [hstate]; exact hservice) hservice⟩
  rw [arrive_taken s p _ _ htaken, admitCell, if_neg (show (cellOf .beacon c).hops ≠ hopLimit from hhops),
    if_neg (by rw [hpoolFree]; exact Nat.ne_of_gt hpool), hmet,
    met_sideOf]

theorem beaconFits_iff :
    beaconFits s d (cellOf .beacon c) = true
      ↔ (d = .up ∧ c.flags.getLsbD 1 = false ∧ c.origin.toNat < s.station.toNat)
        ∨ (d = .down ∧ c.flags.getLsbD 1 = true ∧ s.station.toNat < c.origin.toNat) := by
  cases d with
  | up =>
    rw [beaconFits, Bool.and_eq_true, Bool.not_eq_true', decide_eq_true_eq]
    exact ⟨fun h => .inl ⟨rfl, h⟩, fun h => h.elim (fun k => k.2) (fun k => nomatch k.1)⟩
  | down =>
    rw [beaconFits, Bool.and_eq_true, decide_eq_true_eq]
    exact ⟨fun h => .inr ⟨rfl, h⟩, fun h => h.elim (fun k => nomatch k.1) (fun k => k.2)⟩

theorem beaconFresh_iff :
    beaconFresh e x = true
      ↔ e.valid = false ∨ x.origin ≠ e.gateway
        ∨ (1 ≤ (x.reference - e.sequence).toNat ∧ (x.reference - e.sequence).toNat ≤ 32767) := by
  simp only [beaconFresh, sequenceNewer, Bool.or_eq_true, Bool.and_eq_true, Bool.not_eq_true', bne_iff_ne, ne_eq,
    decide_eq_true_eq, or_assoc]

theorem takeBeacon_of_misfit (h : ¬ beaconFits s d x = true) :
    takeBeacon s d x
      = State.countEntry { s with inHand := 0 } d (fun n => { n with beaconMismarked := satInc n.beaconMismarked }) := by
  rw [Bool.not_eq_true] at h
  unfold takeBeacon
  rw [h]
  rfl

theorem takeBeacon_of_fit (h : beaconFits s d x = true) :
    takeBeacon s d x
      = if beaconFresh (s.entry d) x then retireOrHandOn (refreshEntry s d x) d x
        else State.countEntry { s with inHand := 0 } d (fun n => { n with beaconStale := satInc n.beaconStale }) := by
  unfold takeBeacon
  rw [h]
  rfl

/-- R61, R62: a beacon not taken leaves the count of its reason in the entry of its side. -/
theorem countedBeacon (v : PortUnit) (f : ReachCounts → ReachCounts) :
    Within [.inHand, .ports, .reach] s (ended s (State.countEntry { met s p v with inHand := 0 } d f))
      ∧ (ended s (State.countEntry { met s p v with inHand := 0 } d f)).entry d
        = { s.entry d with counts := f (s.entry d).counts } := by
  refine ⟨within_ended (parts := [.inHand, .ports, .reach]) (((within_met s p v).seq (within_withInHand (met s p v) 0)
      (parts := [.inHand, .ports])).seq (within_countEntry _ d f)), ?_⟩
  rw [ended_entry]
  exact entry_setEntry_same _ d _

/-! ## What the pass of REACH-GAINED leaves (R66) -/

theorem insPush_beaconSlot (v : Tiu) (c : Cell) : (insPush v c).beaconSlot = v.beaconSlot := by
  unfold insPush
  split
  · rfl
  · rfl
  · rfl
  · rfl
  · rfl

theorem setSide_beaconSlot {v : Tiu} (h : v.beaconSlot = (s.side d).beaconSlot) (b : Side) :
    ((s.setSide d v).side b).beaconSlot = (s.side b).beaconSlot := by
  rw [side_setSide]
  split
  · next heq => rw [heq, h]
  · rfl

theorem countSide_beaconSlot (s : State) (d : Side) (f : SideCounts → SideCounts) (b : Side) :
    ((s.countSide d f).side b).beaconSlot = (s.side b).beaconSlot :=
  setSide_beaconSlot (v := { s.side d with counts := f (s.side d).counts }) rfl b

theorem offerEffect_beaconSlot (s : State) (d : Side) (x : Cell) (b : Side) :
    ((offerEffect s d x).side b).beaconSlot = (s.side b).beaconSlot := by
  have hpushed : ((s.setSide d (insPush (s.side d) x)).side b).beaconSlot = (s.side b).beaconSlot :=
    setSide_beaconSlot (insPush_beaconSlot _ _) b
  unfold offerEffect
  split
  · split
    · exact hpushed
    · rw [side_wakeSide]
      exact hpushed
  · rfl
  · exact countSide_beaconSlot s d _ b
  · exact countSide_beaconSlot s d _ b
  · rfl

theorem passSteps_beaconSlot (b : Side) (n : Nat) :
    ∀ s : State, ((passSteps n s).side b).beaconSlot = (s.side b).beaconSlot := by
  induction n with
  | zero => exact fun s => rfl
  | succ n ih =>
    intro s
    unfold passSteps
    split
    · rfl
    · split
      · rfl
      · next e _ =>
        split
        · rfl
        · next d t hdirected =>
          have ht : (t.side b).beaconSlot = (s.side b).beaconSlot :=
            congrArg Tiu.beaconSlot (side_of_within (within_directed hdirected) (by decide) b)
          split
          · exact (ih _).trans ((offerEffect_beaconSlot t d (recordCell t e) b).trans ht)
          · exact (offerEffect_beaconSlot t d (recordCell t e) b).trans ht

theorem dispatchPass_beaconSlot (s : State) (b : Side) : ((dispatchPass s).side b).beaconSlot = (s.side b).beaconSlot := by
  unfold dispatchPass
  split
  · exact passSteps_beaconSlot b _ s
  · rfl

/-- R62, R66: what a refresh leaves: the entry, the beacon slots, the sides' service, the straps. -/
theorem refreshEntry_leaves (s : State) (d : Side) (x : Cell) :
    (refreshEntry s d x).straps = s.straps
      ∧ (∀ b, (refreshEntry s d x).entry b = if b = d then refreshedEntry (s.entry d) x else s.entry b)
      ∧ (∀ b, ((refreshEntry s d x).side b).beaconSlot = (s.side b).beaconSlot)
      ∧ ∀ b, (refreshEntry s d x).inService b = s.inService b := by
  unfold refreshEntry
  split
  · exact ⟨rfl, fun b => entry_setEntry s d b _, fun _ => rfl, fun _ => rfl⟩
  · refine ⟨Steady.dispatchPass.straps, fun b => ?_, fun b => ?_, fun b => ?_⟩
    · rw [entry_of_within (within_dispatchPass _) (by decide)]
      exact entry_setEntry s d b _
    · rw [dispatchPass_beaconSlot]
      rfl
    · rw [Steady.dispatchPass.settled.inService b]
      rfl

/-- R43: a side in service takes a beacon in its slot. -/
theorem handOnBeacon_slot (h : s.inService d = true) :
    ((handOnBeacon s d x).side d).beaconSlot = some (hopped x) := by
  have hin : (State.inService { s with inHand := 0 } d) = true := h
  unfold handOnBeacon
  dsimp only
  rw [hin, Bool.not_true, if_neg Bool.false_ne_true]
  split
  · rw [countSide_beaconSlot, setSide_side]
  · rw [setSide_side]

theorem retireOrHandOn_entry (s : State) (d b : Side) (x : Cell) : (retireOrHandOn s d x).entry b = s.entry b := by
  unfold retireOrHandOn
  split
  · rfl
  · exact entry_of_within (within_handOnBeacon s (otherSide d) x) (by decide) b

/-- R62: the refreshed entry, field by field. -/
theorem refreshedEntry_eq (e : ReachEntry) (x : Cell) :
    refreshedEntry e x
      = { held := true, gateway := x.origin, hops := x.hops, sequence := x.reference, age := 0, valid := true
          counts := { e.counts with
            beaconsTaken := satInc e.counts.beaconsTaken
            reachChanges :=
              if e.valid = true ∧ x.origin ≠ e.gateway then satInc e.counts.reachChanges else e.counts.reachChanges } } := by
  unfold refreshedEntry
  simp only [Bool.and_eq_true, bne_iff_ne, ne_eq]

/-! ## The lapse (R64) -/

theorem exec_reachLapse_young (h : (s.entry d).age.toNat < 600) : exec (.reachLapse d) s = .next s := by
  refine if_neg ?_
  rw [Bool.and_eq_true, lapseDue, Bool.and_eq_true, decide_eq_true_eq]
  exact fun hdue => Nat.not_le.2 h hdue.2.2

theorem exec_reachLapse_due (hlive : s.live = true) (hvalid : (s.entry d).valid = true)
    (h : 600 ≤ (s.entry d).age.toNat) : exec (.reachLapse d) s = .next (ended s (lapseEntry s d)) := by
  refine exec_done _ (if_pos ?_)
  rw [Bool.and_eq_true, lapseDue, Bool.and_eq_true, decide_eq_true_eq]
  exact ⟨hlive, hvalid, h⟩

theorem lapseEntry_entry (s : State) (d b : Side) :
    (lapseEntry s d).entry b
      = if b = d then
          { s.entry d with
            valid := false, counts := { (s.entry d).counts with reachLapses := satInc (s.entry d).counts.reachLapses } }
        else s.entry b :=
  (entry_of_within (within_custodyReachLost _ d) (by decide) b).trans (entry_setEntry s d b _)

theorem custodyReachLost_unfitted (h : gantryFitted s.straps = false) : custodyReachLost s d = s := by
  rw [custodyReachLost, h]
  rfl

end

/-- Settles O24. -/
theorem beaconsKeepTheReachTable : Obligations.BeaconsKeepTheReachTable := by
  refine ⟨fun p c s hgrant => ?_, fun d s hlive hvalid => ⟨exec_reachLapse_young, fun hdue => ?_⟩⟩
  · intro d fits fresh
    obtain ⟨hexec, hservice⟩ := exec_beacon_granted hgrant
    generalize (takeIn s p).port p = v at hexec hservice
    refine ⟨fun hmisfit => ?_, fun hfits hstale => ?_, fun hfits hfresh => ?_⟩
    · rw [takeBeacon_of_misfit (s := met s p v) (fun h => hmisfit (beaconFits_iff.1 h))] at hexec
      exact ⟨_, hexec, countedBeacon v _⟩
    · rw [takeBeacon_of_fit (s := met s p v) (beaconFits_iff.2 hfits),
        if_neg (show ¬ beaconFresh ((met s p v).entry d) (cellOf .beacon c) = true from
          fun h => hstale (beaconFresh_iff.1 h))] at hexec
      exact ⟨_, hexec, countedBeacon v _⟩
    · rw [takeBeacon_of_fit (s := met s p v) (beaconFits_iff.2 hfits),
        if_pos (show beaconFresh ((met s p v).entry d) (cellOf .beacon c) = true from beaconFresh_iff.2 hfresh)] at hexec
      obtain ⟨hstraps, hentry, hslot, hkept⟩ := refreshEntry_leaves (met s p v) (s.sideOf p) (cellOf .beacon c)
      generalize refreshEntry (met s p v) (s.sideOf p) (cellOf .beacon c) = t at hexec hstraps hentry hslot hkept
      have hgw : t.isGateway = s.isGateway := congrArg (fun k => roleIsGateway (strapRole k)) hstraps
      refine ⟨_, hexec, ?_, ?_, fun hgateway => ?_, fun hnode hin => ?_⟩
      · rw [ended_entry, retireOrHandOn_entry, hentry, if_neg (otherSide_ne d)]
        rfl
      · rw [ended_entry, retireOrHandOn_entry, hentry, if_pos rfl]
        exact refreshedEntry_eq (s.entry d) (cellOf .beacon c)
      · rw [ended_side, retireOrHandOn, hgw, if_pos hgateway]
        exact hslot (otherSide d)
      · rw [ended_side, retireOrHandOn, hgw, if_neg (by rw [hnode]; exact Bool.false_ne_true)]
        exact handOnBeacon_slot ((hkept _).trans ((hservice _).trans hin))
  · refine ⟨_, exec_reachLapse_due hlive hvalid hdue, ?_, ?_, fun hunfitted => ?_⟩
    · rw [ended_entry, lapseEntry_entry, if_neg (otherSide_ne d)]
    · rw [ended_entry, lapseEntry_entry, if_pos rfl]
    · have hlapsed := custodyReachLost_unfitted (d := d) (s := s.setEntry d { s.entry d with
        valid := false, counts := { (s.entry d).counts with reachLapses := satInc (s.entry d).counts.reachLapses } }) hunfitted
      rw [lapseEntry, hlapsed]
      exact within_ended (parts := [.inHand, .ports, .reach]) (within_setEntry s d _).widen

end Sys2Proof.Machine
end

section
/-! PROOFS. The cells of the office (O58). -/

set_option Elab.async false

namespace Sys2Proof.Machine

section
variable {s t u : State} {d : Side} {c x : Cell} {raw : RawCell} {rest : List RawCell} {i : Instr} {again : Bool} {n : Nat}
  {id : Identity} {g : Grade} {w : Timer} {f : State → State} {k : Class}

/-! ## The head of the from-office queue (R187) -/

theorem headOf_eq (hworks : s.gatewayWorks = true) (hhead : s.gw.fromOffice = raw :: rest) (h : s.gw.headOffered = again) :
    headOf s again = some raw := by
  rw [headOf, hworks, h, beq_self_eq_true, Bool.and_self, if_pos rfl, hhead]
  rfl

/-- R187: a head that was refused is offered again, whatever its kind. -/
theorem exec_officeOfferRetry (hworks : s.gatewayWorks = true) (hhead : s.gw.fromOffice = raw :: rest)
    (h : s.gw.headOffered = true) : exec .officeOfferRetry s = .next (ended s (takeHead s (officeKind raw))) := by
  refine exec_done _ ?_
  rw [show exec .officeOfferRetry s = execOfficeOfferRetry s from rfl, execOfficeOfferRetry, headOf_eq hworks hhead h]

theorem exec_deliver (hworks : s.gatewayWorks = true) (hhead : s.gw.fromOffice = raw :: rest)
    (hkind : officeKind raw = .deliver c)
    (h : i = .officeSignOrReportCell ∧ s.gw.headOffered = false ∨ i = .officeOfferRetry ∧ s.gw.headOffered = true) :
    exec i s = .next (ended s (deliverHead s c)) := by
  rcases h with ⟨rfl, hfirst⟩ | ⟨rfl, hagain⟩
  · refine exec_done _ ?_
    rw [show exec .officeSignOrReportCell s = execOfficeSignOrReportCell s from rfl, execOfficeSignOrReportCell,
      headOf_eq hworks hhead hfirst, Option.map_some, hkind]
  · rw [exec_officeOfferRetry hworks hhead hagain, hkind]
    rfl

theorem exec_officeVoice (hworks : s.gatewayWorks = true) (hhead : s.gw.fromOffice = raw :: rest)
    (hkind : officeKind raw = .voice c)
    (h : i = .officeVoice ∧ s.gw.headOffered = false ∨ i = .officeOfferRetry ∧ s.gw.headOffered = true) :
    exec i s = .next (ended s (officeVoice s c)) := by
  rcases h with ⟨rfl, hfirst⟩ | ⟨rfl, hagain⟩
  · refine exec_done _ ?_
    rw [show exec .officeVoice s = execOfficeVoice s from rfl, execOfficeVoice, headOf_eq hworks hhead hfirst,
      Option.map_some, hkind]
  · rw [exec_officeOfferRetry hworks hhead hagain, hkind]
    rfl

theorem exec_officeRelease (hworks : s.gatewayWorks = true) (hhead : s.gw.fromOffice = raw :: rest)
    (hkind : officeKind raw = .release c)
    (h : i = .officeCallRelease ∧ s.gw.headOffered = false ∨ i = .officeOfferRetry ∧ s.gw.headOffered = true) :
    exec i s = .next (ended s (officeRelease s c)) := by
  rcases h with ⟨rfl, hfirst⟩ | ⟨rfl, hagain⟩
  · refine exec_done _ ?_
    rw [show exec .officeCallRelease s = execOfficeCallRelease s from rfl, execOfficeCallRelease,
      headOf_eq hworks hhead hfirst, Option.map_some, hkind]
  · rw [exec_officeOfferRetry hworks hhead hagain, hkind]
    rfl

/-! ## The kinds of a head -/

/-- R187: the kinds that the office delivers by target. -/
def Delivers (k : Kind) : Prop :=
  k = .signWindow ∨ k = .signPixels ∨ k = .signShow ∨ k = .signClear ∨ k = .signDim ∨ k = .weatherPoll ∨ k = .nodeQuery

theorem Delivers.facts {k : Kind} (h : Delivers k) :
    deliverable k = true ∧ k ≠ .voice ∧ classFloor (kindClass k) = 64 := by
  rcases h with rfl | rfl | rfl | rfl | rfl | rfl | rfl
  all_goals exact ⟨rfl, nofun, rfl⟩

theorem officeKind_deliver (hraw : cellOfRaw raw = some c) (hk : Delivers c.kind)
    (htarget : isStation c.target = true ∨ c.target = 255) : officeKind raw = .deliver c := by
  have hnamed : (isStation c.target || c.target == allStations) = true :=
    htarget.elim (fun h => by rw [h]; rfl) (fun h => by rw [h]; rfl)
  unfold officeKind
  rw [hraw]
  dsimp only
  rw [hk.facts.1, hnamed]
  rfl

theorem officeKind_voice (hraw : cellOfRaw raw = some c) (hkind : c.kind = .voice) : officeKind raw = .voice c := by
  unfold officeKind
  rw [hraw]
  dsimp only
  rw [hkind]
  rfl

theorem officeKind_release (hraw : cellOfRaw raw = some c) (hkind : c.kind = .callRelease) :
    officeKind raw = .release c := by
  unfold officeKind
  rw [hraw]
  dsimp only
  rw [hkind]
  rfl

/-- R13: the station of a gateway that works is a station address. -/
theorem isStation_of_works (hworks : s.gatewayWorks = true) : isStation s.station = true := by
  simp only [State.gatewayWorks, State.live, strapFault, stationRangeFault, Bool.and_eq_true, Bool.not_eq_true',
    Bool.or_eq_false_iff, beq_eq_false_iff_ne, decide_eq_false_iff_not, Nat.not_lt] at hworks
  obtain ⟨⟨_, ⟨⟨hzero, hhigh⟩, _⟩, _⟩, _⟩ := hworks
  rw [isStation, Bool.and_eq_true, bne_iff_ne, decide_eq_true_eq]
  exact ⟨hzero, hhigh⟩

/-! ## An offer of the head made a local cell -/

theorem popHead_gw (hhead : s.gw.fromOffice = raw :: rest) :
    (popHead s).gw = { s.gw with fromOffice := rest, headOffered := false, headHandedOver := false } := by
  unfold popHead
  dsimp only
  rw [hhead]
  rfl

theorem insQueue_insPush (v : Tiu) (x : Cell) : insQueue (insPush v x) (cellClass x) = insQueue v (cellClass x) ++ [x] := by
  unfold insPush
  split
  · next h => rw [h]; rfl
  · next h => rw [h]; rfl
  · next h => rw [h]; rfl
  · next h => rw [h]; rfl
  · next h => rw [h]; rfl

theorem offerEffect_gw (s : State) (d : Side) (x : Cell) : (offerEffect s d x).gw = s.gw :=
  within_offerEffect s d x .gw (by decide)

theorem within_offerEffect_taken (h : offerAnswer s d x = .taken) : Within [.ports, .tiu] s (offerEffect s d x) := by
  unfold offerEffect
  rw [h]
  dsimp only
  split
  · exact (within_setSide s d _).widen
  · exact (within_setSide s d _).seq (within_wakeSide _ d)

theorem offerHead_taken (h : offerAnswer s s.inner x = .taken) :
    offerHead s x f = f (popHead (offerEffect s s.inner x)) := by rw [offerHead, h]

theorem offerHead_full (h : offerAnswer s s.inner x = .queueFull) :
    offerHead s x f = keepHead (offerEffect s s.inner x) := by rw [offerHead, h]

theorem offerHead_absent (h : offerAnswer s s.inner x = .noSide) :
    offerHead s x f = discardHead (offerEffect s s.inner x) := by rw [offerHead, h]

/-- R187: what a head leaves that the inner side takes. -/
theorem headTaken (hhead : s.gw.fromOffice = raw :: rest) (h : offerAnswer s s.inner x = .taken) :
    Within [.ports, .tiu, .gw] s (popHead (offerEffect s s.inner x))
      ∧ (popHead (offerEffect s s.inner x)).gw
        = { s.gw with fromOffice := rest, headOffered := false, headHandedOver := false }
      ∧ insQueue ((popHead (offerEffect s s.inner x)).side s.inner) (cellClass x)
        = insQueue (s.side s.inner) (cellClass x) ++ [x] := by
  refine ⟨(within_offerEffect_taken h).seq (within_popHead _) (parts := [.ports, .tiu, .gw]), ?_, ?_⟩
  · rw [popHead_gw (raw := raw) (rest := rest) (by rw [offerEffect_gw]; exact hhead), offerEffect_gw]
  · exact (congrArg (fun v => insQueue v (cellClass x)) (offerEffect_taken s s.inner x h).1).trans (insQueue_insPush _ x)

/-- R187: what a head leaves that a full queue refuses. -/
theorem headFull (h : offerAnswer s s.inner x = .queueFull) :
    (keepHead (offerEffect s s.inner x)).gw = { s.gw with headOffered := true }
      ∧ (keepHead (offerEffect s s.inner x)).node = s.node
      ∧ insQueue ((keepHead (offerEffect s s.inner x)).side s.inner) (cellClass x)
        = insQueue (s.side s.inner) (cellClass x) := by
  rw [offerEffect_of_full h]
  refine ⟨rfl, rfl, ?_⟩
  show insQueue ((s.setSide s.inner _).side s.inner) _ = _
  rw [setSide_side]
  cases cellClass x with
  | _ => rfl

/-! ## A head that the gateway's own block takes (R8, R172, R187, R197) -/

theorem consumeOfficeCell_sign (h : cellClass c = .sign) :
    consumeOfficeCell s c
      = if signFitted s.straps then { s with sps := { s.sps with waiting := s.sps.waiting ++ [{ cell := c, side := none }] } }
        else countNoConsumer s := by
  unfold consumeOfficeCell
  split
  · next hkind => rw [cellClass, hkind] at h; cases h
  · next hkind => rw [cellClass, hkind] at h; cases h
  · rfl

theorem consumeOfficeCell_poll (h : c.kind = .weatherPoll) :
    consumeOfficeCell s c
      = if weatherFitted s.straps then { answerPoll { s with inHand := 1 } none c.toCellData with inHand := 0 }
        else countNoConsumer s := by
  unfold consumeOfficeCell
  rw [h]

theorem consumeOfficeCell_query (h : c.kind = .nodeQuery) :
    consumeOfficeCell s c = { answerQuery { s with inHand := 1 } none c.toCellData with inHand := 0 } := by
  unfold consumeOfficeCell
  rw [h]

/-- R186: an answer that finds its floor and room joins the to-office queue. -/
theorem answerToOffice_accepted (hclass : cellClass x = .report) (hpool : 64 ≤ s.poolFree)
    (hroom : s.gw.toOffice.length < 32) :
    answerAccepted s .report = true ∧ answerToOffice s x = officePush s (onChannel 0 x) := by
  have hfloor : floorMet s .report = true := decide_eq_true (show classFloor .report ≤ s.poolFree from hpool)
  have hoffice : officeRoom s = true := officeRoom_iff.2 hroom
  refine ⟨by rw [answerAccepted, hfloor, hoffice]; rfl, ?_⟩
  rw [answerToOffice, hoffice, hclass, hfloor]
  rfl

theorem answerPoll_office (poll : CellData) (hpool : 64 ≤ s.poolFree) (hroom : s.gw.toOffice.length < 32) :
    answerPoll s none poll
      = countPollAnswered (officePush s (makeCell s.station .weatherReport poll.origin poll.reference 0 1 0 (reportPayload s.wsu))) := by
  obtain ⟨haccepted, hpush⟩ := answerToOffice_accepted (x := reportCell s poll.origin poll.reference 1) rfl hpool hroom
  unfold answerPoll
  dsimp only
  rw [if_pos haccepted, hpush]
  rfl

theorem answerQuery_office (query : CellData) (hpool : 64 ≤ s.poolFree) (hroom : s.gw.toOffice.length < 32) :
    answerQuery s none query
      = countQueryAnswered (officePush { s with freeUses := s.freeUses + 1 }
          (makeCell s.station .nodeStatus query.origin query.reference 0 0 0 (queryPayload s))) := by
  obtain ⟨haccepted, hpush⟩ := answerToOffice_accepted (s := { s with freeUses := s.freeUses + 1 })
    (x := statusCell s query) rfl hpool hroom
  unfold answerQuery
  dsimp only
  rw [if_pos haccepted, hpush]
  rfl

theorem deliveredAtGateway_consumed (s : State) (c : Cell) : deliveredAtGateway s (consumeOfficeCell s c) c := by
  refine ⟨fun hsign hfitted => ?_, fun hsign hunfitted => ?_, fun hpoll hunfitted => ?_, fun hpool hroom =>
    ⟨fun hpoll hfitted => ?_, fun hquery => ?_⟩⟩
  · rw [consumeOfficeCell_sign hsign, if_pos hfitted]
  · rw [consumeOfficeCell_sign hsign, if_neg (by rw [hunfitted]; exact Bool.false_ne_true)]
    rfl
  · rw [consumeOfficeCell_poll hpoll, if_neg (by rw [hunfitted]; exact Bool.false_ne_true)]
    rfl
  · rw [consumeOfficeCell_poll hpoll, if_pos hfitted,
      answerPoll_office (s := { s with inHand := 1 }) c.toCellData hpool hroom]
    exact ⟨rfl, rfl⟩
  · rw [consumeOfficeCell_query hquery, answerQuery_office (s := { s with inHand := 1 }) c.toCellData hpool hroom]
    exact ⟨⟨_, queryPayload_length _, rfl⟩, rfl⟩

theorem deliveredAtGateway_of (h : deliveredAtGateway s t c) (hsps : u.sps = t.sps) (hnode : u.node = t.node)
    (hoffice : u.gw.toOffice = t.gw.toOffice) (hwsu : u.wsu = t.wsu) (hmaint : u.maint = t.maint) :
    deliveredAtGateway s u c := by
  unfold deliveredAtGateway at h ⊢
  rw [hsps, hnode, hoffice, hwsu, hmaint]
  exact h

/-- What the gateway's own block leaves alone: the sides, the queue from the office, all buffers but one. -/
structure OwnBlock (s t : State) : Prop where
  straps : t.straps = s.straps
  ports : t.ports = s.ports
  tiu : t.tiu = s.tiu
  queue : t.gw.fromOffice = s.gw.fromOffice
  offered : t.gw.headOffered = s.gw.headOffered
  hand : t.inHand ≤ s.inHand
  room : t.sps.waiting.length + t.gw.toOffice.length ≤ s.sps.waiting.length + s.gw.toOffice.length + 1

theorem ownBlock_noConsumer (s : State) : OwnBlock s (countNoConsumer s) :=
  ⟨rfl, rfl, rfl, rfl, rfl, Nat.le_refl _, Nat.le_succ _⟩

theorem answerToOffice_leaves (s : State) (x : Cell) :
    (answerToOffice s x).gw.fromOffice = s.gw.fromOffice ∧ (answerToOffice s x).gw.headOffered = s.gw.headOffered
      ∧ (answerToOffice s x).gw.toOffice.length ≤ s.gw.toOffice.length + 1 := by
  unfold answerToOffice
  split
  · unfold countOfficeDropped
    cases cellClass x with
    | _ => exact ⟨rfl, rfl, Nat.le_succ _⟩
  · split
    · exact ⟨rfl, rfl, Nat.le_of_eq List.length_append⟩
    · exact ⟨rfl, rfl, Nat.le_succ _⟩

/-- An answer made while its own buffer is in hand takes no buffer but its own. -/
theorem ownBlock_answer {v : State} (hv : Within [.inHand, .freeUses] s v) (ht : Within [.wsu, .maint] (answerToOffice v x) t) :
    OwnBlock s { t with inHand := 0 } := by
  obtain ⟨hqueue, hoffered, hlength⟩ := answerToOffice_leaves v x
  have hwithin : Within [.wsu, .maint, .node, .gw] v t :=
    (within_answerToOffice v x).seq ht (parts := [.wsu, .maint, .node, .gw])
  have hall := hv.seq hwithin (parts := [.inHand, .freeUses, .wsu, .maint, .node, .gw])
  have hgw : t.gw = (answerToOffice v x).gw := ht .gw (by decide)
  have hvgw : v.gw = s.gw := hv .gw (by decide)
  have hsps : t.sps = s.sps := hall .sps (by decide)
  rw [hvgw] at hqueue hoffered hlength
  refine ⟨hall .straps (by decide), hall .ports (by decide), hall .tiu (by decide), ?_, ?_, Nat.zero_le _, ?_⟩
  · exact (congrArg Gateway.fromOffice hgw).trans hqueue
  · exact (congrArg Gateway.headOffered hgw).trans hoffered
  · show t.sps.waiting.length + t.gw.toOffice.length ≤ _
    rw [hsps, hgw]
    omega

theorem ownBlock_consumed (s : State) (c : Cell) : OwnBlock s (consumeOfficeCell s c) := by
  unfold consumeOfficeCell
  split
  · split
    · unfold answerPoll
      dsimp only
      split
      · exact ownBlock_answer (v := { s with inHand := 1 }) (within_withInHand s 1).widen (within_countWsu _ _).widen
      · exact ownBlock_answer (v := { s with inHand := 1 }) (within_withInHand s 1).widen (within_countWsu _ _).widen
    · exact ownBlock_noConsumer s
  · have hv : Within [.inHand, .freeUses] s { s with inHand := 1, freeUses := s.freeUses + 1 } :=
      (within_withInHand s 1).seq (within_withFreeUses { s with inHand := 1 } (s.freeUses + 1)) (parts := [.inHand, .freeUses])
    unfold answerQuery
    dsimp only
    split
    · exact ownBlock_answer hv (within_withMaint _ _).widen
    · exact ownBlock_answer hv (within_withMaint _ _).widen
  · split
    · refine ⟨rfl, rfl, rfl, rfl, rfl, Nat.le_refl _, ?_⟩
      rw [List.length_append]
      exact Nat.le_of_eq (Nat.add_right_comm _ 1 _)
    · exact ownBlock_noConsumer s

theorem OwnBlock.pool (h : OwnBlock s t) : t.poolHeld ≤ s.poolHeld + 1 := by
  have hside (d : Side) : t.side d = s.side d := by rw [State.side, h.tiu, State.side]
  have hport (p : Port) : t.port p = s.port p := by rw [State.port, h.ports, State.port]
  have hhand := h.hand
  have hroom := h.room
  rw [poolHeld_eq, poolHeld_eq, hside, hside, hport, hport]
  omega

theorem OwnBlock.inService (h : OwnBlock s t) (d : Side) : t.inService d = s.inService d := by
  rw [inService_eq, inService_eq, portOf_of_straps h.straps, State.port, h.ports, State.port]

theorem OwnBlock.takesLocal (h : OwnBlock s t) (htakes : Machine.takesLocal (s.holding (s.inHand + 1)) d k = true) :
    Machine.takesLocal t d k = true := by
  have hpool := h.pool
  have hheld := poolHeld_holding s s.inHand
  have hside : t.side d = s.side d := by rw [State.side, h.tiu, State.side]
  rw [show s.holding s.inHand = s from rfl] at hheld
  simp only [Machine.takesLocal, Bool.and_eq_true, decide_eq_true_eq] at htakes ⊢
  obtain ⟨⟨hin, hroom⟩, hfloor⟩ := htakes
  refine ⟨⟨(h.inService d).trans hin, by rw [hside]; exact hroom⟩, ?_⟩
  rw [poolFree_eq] at hfloor ⊢
  rw [hheld] at hfloor
  exact Nat.le_trans hfloor (Nat.sub_le_sub_left hpool 512)

/-! ## An office cell of a channel (R188) -/

theorem officeChannel_of_held (h : channelHolds (callOf c.toCellData) (channelAt s c.hops.toNat) = true) :
    officeChannel s c = channelAt s c.hops.toNat := if_pos h

theorem officeChannel_of_free (h : channelHolds (callOf c.toCellData) (channelAt s c.hops.toNat) = false) :
    officeChannel s c = .free := if_neg (Bool.eq_false_iff.1 h)

theorem officeChannel_chain (h : channelAt s c.hops.toNat = .chain (callOf c.toCellData) g) :
    officeChannel s c = .chain (callOf c.toCellData) g :=
  (officeChannel_of_held (by rw [h]; exact beq_self_eq_true _)).trans h

theorem officeChannel_local (h : channelAt s c.hops.toNat = .localCall (callOf c.toCellData) g w) :
    officeChannel s c = .localCall (callOf c.toCellData) g w :=
  (officeChannel_of_held (by rw [h]; exact beq_self_eq_true _)).trans h

/-- R187: a rejected head leaves the queue. -/
theorem rejectHead_eq (hhead : s.gw.fromOffice = raw :: rest) :
    rejectHead s
      = { s with gw := { s.gw with
          fromOffice := rest, headOffered := false, headHandedOver := false
          counts := { s.gw.counts with officeRejected := satInc s.gw.counts.officeRejected } } } := by
  unfold rejectHead popHead
  rw [hhead]
  rfl

/-- R44: an offered VOICE of a HELD entry is taken where a control cell would be. -/
theorem offer_voice_taken (hclass : cellClass x = .call) (hheld : heldIn (s.table d) (callOf x.toCellData) = true)
    (h : takesLocal s d .call = true) : offerAnswer s d x = .taken := by
  simp only [takesLocal, Bool.and_eq_true, decide_eq_true_eq] at h
  obtain ⟨⟨hin, hroom⟩, hfloor⟩ := h
  rw [offerAnswer_of_reserved hin (by rw [hclass]; exact hroom)
    (by rw [unreserved, hheld, Bool.not_true, Bool.and_false]), hclass]
  exact if_pos (by rw [decide_eq_true hfloor, Bool.or_true])

/-- R84: a released record clears its line, whatever its identity. -/
theorem recordReleased_clears {l : Line} {r : CallRecord} (hrecord : (s.line l).record = some r) :
    Within [.srt, .lines] s (recordReleased s l) ∧ (recordReleased s l).line l = enterCleared (s.line l) := by
  unfold recordReleased
  rw [hrecord]
  dsimp only
  refine ⟨(within_releaseOwn s r).seq (within_setLine (releaseOwn s r) l _), ?_⟩
  rw [setLine_line, releaseOwn_line]

end

section
variable {s : State} {c : Cell} {raw : RawCell} {rest : List RawCell} {i : Instr} {g : Grade} {w : Timer}

/-! ## The heads delivered by target -/

/-- R187: the cell that an offered head becomes is taken by the inner side. -/
theorem deliver_taken (hhead : s.gw.fromOffice = raw :: rest) (hk : Delivers c.kind)
    (htakes : takesLocal s s.inner (cellClass c) = true)
    (hexec : exec i s = .next (ended s (offerHead s (asLocal s c) (fun u => u)))) :
    ∃ t, exec i s = .next t ∧ Within [.inHand, .ports, .tiu, .gw] s t
      ∧ t.gw = { s.gw with fromOffice := rest, headOffered := false, headHandedOver := false }
      ∧ insQueue (t.side s.inner) (cellClass c)
        = insQueue (s.side s.inner) (cellClass c) ++ [{ c with origin := s.station, hops := 0 }] := by
  have htaken : offerAnswer s s.inner (asLocal s c) = .taken := offer_taken s s.inner (asLocal s c) htakes hk.facts.2.1
  rw [offerHead_taken htaken] at hexec
  obtain ⟨hwithin, hgw, hqueue⟩ := headTaken hhead htaken
  refine ⟨_, hexec, within_ended (parts := [.ports, .tiu, .gw]) hwithin, ?_, ?_⟩
  · rw [ended_gw, hgw]
  · rw [ended_side]
    exact hqueue

theorem deliver_to_other (hhead : s.gw.fromOffice = raw :: rest) (hk : Delivers c.kind)
    (hexec : exec i s = .next (ended s (offerHead s (asLocal s c) (fun u => u)))) :
    (takesLocal s s.inner (cellClass c) = true →
        ∃ t, exec i s = .next t ∧ t.gw = { s.gw with fromOffice := rest, headOffered := false, headHandedOver := false }
          ∧ insQueue (t.side s.inner) (cellClass c)
            = insQueue (s.side s.inner) (cellClass c) ++ [{ c with origin := s.station, hops := 0 }])
      ∧ (s.inService s.inner = true →
          insCapacity (cellClass c) ≤ (insQueue (s.side s.inner) (cellClass c)).length →
          ∃ t, exec i s = .next t ∧ t.gw = { s.gw with headOffered := true }
            ∧ insQueue (t.side s.inner) (cellClass c) = insQueue (s.side s.inner) (cellClass c))
      ∧ (s.inService s.inner = false →
          ∃ t, exec i s = .next t ∧ t.gw.fromOffice = rest
            ∧ t.gw.counts.officeUndelivered = satInc s.gw.counts.officeUndelivered) := by
  refine ⟨fun htakes => ?_, fun hin hfull => ?_, fun habsent => ?_⟩
  · obtain ⟨t, ht, _, hgw, hqueue⟩ := deliver_taken hhead hk htakes hexec
    exact ⟨t, ht, hgw, hqueue⟩
  · have hanswer : offerAnswer s s.inner (asLocal s c) = .queueFull := offerAnswer_of_full hin hfull
    rw [offerHead_full hanswer] at hexec
    obtain ⟨hgw, _, hqueue⟩ := headFull hanswer
    refine ⟨_, hexec, ?_, ?_⟩
    · rw [ended_gw, hgw]
    · rw [ended_side]
      exact hqueue
  · have hanswer : offerAnswer s s.inner (asLocal s c) = .noSide := offerAnswer_of_absent habsent
    rw [offerHead_absent hanswer, offerEffect_of_absent hanswer] at hexec
    refine ⟨_, hexec, ?_, ?_⟩
    · rw [ended_gw]
      show s.gw.fromOffice.drop 1 = rest
      rw [hhead]
      rfl
    · rw [ended_gw]
      rfl

theorem deliverHead_other (hown : c.target ≠ s.station) (h : c.target ≠ 255 ∨ s.gw.headHandedOver = true) :
    deliverHead s c = offerHead s (asLocal s c) (fun u => u) := by
  refine (if_neg hown).trans (if_neg fun hboth => ?_)
  obtain ⟨hall, hfresh⟩ := Bool.and_eq_true_iff.1 hboth
  rcases h with hne | hhanded
  · exact hne (of_decide_eq_true hall)
  · rw [hhanded] at hfresh
    exact Bool.false_ne_true hfresh

theorem floorMet_of_delivers (hk : Delivers c.kind) : floorMet s (cellClass c) = true ↔ 64 ≤ s.poolFree := by
  rw [floorMet, decide_eq_true_eq, show classFloor (cellClass c) = 64 from hk.facts.2.2]

theorem deliverHead_own (hk : Delivers c.kind) (hown : c.target = s.station) :
    deliverHead s c
      = if 64 ≤ s.poolFree then popHead (consumeOfficeCell s c) else keepHead (countPool s (cellClass c)) := by
  refine (if_pos hown).trans ?_
  by_cases h : 64 ≤ s.poolFree
  · rw [if_pos ((floorMet_of_delivers hk).2 h), if_pos h]
  · rw [if_neg (fun hfloor => h ((floorMet_of_delivers hk).1 hfloor)), if_neg h]

/-- R187: a head targeted ALL that has not been handed over. -/
theorem deliverHead_all (hk : Delivers c.kind) (hown : c.target ≠ s.station) (hall : c.target = 255)
    (hfresh : s.gw.headHandedOver = false) (hpool : 64 ≤ s.poolFree) :
    deliverHead s c
      = offerHead (markHanded (consumeOfficeCell s c)) (asLocal (markHanded (consumeOfficeCell s c)) c) (fun u => u) := by
  have hboth : (decide (c.target = allStations) && !s.gw.headHandedOver) = true := by
    rw [hfresh, decide_eq_true (show c.target = allStations from hall)]
    rfl
  exact (if_neg hown).trans ((if_pos hboth).trans (if_pos ((floorMet_of_delivers hk).2 hpool)))

theorem deliver_to_own (hhead : s.gw.fromOffice = raw :: rest) (hk : Delivers c.kind) (hown : c.target = s.station)
    (hexec : exec i s = .next (ended s (deliverHead s c))) :
    (64 ≤ s.poolFree →
        ∃ t, exec i s = .next t ∧ deliveredAtGateway s t c ∧ t.tiu = s.tiu ∧ t.gw.fromOffice = rest
          ∧ t.gw.headOffered = false ∧ t.gw.headHandedOver = false)
      ∧ (s.poolFree < 64 →
          ∃ t, exec i s = .next t ∧ Within [.inHand, .ports, .node, .gw] s t
            ∧ t.gw = { s.gw with headOffered := true } ∧ t.node = countPoolRefused s.node (cellClass c)) := by
  rw [deliverHead_own hk hown] at hexec
  refine ⟨fun hpool => ?_, fun hpool => ?_⟩
  · rw [if_pos hpool] at hexec
    have hown := ownBlock_consumed s c
    refine ⟨_, hexec, deliveredAtGateway_of (deliveredAtGateway_consumed s c) rfl rfl rfl rfl rfl, hown.tiu, ?_, rfl, rfl⟩
    rw [ended_gw, popHead_gw (raw := raw) (rest := rest) (hown.queue.trans hhead)]
  · rw [if_neg (Nat.not_le.2 hpool)] at hexec
    exact ⟨_, hexec, within_ended (parts := [.node, .gw]) ((within_countNode s _).seq (within_withGw _ _)), rfl, rfl⟩

theorem deliver_to_all (hhead : s.gw.fromOffice = raw :: rest) (hk : Delivers c.kind) (hown : c.target ≠ s.station)
    (hall : c.target = 255) (hfresh : s.gw.headHandedOver = false)
    (hexec : exec i s = .next (ended s (deliverHead s c))) :
    (takesLocal (s.holding (s.inHand + 1)) s.inner (cellClass c) = true →
        ∃ t, exec i s = .next t ∧ deliveredAtGateway s t c ∧ t.gw.fromOffice = rest
          ∧ t.gw.headOffered = false ∧ t.gw.headHandedOver = false
          ∧ insQueue (t.side s.inner) (cellClass c)
            = insQueue (s.side s.inner) (cellClass c) ++ [{ c with origin := s.station, hops := 0 }])
      ∧ (s.inService s.inner = true →
          insCapacity (cellClass c) ≤ (insQueue (s.side s.inner) (cellClass c)).length → 64 ≤ s.poolFree →
          ∃ t, exec i s = .next t ∧ deliveredAtGateway s t c ∧ t.gw.fromOffice = s.gw.fromOffice
            ∧ t.gw.headOffered = true ∧ t.gw.headHandedOver = true
            ∧ insQueue (t.side s.inner) (cellClass c) = insQueue (s.side s.inner) (cellClass c)) := by
  have hblock := ownBlock_consumed s c
  have hdelivered := deliveredAtGateway_consumed s c
  have hinner : (markHanded (consumeOfficeCell s c)).inner = s.inner := congrArg strapInner hblock.straps
  have hstation : (markHanded (consumeOfficeCell s c)).station = s.station := congrArg strapStation hblock.straps
  have hside : (markHanded (consumeOfficeCell s c)).side s.inner = s.side s.inner := by
    rw [State.side, show (markHanded (consumeOfficeCell s c)).tiu = s.tiu from hblock.tiu, State.side]
  have hmarked : deliveredAtGateway s (markHanded (consumeOfficeCell s c)) c :=
    deliveredAtGateway_of hdelivered rfl rfl rfl rfl rfl
  refine ⟨fun htakes => ?_, fun hin hfull hpool => ?_⟩
  · have hpool : 64 ≤ s.poolFree := by
      have hheld := poolHeld_holding s s.inHand
      rw [show s.holding s.inHand = s from rfl] at hheld
      simp only [takesLocal, Bool.and_eq_true, decide_eq_true_eq] at htakes
      have hfloor := htakes.2
      rw [show classFloor (cellClass c) = 64 from hk.facts.2.2, poolFree_eq, hheld] at hfloor
      rw [poolFree_eq]
      omega
    have htaken : offerAnswer (markHanded (consumeOfficeCell s c)) (markHanded (consumeOfficeCell s c)).inner
        (asLocal (markHanded (consumeOfficeCell s c)) c) = .taken := by
      rw [hinner]
      exact offer_taken _ s.inner _ (hblock.takesLocal (k := cellClass c) htakes) hk.facts.2.1
    rw [deliverHead_all hk hown hall hfresh hpool, offerHead_taken htaken] at hexec
    obtain ⟨hwithin, hgw, hqueue⟩ := headTaken (raw := raw) (rest := rest)
      (show (markHanded (consumeOfficeCell s c)).gw.fromOffice = raw :: rest from hblock.queue.trans hhead) htaken
    have hoffice := congrArg Gateway.toOffice hgw
    refine ⟨_, hexec, deliveredAtGateway_of hmarked (hwithin .sps (by decide)) (hwithin .node (by decide))
      hoffice (hwithin .wsu (by decide)) (hwithin .maint (by decide)), ?_, ?_, ?_, ?_⟩
    · rw [ended_gw, hgw]
    · rw [ended_gw, hgw]
    · rw [ended_gw, hgw]
    · rw [hinner, hside] at hqueue
      rw [ended_side, hinner]
      refine hqueue.trans ?_
      rw [asLocal, hstation]
      rfl
  · have hanswer : offerAnswer (markHanded (consumeOfficeCell s c)) (markHanded (consumeOfficeCell s c)).inner
        (asLocal (markHanded (consumeOfficeCell s c)) c) = .queueFull := by
      rw [hinner]
      exact offerAnswer_of_full ((hblock.inService s.inner).trans hin) (by rw [hside]; exact hfull)
    rw [deliverHead_all hk hown hall hfresh hpool, offerHead_full hanswer] at hexec
    obtain ⟨hgw, hnode, hqueue⟩ := headFull hanswer
    have hoffice := congrArg Gateway.toOffice hgw
    have hwithin : Within [.ports, .node, .tiu, .gw] (markHanded (consumeOfficeCell s c))
        (keepHead (offerEffect (markHanded (consumeOfficeCell s c)) (markHanded (consumeOfficeCell s c)).inner
          (asLocal (markHanded (consumeOfficeCell s c)) c))) :=
      (within_offerEffect _ _ _).seq (within_withGw _ _)
    refine ⟨_, hexec, deliveredAtGateway_of hmarked (hwithin .sps (by decide)) hnode
      hoffice (hwithin .wsu (by decide)) (hwithin .maint (by decide)), ?_, ?_, ?_, ?_⟩
    · rw [ended_gw, hgw]
      exact hblock.queue
    · rw [ended_gw, hgw]
    · rw [ended_gw, hgw]
      rfl
    · rw [hinner, hside] at hqueue
      rw [ended_side, hinner]
      exact hqueue

/-! ## The heads of a channel -/

theorem exec_local_voice (hhead : s.gw.fromOffice = raw :: rest)
    (hlocal : channelAt s c.hops.toNat = .localCall (callOf c.toCellData) g w)
    (hexec : exec i s = .next (ended s (officeVoice s c))) :
    ∃ t, exec i s = .next t ∧ Within [.inHand, .ports, .lines, .gw] s t
      ∧ t.gw = { s.gw with
          fromOffice := rest, headOffered := false, headHandedOver := false
          channels := s.gw.channels.set c.hops.toNat (.localCall (callOf c.toCellData) g (some 3000)) }
      ∧ (t.line (callOf c.toCellData).phone).playout
        = (if 4 ≤ (s.line (callOf c.toCellData).phone).playout.length then
              (s.line (callOf c.toCellData).phone).playout.drop 1
            else (s.line (callOf c.toCellData).phone).playout)
          ++ [payloadBytes c.toCellData 32] := by
  have hvoice : officeVoice s c = popHead (playLocal s c.hops.toNat (callOf c.toCellData) g c.toCellData) := by
    rw [officeVoice, officeChannel_local hlocal]
  rw [hvoice] at hexec
  have hgw : (playLocal s c.hops.toNat (callOf c.toCellData) g c.toCellData).gw
      = { s.gw with channels := s.gw.channels.set c.hops.toNat (.localCall (callOf c.toCellData) g (some 3000)) } :=
    within_playoutPush _ _ _ .gw (by decide)
  refine ⟨_, hexec, within_ended (parts := [.lines, .gw])
    ((within_playLocal s _ _ _ _).seq (within_popHead _) (parts := [.lines, .gw])), ?_, ?_⟩
  · rw [ended_gw, popHead_gw (raw := raw) (rest := rest) ((congrArg Gateway.fromOffice hgw).trans hhead), hgw]
  · rw [ended_line]
    exact playoutPush_playout (setChannel s c.hops.toNat (.localCall (callOf c.toCellData) g (some 3000)))
      (callOf c.toCellData).phone (payloadBytes c.toCellData 32)

theorem exec_local_release {r : CallRecord} (hhead : s.gw.fromOffice = raw :: rest)
    (hlocal : channelAt s c.hops.toNat = .localCall (callOf c.toCellData) g w)
    (hrecord : (s.line (callOf c.toCellData).phone).record = some r)
    (hexec : exec i s = .next (ended s (officeRelease s c))) :
    ∃ t, exec i s = .next t
      ∧ t.gw = { s.gw with
          fromOffice := rest, headOffered := false, headHandedOver := false
          channels := s.gw.channels.set c.hops.toNat .free }
      ∧ (t.line (callOf c.toCellData).phone).state = .cleared ∧ (t.line (callOf c.toCellData).phone).playing = .busyTone
      ∧ (t.line (callOf c.toCellData).phone).record = none := by
  have hrelease : officeRelease s c
      = popHead (recordReleased (setChannel s c.hops.toNat .free) (callOf c.toCellData).phone) := by
    rw [officeRelease, officeChannel_local hlocal]
  rw [hrelease] at hexec
  obtain ⟨hreleased, hline⟩ := recordReleased_clears (s := setChannel s c.hops.toNat .free) (by exact hrecord)
  have hgw : (recordReleased (setChannel s c.hops.toNat .free) (callOf c.toCellData).phone).gw
      = { s.gw with channels := s.gw.channels.set c.hops.toNat .free } :=
    hreleased .gw (by decide)
  refine ⟨_, hexec, ?_, ?_, ?_, ?_⟩
  · rw [ended_gw, popHead_gw (raw := raw) (rest := rest) ((congrArg Gateway.fromOffice hgw).trans hhead), hgw]
  · rw [ended_line]
    exact congrArg PhoneLine.state hline
  · rw [ended_line]
    exact congrArg PhoneLine.playing hline
  · rw [ended_line]
    exact congrArg PhoneLine.record hline

/-- R188: a VOICE or a CALL-RELEASE whose channel does not hold its call is rejected. -/
theorem exec_unheld (hhead : s.gw.fromOffice = raw :: rest) (hexec : exec i s = .next (ended s (rejectHead s))) :
    ∃ t, exec i s = .next t ∧ Within [.inHand, .ports, .gw] s t
      ∧ t.gw = { s.gw with
          fromOffice := rest, headOffered := false, headHandedOver := false
          counts := { s.gw.counts with officeRejected := satInc s.gw.counts.officeRejected } } := by
  refine ⟨_, hexec, within_ended (parts := [.gw]) (within_rejectHead s), ?_⟩
  rw [ended_gw, rejectHead_eq hhead]

theorem exec_chain_voice (hhead : s.gw.fromOffice = raw :: rest)
    (hchain : channelAt s c.hops.toNat = .chain (callOf c.toCellData) g)
    (hheld : heldIn (s.table s.inner) (callOf c.toCellData) = true) (htakes : takesLocal s s.inner .call = true)
    (hexec : exec i s = .next (ended s (officeVoice s c))) :
    ∃ t, exec i s = .next t ∧ t.gw.fromOffice = rest ∧ t.gw.channels = s.gw.channels
      ∧ (t.side s.inner).insCall
        = (s.side s.inner).insCall
          ++ [makeCell s.station .voice (callOf c.toCellData).station (referenceOf (callOf c.toCellData)) (gradeCode g)
                0 0 (payloadBytes c.toCellData 32)] := by
  have htaken : offerAnswer s s.inner (chainVoice s (callOf c.toCellData) g c) = .taken :=
    offer_voice_taken rfl (by
      rw [show callOf (chainVoice s (callOf c.toCellData) g c).toCellData = callOf c.toCellData from
        identity_of_reference (callOf c.toCellData)]
      exact hheld) htakes
  have hvoice : officeVoice s c = popHead (offerEffect s s.inner (chainVoice s (callOf c.toCellData) g c)) := by
    rw [officeVoice, officeChannel_chain hchain]
    exact offerHead_taken htaken
  rw [hvoice] at hexec
  obtain ⟨_, hgw, hqueue⟩ := headTaken hhead htaken
  refine ⟨_, hexec, ?_, ?_, ?_⟩
  · rw [ended_gw, hgw]
  · rw [ended_gw, hgw]
  · rw [ended_side]
    exact hqueue

/-- R188: the office's CALL-RELEASE of a CHAIN call. -/
theorem exec_chain_release (hhead : s.gw.fromOffice = raw :: rest)
    (hchain : channelAt s c.hops.toNat = .chain (callOf c.toCellData) g) (htakes : takesLocal s s.inner .call = true)
    (hexec : exec i s = .next (ended s (officeRelease s c))) :
    ∃ t, exec i s = .next t ∧ t.gw.fromOffice = rest ∧ t.gw.channels = s.gw.channels.set c.hops.toNat .free
      ∧ t.table s.inner = tableWithout (s.table s.inner) (callOf c.toCellData)
      ∧ (t.side s.inner).insCall
        = (s.side s.inner).insCall
          ++ [makeCell s.station .callRelease (callOf c.toCellData).station (referenceOf (callOf c.toCellData))
                (gradeCode g) 0 0 []] := by
  generalize hx : callCell s.station .callRelease (callOf c.toCellData).station (callOf c.toCellData) (gradeCode g) 0 = x
  have hclass : cellClass x = .call := by rw [← hx]; rfl
  have hvoice : x.kind ≠ .voice := by rw [← hx]; exact nofun
  have htaken : offerAnswer s s.inner x = .taken := offer_call_taken hclass hvoice htakes
  have hrelease : officeRelease s c
      = freeChain (popHead (offerEffect s s.inner x)) c.hops.toNat (callOf c.toCellData) := by
    rw [officeRelease, officeChannel_chain hchain]
    dsimp only
    rw [hx, offerHead_taken htaken]
  rw [hrelease] at hexec
  obtain ⟨hwithin, hgw, hqueue⟩ := headTaken hhead htaken
  have hinner : (popHead (offerEffect s s.inner x)).inner = s.inner := congrArg strapInner (hwithin .straps (by decide))
  refine ⟨_, hexec, ?_, ?_, ?_, ?_⟩
  · rw [ended_gw]
    exact congrArg Gateway.fromOffice hgw
  · rw [ended_gw]
    have hchannels := congrArg Gateway.channels hgw
    exact congrArg (fun q => q.set c.hops.toNat OfficeChannel.free) hchannels
  · rw [ended_table]
    refine (releaseEntry_table (s := popHead (offerEffect s s.inner x)) s.inner).trans ?_
    rw [hinner, if_pos rfl, table_of_within hwithin (by decide)]
  · rw [hclass] at hqueue
    rw [ended_side]
    refine Eq.trans ?_ (hqueue.trans (by rw [← hx]; rfl))
    rfl

end

/-- Settles O58. -/
theorem officeCellsEnterTheChain : Obligations.OfficeCellsEnterTheChain := by
  intro raw rest s hworks hhead
  have hstation := isStation_of_works hworks
  have hne_all : s.station ≠ 255 := by
    intro h
    rw [h] at hstation
    exact absurd hstation (by decide)
  refine ⟨fun c i hraw hk htarget hother hi => ?_, fun c i hraw hk hi => ⟨fun hown => ?_, fun hall hfresh => ?_,
    fun hall hhanded htakes => ?_⟩, fun c g w hraw hlocal => ?_, fun c i hraw hfirst hi hunheld => ?_,
    fun c g hraw hchain hfirst htakes => ⟨fun hkind hheld => ?_, fun hkind => ?_⟩, fun hreject hfirst => ?_⟩
  · have hexec := exec_deliver hworks hhead (officeKind_deliver hraw hk (.inl htarget)) hi
    have hne : c.target ≠ 255 := by
      intro h
      rw [h] at htarget
      exact absurd htarget (by decide)
    rw [deliverHead_other hother (.inl hne)] at hexec
    exact deliver_to_other hhead hk hexec
  · exact deliver_to_own hhead hk hown
      (exec_deliver hworks hhead (officeKind_deliver hraw hk (.inl (by rw [hown]; exact hstation))) hi)
  · exact deliver_to_all hhead hk (fun hown => hne_all (hown.symm.trans hall)) hall hfresh
      (exec_deliver hworks hhead (officeKind_deliver hraw hk (.inr hall)) hi)
  · have hexec := exec_deliver hworks hhead (officeKind_deliver hraw hk (.inr hall)) hi
    rw [deliverHead_other (fun hown => hne_all (hown.symm.trans hall)) (.inr hhanded)] at hexec
    exact deliver_taken hhead hk htakes hexec
  · intro l
    exact ⟨fun i hkind hi => exec_local_voice hhead hlocal (exec_officeVoice hworks hhead (officeKind_voice hraw hkind) hi),
      fun i r hkind hrecord hi => exec_local_release hhead hlocal hrecord
        (exec_officeRelease hworks hhead (officeKind_release hraw hkind) hi)⟩
  · rcases hi with ⟨hkind, rfl⟩ | ⟨hkind, rfl⟩
    · have hexec := exec_officeVoice hworks hhead (officeKind_voice hraw hkind) (.inl ⟨rfl, hfirst⟩)
      have hfree : officeVoice s c = rejectHead s := by
        rw [officeVoice, officeChannel_of_free hunheld]
      rw [hfree] at hexec
      exact exec_unheld hhead hexec
    · have hexec := exec_officeRelease hworks hhead (officeKind_release hraw hkind) (.inl ⟨rfl, hfirst⟩)
      have hfree : officeRelease s c = rejectHead s := by
        rw [officeRelease, officeChannel_of_free hunheld]
      rw [hfree] at hexec
      exact exec_unheld hhead hexec
  · exact exec_chain_voice hhead hchain hheld htakes
      (exec_officeVoice hworks hhead (officeKind_voice hraw hkind) (.inl ⟨rfl, hfirst⟩))
  · exact exec_chain_release hhead hchain htakes
      (exec_officeRelease hworks hhead (officeKind_release hraw hkind) (.inl ⟨rfl, hfirst⟩))
  · rw [show exec .officeCellRejected s = execOfficeCellRejected s from rfl, execOfficeCellRejected,
      headOf_eq hworks hhead hfirst, Option.map_some, hreject]
    exact congrArg Host.Outcome.next (rejectHead_eq hhead)

end Sys2Proof.Machine
end

section
/-! PROOFS. The dispatch, the retry and the end of custody (O43). -/

set_option Elab.async false

namespace Sys2Proof.Machine

section
variable {s t u : State} {p : Port} {d b : Side} {e : CustodyEntry} {c : CellData} {x : Cell} {n : Nat} {q r : Half}
  {P : CustodyEntry → Prop} {f : CustodyEntry → CustodyEntry}

/-! ## The steps of a pass (R116 to R118) -/

theorem directed_nearest (hstay : switchSide s e = none) (hnearest : s.nearest = some d) : directed s e = some (d, s) := by
  unfold directed
  rw [hstay, hnearest]

theorem directed_switch (h : switchSide s e = some d) : directed s e = some (d, switched s e) := by
  unfold directed
  rw [h]

theorem switchSide_of (hlast : e.lastDirection = some d) (hfour : e.sameDirection = 4)
    (hvalid : (s.entry (otherSide d)).valid = true) : switchSide s e = some (otherSide d) := by
  unfold switchSide
  rw [hlast]
  exact if_pos ⟨hfour, hvalid⟩

theorem dispatchPass_of_fitted (h : gantryFitted s.straps = true) : dispatchPass s = passSteps 17 s := if_pos h

theorem passSteps_full (h : 16 ≤ inFlight s.csd.store) : passSteps n s = s := by
  cases n with
  | zero => rfl
  | succ n => exact if_pos h

theorem passSteps_succ (hroom : inFlight s.csd.store < 16) (hold : oldestQueued s.csd.store = some e)
    (hdirected : directed s e = some (d, t)) :
    passSteps (n + 1) s
      = if offerAnswer t d (recordCell t e) == .taken then passSteps n (dispatched t e d) else dispatchRefusal t e d := by
  rw [passSteps, if_neg (show ¬ inFlightMax ≤ inFlight s.csd.store from Nat.not_le.2 hroom), hold]
  dsimp only
  rw [hdirected]

theorem passSteps_taken (hroom : inFlight s.csd.store < 16) (hold : oldestQueued s.csd.store = some e)
    (hdirected : directed s e = some (d, t)) (htaken : offerAnswer t d (recordCell t e) = .taken) :
    passSteps (n + 1) s = passSteps n (dispatched t e d) :=
  (passSteps_succ hroom hold hdirected).trans (if_pos (beq_iff_eq.2 htaken))

theorem passSteps_refused (hroom : inFlight s.csd.store < 16) (hold : oldestQueued s.csd.store = some e)
    (hdirected : directed s e = some (d, t)) (hrefused : offerAnswer t d (recordCell t e) ≠ .taken) :
    passSteps (n + 1) s = dispatchRefusal t e d :=
  (passSteps_succ hroom hold hdirected).trans (if_neg (by rw [beq_iff_eq]; exact hrefused))

theorem csd_dispatchRefusal (s : State) (e : CustodyEntry) (d : Side) :
    (dispatchRefusal s e d).csd
      = { s.csd with
          dispatchTimer := some 100
          counts := { s.csd.counts with dispatchRefused := satInc s.csd.counts.dispatchRefused } } := by
  unfold dispatchRefusal State.countCsd
  dsimp only
  rw [csd_offerEffect]
  rfl

theorem offerEffect_insToll (s : State) (d : Side) (x : Cell) (b : Side) :
    ∃ more, ((offerEffect s d x).side b).insToll = (s.side b).insToll ++ more := by
  by_cases htaken : offerAnswer s d x = .taken
  · by_cases hb : b = d
    · rw [hb, (offerEffect_taken s d x htaken).1]
      unfold insPush
      split
      · exact ⟨[], (List.append_nil _).symm⟩
      · exact ⟨[], (List.append_nil _).symm⟩
      · exact ⟨[x], rfl⟩
      · exact ⟨[], (List.append_nil _).symm⟩
      · exact ⟨[], (List.append_nil _).symm⟩
    · rw [eq_otherSide hb, (offerEffect_taken s d x htaken).2.1]
      exact ⟨[], (List.append_nil _).symm⟩
  · have hcounted (g : SideCounts → SideCounts) : ((s.countSide d g).side b).insToll = (s.side b).insToll := by
      rw [State.countSide, side_setSide]
      split
      · next heq => rw [heq]
      · rfl
    refine ⟨[], ?_⟩
    rw [List.append_nil]
    unfold offerEffect
    split
    · next h => exact absurd h htaken
    · rfl
    · exact hcounted _
    · exact hcounted _
    · rfl

/-- R118: a pass only adds to the TOLL queues. -/
theorem passSteps_insToll (b : Side) (n : Nat) :
    ∀ s : State, ∃ more, ((passSteps n s).side b).insToll = (s.side b).insToll ++ more := by
  induction n with
  | zero => exact fun s => ⟨[], (List.append_nil _).symm⟩
  | succ n ih =>
    intro s
    unfold passSteps
    split
    · exact ⟨[], (List.append_nil _).symm⟩
    · split
      · exact ⟨[], (List.append_nil _).symm⟩
      · next e _ =>
        split
        · exact ⟨[], (List.append_nil _).symm⟩
        · next d t hdirected =>
          have ht : (t.side b).insToll = (s.side b).insToll :=
            congrArg Tiu.insToll (side_of_within (within_directed hdirected) (by decide) b)
          obtain ⟨offered, hoffered⟩ := offerEffect_insToll t d (recordCell t e) b
          rw [ht] at hoffered
          split
          · obtain ⟨more, hmore⟩ := ih (dispatched t e d)
            refine ⟨offered ++ more, hmore.trans ?_⟩
            rw [← List.append_assoc, ← hoffered]
            rfl
          · exact ⟨offered, hoffered⟩

/-! ## The entries of a sequence -/

/-- The property holds of each entry of the store that has the sequence. -/
def EachNamed (q : Half) (P : CustodyEntry → Prop) (s : State) : Prop := ∀ x ∈ s.csd.store, x.sequence = q → P x

theorem EachNamed.of_csd (h : EachNamed q P s) (hcsd : t.csd.store = s.csd.store) : EachNamed q P t := by
  unfold EachNamed
  rw [hcsd]
  exact h

theorem EachNamed.changeEntry_ne (h : EachNamed q P s) (hne : r ≠ q) (hf : ∀ x, (f x).sequence = x.sequence) :
    EachNamed q P (s.changeEntry r f) := by
  intro x hx hseq
  obtain ⟨y, hy, rfl⟩ := List.mem_map.1 hx
  by_cases hnamed : y.sequence = r
  · rw [if_pos hnamed, hf, hnamed] at hseq
    exact absurd hseq hne
  · rw [if_neg hnamed] at hseq ⊢
    exact h y hy hseq

theorem EachNamed.changeEntry_same {Q : CustodyEntry → Prop} (h : EachNamed q Q s) (hQ : ∀ x, Q x → P (f x)) :
    EachNamed q P (s.changeEntry q f) := by
  intro x hx hseq
  obtain ⟨y, hy, rfl⟩ := List.mem_map.1 hx
  by_cases hnamed : y.sequence = q
  · rw [if_pos hnamed]
    exact hQ y (h y hy hnamed)
  · rw [if_neg hnamed] at hseq
    exact absurd hseq hnamed

/-- R118: every entry of a dispatched sequence becomes DISPATCHING. -/
theorem EachNamed.dispatched_same {Q : CustodyEntry → Prop} (h : EachNamed e.sequence Q s)
    (hQ : ∀ x, Q x → P { x with state := .dispatching d }) : EachNamed e.sequence P (Machine.dispatched s e d) := by
  have hoffered : EachNamed e.sequence Q (offerEffect s d (recordCell s e)) :=
    h.of_csd (congrArg Csd.store (csd_offerEffect s d (recordCell s e)))
  exact hoffered.changeEntry_same (f := fun x => { x with state := .dispatching d }) hQ

theorem EachNamed.directed (h : EachNamed q P s) (hne : e.sequence ≠ q) (hdirected : directed s e = some (d, t)) :
    EachNamed q P t := by
  unfold Machine.directed at hdirected
  split at hdirected
  · cases hdirected
    exact h.changeEntry_ne hne (f := fun x => { x with sameDirection := 0 }) (fun _ => rfl)
  · split at hdirected
    · cases hdirected
      exact h
    · cases hdirected

theorem EachNamed.dispatched (h : EachNamed q P s) (hne : e.sequence ≠ q) (d : Side) : EachNamed q P (dispatched s e d) :=
  (h.of_csd (t := offerEffect s d (recordCell s e)) (congrArg Csd.store (csd_offerEffect s d (recordCell s e)))).changeEntry_ne
    hne (f := fun x => { x with state := .dispatching d }) (fun _ => rfl)

theorem oldestQueued_spec (h : oldestQueued s.csd.store = some e) : e ∈ s.csd.store ∧ e.state = .queued :=
  by
  have hstate := List.find?_some h
  exact ⟨List.mem_of_find?_eq_some h, beq_iff_eq.1 hstate⟩

/-- R116: a pass changes QUEUED entries alone. -/
theorem EachNamed.passSteps (hP : ∀ x, P x → x.state ≠ .queued) (n : Nat) :
    ∀ s : State, EachNamed q P s → EachNamed q P (passSteps n s) := by
  induction n with
  | zero => exact fun s h => h
  | succ n ih =>
    intro s h
    unfold Machine.passSteps
    split
    · exact h
    · split
      · exact h
      · next e hold =>
        obtain ⟨hmem, hqueued⟩ := oldestQueued_spec hold
        have hne : e.sequence ≠ q := fun heq => hP e (h e hmem heq) hqueued
        split
        · exact h
        · next d t hdirected =>
          have ht := h.directed hne hdirected
          split
          · exact ih _ (ht.dispatched hne d)
          · exact ht.of_csd (by rw [csd_dispatchRefusal])

/-- R115: the in-flight count after an entry of a QUEUED one's sequence became DISPATCHING. -/
theorem inFlight_dispatched {store : List CustodyEntry} (hmem : e ∈ store) (hqueued : e.state = .queued) (d : Side) :
    inFlight store + 1 ≤ inFlight (changeEntry store e.sequence (fun x => { x with state := .dispatching d })) := by
  obtain ⟨before, after, rfl⟩ := List.append_of_mem hmem
  have hmono (l : List CustodyEntry) :
      inFlight l ≤ inFlight (changeEntry l e.sequence (fun x => { x with state := .dispatching d })) := by
    rw [inFlight, inFlight, changeEntry, List.countP_map]
    refine List.countP_mono_left (fun x _ hx => ?_)
    rw [Function.comp_apply]
    split
    · rfl
    · exact hx
  have hbefore := hmono before
  have hafter := hmono after
  simp only [inFlight, changeEntry, List.map_append, List.map_cons, List.countP_append, List.countP_cons] at hbefore hafter ⊢
  have hwas : entryInFlight e = false := by
    unfold entryInFlight
    rw [hqueued]
  have his : entryInFlight { e with state := .dispatching d } = true := rfl
  simp only [hwas, his, reduceIte, Bool.false_eq_true]
  omega

/-! ## The dispatch timer -/

/-- R118: the state in which the dispatch timer's pass is made. -/
def timerSpent (s : State) : State := { s with csd := { s.csd with dispatchTimer := none } }

theorem exec_dispatchTimerExpiry (hworks : s.gantryWorks = true) (htimer : s.csd.dispatchTimer.isSome = true) :
    exec .dispatchTimerExpiry s = .next (ended s (passSteps 17 (timerSpent s))) := by
  have hfitted : gantryFitted s.straps = true := (Bool.and_eq_true_iff.1 hworks).2
  refine exec_done _ ((if_pos (by rw [hworks, htimer]; rfl)).trans (congrArg (done s) ?_))
  exact dispatchPass_of_fitted (s := timerSpent s) hfitted

theorem recordCell_eq (s : State) (e : CustodyEntry) :
    recordCell s e = makeCell s.station .tollRecord 254 e.sequence 0 0 (if e.attempts = 0 then 0 else 4) e.body := rfl

/-- R118: an entry whose cell a side takes, whatever the rest of the pass does. -/
theorem exec_dispatched (hworks : s.gantryWorks = true) (htimer : s.csd.dispatchTimer.isSome = true)
    (hroom : inFlight s.csd.store < 16) (hold : oldestQueued s.csd.store = some e)
    (hdirected : directed (timerSpent s) e = some (d, t)) (ht : Within [.csd] s t)
    (htakes : takesLocal s d .toll = true) (hP : ∀ x, P x → x.state ≠ .queued)
    (hnamed : EachNamed e.sequence P (dispatched t e d)) :
    ∃ u more, exec .dispatchTimerExpiry s = .next u
      ∧ (u.side d).insToll
        = (s.side d).insToll
          ++ makeCell s.station .tollRecord 254 e.sequence 0 0 (if e.attempts = 0 then 0 else 4) e.body :: more
      ∧ EachNamed e.sequence P u ∧ u = ended s (passSteps 16 (dispatched t e d)) := by
  have hstation : t.station = s.station := congrArg strapStation (ht .straps (by decide))
  have hroomy : takesLocal t d .toll = true := by
    rw [(SameRoom.of_within ht (by decide)).takesLocal]
    exact htakes
  obtain ⟨htaken, hside⟩ := offer_toll_taken (x := recordCell t e) rfl hroomy
  have hexec := exec_dispatchTimerExpiry hworks htimer
  rw [passSteps_taken (s := timerSpent s) hroom hold hdirected htaken] at hexec
  obtain ⟨more, hmore⟩ := passSteps_insToll d 16 (dispatched t e d)
  refine ⟨_, more, hexec, ?_, (EachNamed.passSteps hP 16 _ hnamed).of_csd rfl, rfl⟩
  rw [ended_side, hmore, show ((dispatched t e d).side d).insToll = _ from congrArg Tiu.insToll hside,
    side_of_within ht (by decide), List.append_assoc, recordCell_eq, hstation]
  rfl

/-- R118: a refused offer. -/
theorem exec_dispatch_refused (hworks : s.gantryWorks = true) (htimer : s.csd.dispatchTimer.isSome = true)
    (hroom : inFlight s.csd.store < 16) (hold : oldestQueued s.csd.store = some e) (hstay : switchSide s e = none)
    (hnearest : s.nearest = some d) (h : offerAnswer (timerSpent s) d (recordCell s e) ≠ .taken) :
    ∃ t, exec .dispatchTimerExpiry s = .next t ∧ t.csd.store = s.csd.store ∧ t.csd.dispatchTimer = some 100
      ∧ t.csd.counts.dispatchRefused = satInc s.csd.counts.dispatchRefused
      ∧ t.tiu = (offerEffect (timerSpent s) d (recordCell s e)).tiu
      ∧ t.node = (offerEffect (timerSpent s) d (recordCell s e)).node := by
  have hexec := exec_dispatchTimerExpiry hworks htimer
  rw [passSteps_refused (s := timerSpent s) hroom hold (directed_nearest (s := timerSpent s) hstay hnearest) h] at hexec
  have hcsd := csd_dispatchRefusal (timerSpent s) e d
  have htiu : (dispatchRefusal (timerSpent s) e d).tiu = (offerEffect (timerSpent s) d (recordCell s e)).tiu := rfl
  have hnode : (dispatchRefusal (timerSpent s) e d).node = (offerEffect (timerSpent s) d (recordCell s e)).node := rfl
  generalize dispatchRefusal (timerSpent s) e d = u at hexec hcsd htiu hnode
  have hstore := congrArg Csd.store hcsd
  have hagain := congrArg Csd.dispatchTimer hcsd
  have hcount := congrArg (fun y : Csd => y.counts.dispatchRefused) hcsd
  exact ⟨_, hexec, hstore, hagain, hcount, htiu, hnode⟩

/-! ## The switch of direction (R117) -/

theorem csd_dispatched (s : State) (e : CustodyEntry) (d : Side) :
    (dispatched s e d).csd
      = { s.csd with
          store := changeEntry s.csd.store e.sequence (fun x => { x with state := .dispatching d })
          counts := { s.csd.counts with tollDispatches := satInc s.csd.counts.tollDispatches } } := by
  unfold dispatched State.countCsd State.changeEntry
  dsimp only
  rw [csd_offerEffect]

/-- R115: the in-flight count after a dispatch. -/
theorem inFlight_after (hmem : e ∈ s.csd.store) (hqueued : e.state = .queued) (d : Side) :
    inFlight s.csd.store + 1 ≤ inFlight (dispatched s e d).csd.store := by
  rw [csd_dispatched]
  exact inFlight_dispatched hmem hqueued d

theorem inFlight_switched (s : State) (e : CustodyEntry) : inFlight (switched s e).csd.store = inFlight s.csd.store := by
  show List.countP _ (List.map _ _) = List.countP _ _
  rw [List.countP_map]
  refine List.countP_congr (fun x _ => ?_)
  rw [Function.comp_apply]
  split
  · exact Iff.rfl
  · exact Iff.rfl

theorem mem_switched (hmem : e ∈ s.csd.store) : { e with sameDirection := 0 } ∈ (switched s e).csd.store :=
  List.mem_map.2 ⟨e, hmem, if_pos rfl⟩

theorem eachNamed_switched (s : State) (e : CustodyEntry) :
    EachNamed e.sequence (fun x => x.sameDirection = 0) (switched s e) := by
  have hany : EachNamed e.sequence (fun _ => True) s := fun _ _ _ => trivial
  exact hany.changeEntry_same (f := fun x => { x with sameDirection := 0 }) (fun _ _ => rfl)

/-! ## The retry and the acknowledgement (R120, R123) -/

theorem exec_custodyRetryExpiry (hworks : s.gantryWorks = true) (hfind : findEntry s e.sequence = some e)
    (hsent : e.state = .sent) (hretry : e.retry.isSome = true) :
    exec (.custodyRetryExpiry e.sequence) s = .next (ended s (retryExpired s e.sequence)) := by
  refine exec_done _ ((if_pos hworks).trans ?_)
  rw [hfind]
  exact if_pos ⟨hsent, hretry⟩

theorem mem_tollAck (p : Port) (c : CellData) : (Instr.tollAck p c, Kind.tollAck) ∈ dataCommands p c :=
  .tail _ (.head _)

theorem exec_tollAck (hgrant : cellGranted s p (cellOf .tollAck c) = true) (htarget : c.target = s.station) :
    ∃ v, exec (.tollAck p c) s = .next (ended s (consumeAck (cellOf .tollAck c) (met s p v))) ∧ Admitted s p v :=
  exec_data_consumed (mem_tollAck p c) hgrant (by rw [consumedHere, htarget, beq_self_eq_true, Bool.true_or])

theorem consumeAck_fitted (h : gantryFitted s.straps = true) : consumeAck x s = takeAck s x.reference := if_pos h

theorem consumeAck_unfitted (h : gantryFitted s.straps = false) : consumeAck x s = countNoConsumer s :=
  if_neg (by rw [h]; exact Bool.false_ne_true)

theorem csd_removeEntry (s : State) (e : CustodyEntry) :
    (removeEntry s e).csd
      = { s.csd with
          store := s.csd.store.filter (fun x => x.sequence != e.sequence)
          counts := { s.csd.counts with acksTaken := satInc s.csd.counts.acksTaken } } := by
  unfold removeEntry
  dsimp only
  split
  · rfl
  · rfl

/-- R123: an acknowledged entry leaves the store. -/
theorem takeAck_found (hfind : findEntry s q = some e) :
    (takeAck s q).csd.store.map (fun x => (x.sequence, x.body))
        = (s.csd.store.filter (fun x => x.sequence != q)).map (fun x => (x.sequence, x.body))
      ∧ (takeAck s q).csd.counts.acksTaken = satInc s.csd.counts.acksTaken := by
  have hnamed : e.sequence = q := by
    have hseq := List.find?_some hfind
    exact beq_iff_eq.1 hseq
  have htaken : takeAck s q = dispatchPass (evalFlow (removeEntry s e)) := by
    unfold takeAck
    rw [hfind]
  obtain ⟨hstore, _, hcounts⟩ := sameRecords_dispatchPass (evalFlow (removeEntry s e))
  rw [csd_evalFlow, csd_removeEntry, hnamed] at hstore
  have hacks := congrArg CsdCounts.acksTaken hcounts
  rw [csd_evalFlow, csd_removeEntry] at hacks
  rw [htaken]
  exact ⟨hstore, hacks⟩

theorem takeAck_late (hfind : findEntry s q = none) :
    takeAck s q = s.countCsd (fun n => { n with lateAck := satInc n.lateAck }) := by
  unfold takeAck
  rw [hfind]

end

/-- Settles O43. -/
theorem custodyIsDispatchedRetriedAndEnded : Obligations.CustodyIsDispatchedRetriedAndEnded := by
  refine ⟨fun e d s hworks htimer hroom hold hstay hnearest => ⟨fun htakes => ?_, fun habsent => ?_, fun hin hfull => ?_,
      fun hin hplace hpool => ?_⟩, fun e d s hworks htimer hroom hold hlast hfour hvalid htakes => ?_,
    fun e s hworks hfind hsent hretry => ?_, fun p c s hgrant htarget => ⟨fun hfitted e hfind => ?_,
      fun hfitted hfind => ?_, fun hunfitted => ?_⟩⟩
  · have hany : EachNamed e.sequence (fun _ => True) (timerSpent s) := fun _ _ _ => trivial
    obtain ⟨u, more, hexec, hqueue, hnamed, hu⟩ := exec_dispatched (P := fun x => x.state = .dispatching d) hworks htimer
      hroom hold (directed_nearest (s := timerSpent s) hstay hnearest) (within_withCsd s _) htakes
      (fun x hx hqueued => nomatch hx.symm.trans hqueued) (hany.dispatched_same (fun _ _ => rfl))
    refine ⟨u, more, hexec, hqueue, ?_, hnamed⟩
    obtain ⟨hstore, _, _⟩ := (sameRecords_dispatched (timerSpent s) e d).trans (sameRecords_passSteps 16 _)
    have hkept : (e.sequence, e.body) ∈ u.csd.store.map (fun x => (x.sequence, x.body)) := by
      rw [hu, ended_csd, hstore]
      exact List.mem_map.2 ⟨e, (oldestQueued_spec hold).1, rfl⟩
    obtain ⟨x, hx, heq⟩ := List.mem_map.1 hkept
    obtain ⟨hseq, hbody⟩ := Prod.mk.inj heq
    exact ⟨x, hx, hseq, hbody⟩
  · have hanswer : offerAnswer (timerSpent s) d (recordCell s e) = .noSide := offerAnswer_of_absent habsent
    obtain ⟨t, hexec, hstore, hagain, hcount, htiu, _⟩ := exec_dispatch_refused hworks htimer hroom hold hstay hnearest
      (by rw [hanswer]; exact nofun)
    rw [offerEffect_of_absent hanswer] at htiu
    exact ⟨t, hexec, htiu, hstore, hagain, hcount⟩
  · have hanswer : offerAnswer (timerSpent s) d (recordCell s e) = .queueFull := offerAnswer_of_full hin hfull
    obtain ⟨t, hexec, hstore, hagain, hcount, htiu, hnode⟩ := exec_dispatch_refused hworks htimer hroom hold hstay hnearest
      (by rw [hanswer]; exact nofun)
    rw [offerEffect_of_full hanswer] at htiu hnode
    refine ⟨t, hexec, hnode, hstore, hagain, hcount, ?_⟩
    rw [State.side, htiu]
    exact setSide_side (timerSpent s) d _
  · have hanswer : offerAnswer (timerSpent s) d (recordCell s e) = .pool := by
      rw [offerAnswer_of_reserved (s := timerSpent s) (x := recordCell s e) hin hplace rfl]
      exact if_neg (by
        rw [Bool.or_eq_true, decide_eq_true_eq]
        exact fun h => h.elim (fun hlink => nomatch hlink) (fun hfloor => Nat.not_le.2 hpool hfloor))
    obtain ⟨t, hexec, hstore, hagain, hcount, htiu, hnode⟩ := exec_dispatch_refused hworks htimer hroom hold hstay hnearest
      (by rw [hanswer]; exact nofun)
    rw [offerEffect_of_pool hanswer] at htiu hnode
    exact ⟨t, hexec, htiu, hstore, hagain, hcount, hnode⟩
  · have hdirected : directed (timerSpent s) e = some (otherSide d, switched (timerSpent s) e) :=
      directed_switch (switchSide_of (s := timerSpent s) hlast hfour hvalid)
    obtain ⟨u, more, hexec, hqueue, hnamed, hu⟩ := exec_dispatched
      (P := fun x => x.state = .dispatching (otherSide d) ∧ x.sameDirection = 0) hworks htimer hroom hold hdirected
      ((within_withCsd s _).trans (within_switched (timerSpent s) e)) htakes (fun x hx hqueued => nomatch hx.1.symm.trans hqueued)
      ((eachNamed_switched (timerSpent s) e).dispatched_same (fun _ h => ⟨rfl, h⟩))
    refine ⟨u, more, hexec, hqueue, hnamed, fun hfifteen => ?_⟩
    obtain ⟨hmem, hqueued⟩ := oldestQueued_spec hold
    have hfull : 16 ≤ inFlight (dispatched (switched (timerSpent s) e) e (otherSide d)).csd.store := by
      have hafter := inFlight_after (s := switched (timerSpent s) e) (mem_switched (s := timerSpent s) hmem) hqueued
        (otherSide d)
      rw [inFlight_switched, show inFlight (timerSpent s).csd.store = 15 from hfifteen] at hafter
      rw [csd_dispatched] at hafter ⊢
      exact hafter
    rw [hu, passSteps_full hfull, ended_csd, csd_dispatched]
    exact ⟨rfl, rfl⟩
  · refine ⟨_, exec_custodyRetryExpiry hworks hfind hsent hretry, ?_, fun hunreached => ?_⟩
    · obtain ⟨_, _, hcounts⟩ := sameRecords_dispatchPass
        ((s.changeEntry e.sequence queueEntry).countCsd (fun n => { n with retryExpiries := satInc n.retryExpiries }))
      rw [ended_csd, retryExpired]
      have hretries := congrArg CsdCounts.retryExpiries hcounts
      exact hretries
    · rw [ended_csd, retryExpired, dispatchPass_of_unreached (by exact hunreached)]
      rfl
  · obtain ⟨v, hexec, _⟩ := exec_tollAck hgrant htarget
    rw [consumeAck_fitted (s := met s p v) hfitted] at hexec
    obtain ⟨hstore, hacks⟩ := takeAck_found (s := met s p v) (q := c.reference) hfind
    refine ⟨_, hexec, ?_, ?_⟩
    · rw [ended_csd]
      exact hstore
    · rw [ended_csd]
      exact hacks
  · obtain ⟨v, hexec, _⟩ := exec_tollAck hgrant htarget
    rw [consumeAck_fitted (s := met s p v) hfitted,
      show takeAck (met s p v) (cellOf .tollAck c).reference = _ from takeAck_late (s := met s p v) hfind] at hexec
    exact ⟨_, hexec, within_ended (parts := [.inHand, .ports, .csd]) ((within_met s p v).seq (within_countCsd _ _)), rfl⟩
  · obtain ⟨v, hexec, _⟩ := exec_tollAck hgrant htarget
    rw [consumeAck_unfitted (s := met s p v) hunfitted] at hexec
    exact ⟨_, hexec, within_ended (parts := [.inHand, .ports, .node]) ((within_met s p v).seq (within_countNode _ _)), rfl⟩

end Sys2Proof.Machine
end

section
/-! PROOFS. A side that leaves service: what the flush, the Reach Table and the custody store leave (R34, R53, R56, R65,
R121). -/

set_option Elab.async false

namespace Sys2Proof.Machine

/-- `w` is `v` with CALL cells queued behind those of `v`, and refusals counted. -/
def CallsQueued (v w : Tiu) : Prop :=
  ∃ more q n,
    w = { v with insCall := v.insCall ++ more, counts := { v.counts with queueRefusedCall := q, voiceUnreserved := n } }

/-- `w` is `v` with TOLL cells queued behind those of `v`, and refusals counted. -/
def TollsQueued (v w : Tiu) : Prop :=
  ∃ more q n,
    w = { v with insToll := v.insToll ++ more, counts := { v.counts with queueRefusedToll := q, voiceUnreserved := n } }

section
variable {s t u : State} {p : Port} {d b : Side} {x : Cell} {v w y : Tiu} {e : CustodyEntry} {n : Nat}

/-! ## Offers -/

theorem CallsQueued.refl (v : Tiu) : CallsQueued v v :=
  ⟨[], v.counts.queueRefusedCall, v.counts.voiceUnreserved, by rw [List.append_nil]⟩

theorem CallsQueued.trans (h : CallsQueued v w) (k : CallsQueued w y) : CallsQueued v y := by
  obtain ⟨more, q, n, rfl⟩ := h
  obtain ⟨more', q', n', rfl⟩ := k
  exact ⟨more ++ more', q', n', by rw [List.append_assoc]⟩

theorem TollsQueued.refl (v : Tiu) : TollsQueued v v :=
  ⟨[], v.counts.queueRefusedToll, v.counts.voiceUnreserved, by rw [List.append_nil]⟩

theorem TollsQueued.trans (h : TollsQueued v w) (k : TollsQueued w y) : TollsQueued v y := by
  obtain ⟨more, q, n, rfl⟩ := h
  obtain ⟨more', q', n', rfl⟩ := k
  exact ⟨more ++ more', q', n', by rw [List.append_assoc]⟩

/-- R45: what an offer leaves of a side: nothing new, the cell in its queue, or a refusal counted. -/
theorem offerEffect_side (s : State) (d : Side) (x : Cell) (b : Side) :
    (offerEffect s d x).side b = s.side b ∨ (offerEffect s d x).side b = insPush (s.side b) x
      ∨ (offerEffect s d x).side b
        = { s.side b with counts := countQueueRefused (s.side b).counts (cellClass x) }
      ∨ (offerEffect s d x).side b
        = { s.side b with
            counts := { (s.side b).counts with voiceUnreserved := satInc (s.side b).counts.voiceUnreserved } } := by
  by_cases hb : b = d
  · subst hb
    cases hanswer : offerAnswer s b x with
    | taken => exact .inr (.inl (offerEffect_taken s b x hanswer).1)
    | noSide => exact .inl (by rw [offerEffect_of_absent hanswer]; rfl)
    | queueFull =>
      refine .inr (.inr (.inl ?_))
      rw [offerEffect_of_full hanswer]
      exact setSide_side s b _
    | voiceUnreserved =>
      refine .inr (.inr (.inr ?_))
      rw [offerEffect_of_unreserved hanswer]
      exact setSide_side s b _
    | pool => exact .inl (by rw [offerEffect_of_pool hanswer]; rfl)
  · rw [eq_otherSide hb]
    exact .inl (offerEffect_other s d x)

/-- R45: a side out of service is left as it is. -/
theorem offerEffect_absent (h : s.inService b = false) (d : Side) (x : Cell) :
    (offerEffect s d x).side b = s.side b := by
  by_cases hb : b = d
  · subst hb
    rw [offerEffect_of_absent (offerAnswer_of_absent h)]
    rfl
  · rw [eq_otherSide hb]
    exact offerEffect_other s d x

theorem callsQueued_offerEffect (hclass : cellClass x = .call) (s : State) (d b : Side) :
    CallsQueued (s.side b) ((offerEffect s d x).side b) := by
  rcases offerEffect_side s d x b with h | h | h | h
  · rw [h]
    exact .refl _
  · rw [h, insPush, hclass]
    exact ⟨[x], (s.side b).counts.queueRefusedCall, (s.side b).counts.voiceUnreserved, rfl⟩
  · rw [h, hclass]
    exact ⟨[], satInc (s.side b).counts.queueRefusedCall, (s.side b).counts.voiceUnreserved, by rw [List.append_nil]; rfl⟩
  · rw [h]
    exact ⟨[], (s.side b).counts.queueRefusedCall, satInc (s.side b).counts.voiceUnreserved, by rw [List.append_nil]⟩

theorem tollsQueued_offerEffect (hclass : cellClass x = .toll) (s : State) (d b : Side) :
    TollsQueued (s.side b) ((offerEffect s d x).side b) := by
  rcases offerEffect_side s d x b with h | h | h | h
  · rw [h]
    exact .refl _
  · rw [h, insPush, hclass]
    exact ⟨[x], (s.side b).counts.queueRefusedToll, (s.side b).counts.voiceUnreserved, rfl⟩
  · rw [h, hclass]
    exact ⟨[], satInc (s.side b).counts.queueRefusedToll, (s.side b).counts.voiceUnreserved, by rw [List.append_nil]; rfl⟩
  · rw [h]
    exact ⟨[], (s.side b).counts.queueRefusedToll, satInc (s.side b).counts.voiceUnreserved, by rw [List.append_nil]⟩

theorem inService_offerEffect (s : State) (d : Side) (x : Cell) (b : Side) :
    (offerEffect s d x).inService b = s.inService b := (Steady.offerEffect (s := s) d x).settled.inService b

/-! ## The custody store's pass (R116, R121) -/

/-- What a dispatch pass leaves of the sides, and that it directs no record to a side whose entry is INVALID. -/
structure Dispatches (s t : State) : Prop where
  service : ∀ b, t.inService b = s.inService b
  entries : ∀ b, t.entry b = s.entry b
  side : ∀ b, TollsQueued (s.side b) (t.side b)
  absent : ∀ b, s.inService b = false → t.side b = s.side b
  toward : ∀ b, (s.entry b).valid = false → (∀ x ∈ s.csd.store, towardSide b x = false) →
    ∀ x ∈ t.csd.store, towardSide b x = false

theorem Dispatches.refl (s : State) : Dispatches s s :=
  ⟨fun _ => rfl, fun _ => rfl, fun _ => .refl _, fun _ _ => rfl, fun _ _ h => h⟩

theorem Dispatches.trans (h : Dispatches s t) (k : Dispatches t u) : Dispatches s u := by
  refine ⟨fun b => (k.service b).trans (h.service b), fun b => (k.entries b).trans (h.entries b),
    fun b => (h.side b).trans (k.side b), fun b hb => ?_, fun b hb hs => ?_⟩
  · exact (k.absent b ((h.service b).trans hb)).trans (h.absent b hb)
  · exact k.toward b (by rw [h.entries b]; exact hb) (h.toward b hb hs)

theorem dispatches_of_csd {parts : List Part} (h : Within parts s t)
    (k : [Part.straps, .ports, .tiu, .reach].all (fun q => !parts.contains q) = true)
    (htoward : ∀ b, (s.entry b).valid = false → (∀ x ∈ s.csd.store, towardSide b x = false) →
      ∀ x ∈ t.csd.store, towardSide b x = false) : Dispatches s t := by
  have hout (q : Part) (hq : q ∈ [Part.straps, .ports, .tiu, .reach]) : q ∉ parts := by
    intro hmem
    have hclear := List.all_eq_true.mp k q hq
    rw [List.contains_iff_mem.mpr hmem] at hclear
    cases hclear
  have hside (b : Side) : t.side b = s.side b := side_of_within h (hout .tiu (by decide)) b
  exact ⟨fun b => service_of_within h (hout .straps (by decide)) (hout .ports (by decide)) b,
    fun b => entry_of_within h (hout .reach (by decide)) b, fun b => by rw [hside]; exact .refl _, fun b _ => hside b,
    htoward⟩

theorem dispatches_offer (hclass : cellClass x = .toll) (s : State) (d : Side) : Dispatches s (offerEffect s d x) :=
  ⟨inService_offerEffect s d x, fun b => entry_of_within (within_offerEffect s d x) (by decide) b,
    tollsQueued_offerEffect hclass s d, fun _ hb => offerEffect_absent hb d x,
    fun b _ hs => by rw [csd_offerEffect]; exact hs⟩

/-- A change of the entries of a sequence sends none of them toward `b`. -/
theorem toward_changeEntry {q : Half} {f : CustodyEntry → CustodyEntry}
    (hf : ∀ x, towardSide b x = false → towardSide b (f x) = false)
    (hs : ∀ x ∈ s.csd.store, towardSide b x = false) : ∀ x ∈ (s.changeEntry q f).csd.store, towardSide b x = false := by
  intro x hx
  obtain ⟨z, hz, rfl⟩ := List.mem_map.1 hx
  split
  · exact hf z (hs z hz)
  · exact hs z hz

/-- R67: the nearest gateway lies beyond a VALID entry. -/
theorem nearest_valid (h : s.nearest = some d) : (s.entry d).valid = true := by
  cases hup : (s.entry .up).valid with
  | true =>
    cases hdown : (s.entry .down).valid with
    | true =>
      cases d with
      | up => exact hup
      | down => exact hdown
    | false =>
      rw [nearest_of_only_up_valid hup hdown] at h
      cases h
      exact hup
  | false =>
    cases hdown : (s.entry .down).valid with
    | true =>
      rw [nearest_of_only_down_valid hup hdown] at h
      cases h
      exact hdown
    | false =>
      rw [nearest_of_none_valid hup hdown] at h
      cases h

theorem dispatches_directed (h : directed s e = some (d, t)) : Dispatches s t ∧ (s.entry d).valid = true := by
  unfold directed at h
  split at h
  · next x hswitch =>
    cases h
    refine ⟨dispatches_of_csd (within_switched s e) (by decide) (fun b _ hs => ?_), ?_⟩
    · exact toward_changeEntry (s := s) (f := fun x => { x with sameDirection := 0 }) (fun _ h => h) hs
    · unfold switchSide at hswitch
      split at hswitch
      · split at hswitch
        · next hvalid =>
          cases hswitch
          exact hvalid.2
        · cases hswitch
      · cases hswitch
  · split at h
    · next x hnearest =>
      cases h
      exact ⟨.refl s, nearest_valid hnearest⟩
    · cases h

theorem dispatches_dispatched (hvalid : (s.entry d).valid = true) : Dispatches s (dispatched s e d) := by
  refine (dispatches_offer (x := recordCell s e) rfl s d).trans (dispatches_of_csd (parts := [.csd]) ?_ (by decide)
    (fun b hb hs => ?_))
  · exact (within_changeEntry _ e.sequence _).trans (within_countCsd _ _)
  · rw [entry_of_within (within_offerEffect s d _) (by decide)] at hb
    have hne : d ≠ b := fun heq => Bool.false_ne_true (hb.symm.trans (heq ▸ hvalid))
    exact toward_changeEntry (s := offerEffect s d (recordCell s e)) (f := fun x => { x with state := .dispatching d })
      (fun _ _ => beq_false_of_ne hne) hs

theorem dispatches_refused : Dispatches s (dispatchRefusal s e d) := by
  refine (dispatches_offer (x := recordCell s e) rfl s d).trans (dispatches_of_csd (parts := [.csd]) ?_ (by decide)
    (fun _ _ hs => hs))
  exact (within_countCsd _ _).trans (within_withCsd _ _)

theorem dispatches_passSteps (n : Nat) : ∀ s : State, Dispatches s (passSteps n s) := by
  induction n with
  | zero => exact fun s => .refl s
  | succ n ih =>
    intro s
    unfold passSteps
    split
    · exact .refl s
    · split
      · exact .refl s
      · split
        · exact .refl s
        · next d t hdirected =>
          obtain ⟨ht, hvalid⟩ := dispatches_directed hdirected
          rw [← ht.entries d] at hvalid
          split
          · exact (ht.trans (dispatches_dispatched hvalid)).trans (ih _)
          · exact ht.trans dispatches_refused

theorem dispatches_dispatchPass (s : State) : Dispatches s (dispatchPass s) := by
  unfold dispatchPass
  split
  · exact dispatches_passSteps _ s
  · exact .refl s

theorem setSide_self (s : State) (d : Side) : s.setSide d (s.side d) = s := by
  cases d with
  | up => rfl
  | down => rfl

/-- R47: a side whose TOLL queue is empty has nothing to withdraw. -/
theorem withdraw_of_empty (h : (s.side d).insToll = []) (q : Half) : withdraw s d q = s := by
  have hsame : { s.side d with insToll := (s.side d).insToll.eraseP (isRecord q) } = s.side d := by
    rw [h]
    exact congrArg (fun z => { s.side d with insToll := z }) h.symm
  rw [withdraw, hsame, setSide_self]

theorem withdrawAll_of_empty (h : (s.side d).insToll = []) (l : List Half) :
    l.foldl (fun x q => withdraw x d q) s = s := by
  induction l with
  | nil => rfl
  | cons q l ih => rw [List.foldl_cons, withdraw_of_empty h, ih]

/-- R122: REACH-LOST finds nothing to withdraw in a side whose TOLL queue is empty. -/
theorem custodyReachLost_of_empty (h : (s.side d).insToll = []) : custodyReachLost s d = s := by
  have hwaits (q : Half) : recordWaits s d q = false := by
    rw [recordWaits, h]
    rfl
  have hfold (l : List Half) : l.foldl (reachWithdraw d) s = s := by
    induction l with
    | nil => rfl
    | cons q l ih => rw [List.foldl_cons, reachWithdraw, hwaits, if_neg Bool.false_ne_true, ih]
  have hnone (l : List Half) : l.any (recordWaits s d) = false := by
    rw [List.any_eq_false]
    exact fun q _ => by rw [hwaits]; exact Bool.false_ne_true
  unfold custodyReachLost
  split
  · dsimp only
    rw [hnone, if_neg Bool.false_ne_true, hfold]
  · rfl

/-- R121: the state in which the pass of PORT-DOWN is made. -/
def requeued (s : State) (d : Side) : State :=
  { s with csd := { s.csd with
      store := s.csd.store.map (fun e => if towardSide d e then queueEntry e else e)
      counts := { s.csd.counts with
        portWithdrawals := satAdd s.csd.counts.portWithdrawals (s.csd.store.countP (towardSide d)) } } }

theorem custodyPortDown_of_empty (h : (s.side d).insToll = []) :
    custodyPortDown s d = if gantryFitted s.straps then dispatchPass (requeued s d) else s := by
  unfold custodyPortDown
  rw [withdrawAll_of_empty h]
  rfl

theorem requeued_toward (s : State) (d : Side) : ∀ e ∈ (requeued s d).csd.store, towardSide d e = false := by
  intro e he
  obtain ⟨x, _, rfl⟩ := List.mem_map.1 he
  split
  · rfl
  · next h => exact Bool.eq_false_iff.2 h

/-- R121: what the custody store leaves of the sides when a side out of service goes down, and of its own entries. -/
theorem custodyPortDown_leaves (h : (s.side d).insToll = []) (hinvalid : (s.entry d).valid = false) :
    (∀ b, (custodyPortDown s d).inService b = s.inService b)
      ∧ (∀ b, TollsQueued (s.side b) ((custodyPortDown s d).side b))
      ∧ (∀ b, s.inService b = false → (custodyPortDown s d).side b = s.side b)
      ∧ (gantryFitted s.straps = true → ∀ e ∈ (custodyPortDown s d).csd.store, towardSide d e = false) := by
  rw [custodyPortDown_of_empty h]
  split
  · have hpass := dispatches_dispatchPass (requeued s d)
    exact ⟨hpass.service, hpass.side, hpass.absent, fun _ => hpass.toward d hinvalid (requeued_toward s d)⟩
  · next hunfitted => exact ⟨fun _ => rfl, fun _ => .refl _, fun _ _ => rfl, fun hfitted => absurd hfitted hunfitted⟩

end

end Sys2Proof.Machine
end

section
/-! PROOFS. A side that leaves service: what the call circuits leave of the sides and of the tables (R89, R92, R98). -/

set_option Elab.async false

namespace Sys2Proof.Machine

/-- What the call circuits' own work leaves: CALL cells queued in sides in service, and no table of a side whose entry is
INVALID lengthened. -/
structure CircuitWork (s t : State) : Prop where
  straps : t.straps = s.straps
  service : ∀ b, t.inService b = s.inService b
  entries : ∀ b, t.entry b = s.entry b
  side : ∀ b, CallsQueued (s.side b) (t.side b)
  absent : ∀ b, s.inService b = false → t.side b = s.side b
  table : ∀ b, (s.entry b).valid = false → (t.table b).Sublist (s.table b)

section
variable {s t u : State} {d b : Side} {x : Cell} {e : SrtEntry} {l : Line} {r : CallRecord} {n : Nat}

theorem CircuitWork.refl (s : State) : CircuitWork s s :=
  ⟨rfl, fun _ => rfl, fun _ => rfl, fun _ => .refl _, fun _ _ => rfl, fun _ _ => .refl _⟩

theorem CircuitWork.trans (h : CircuitWork s t) (k : CircuitWork t u) : CircuitWork s u := by
  refine ⟨k.straps.trans h.straps, fun b => (k.service b).trans (h.service b),
    fun b => (k.entries b).trans (h.entries b), fun b => (h.side b).trans (k.side b), fun b hb => ?_, fun b hb => ?_⟩
  · exact (k.absent b ((h.service b).trans hb)).trans (h.absent b hb)
  · exact (k.table b (by rw [h.entries b]; exact hb)).trans (h.table b hb)

theorem CircuitWork.ite {c : Prop} [Decidable c] (ht : CircuitWork s t) (hu : CircuitWork s u) :
    CircuitWork s (if c then t else u) := by
  split
  · exact ht
  · exact hu

theorem circuitWork_of_table {parts : List Part} (h : Within parts s t)
    (k : [Part.straps, .ports, .tiu, .reach].all (fun q => !parts.contains q) = true)
    (htable : ∀ b, (s.entry b).valid = false → (t.table b).Sublist (s.table b)) : CircuitWork s t := by
  have hout (q : Part) (hq : q ∈ [Part.straps, .ports, .tiu, .reach]) : q ∉ parts := by
    intro hmem
    have hclear := List.all_eq_true.mp k q hq
    rw [List.contains_iff_mem.mpr hmem] at hclear
    cases hclear
  have hside (b : Side) : t.side b = s.side b := side_of_within h (hout .tiu (by decide)) b
  exact ⟨h .straps (hout .straps (by decide)),
    fun b => service_of_within h (hout .straps (by decide)) (hout .ports (by decide)) b,
    fun b => entry_of_within h (hout .reach (by decide)) b, fun b => by rw [hside]; exact .refl _, fun b _ => hside b,
    htable⟩

theorem circuitWork_of_shrink {parts : List Part} (h : Within parts s t) (hshrink : TablesShrink s t)
    (k : [Part.straps, .ports, .tiu, .reach].all (fun q => !parts.contains q) = true := by rfl) : CircuitWork s t :=
  circuitWork_of_table h k (fun b _ => hshrink b)

theorem circuitWork_of_within {parts : List Part} (h : Within parts s t) (hsrt : Part.srt ∉ parts := by decide)
    (k : [Part.straps, .ports, .tiu, .reach].all (fun q => !parts.contains q) = true := by rfl) : CircuitWork s t :=
  circuitWork_of_shrink h (.of_within h hsrt) k

/-! ## Cells, notices and releases -/

theorem circuitWork_offer (hclass : cellClass x = .call) (s : State) (d : Side) : CircuitWork s (offerEffect s d x) :=
  ⟨within_offerEffect s d x .straps (by decide), inService_offerEffect s d x,
    fun b => entry_of_within (within_offerEffect s d x) (by decide) b, callsQueued_offerEffect hclass s d,
    fun _ hb => offerEffect_absent hb d x,
    fun b _ => sublist_of_eq (table_of_within (within_offerEffect s d x) (by decide) b)⟩

theorem circuitWork_control (hclass : cellClass x = .call) (s : State) (d : Side) : CircuitWork s (offerControl s d x) :=
  .ite (circuitWork_offer hclass s d) ((circuitWork_offer hclass s d).trans (circuitWork_of_within (within_countCcu _ _)))

theorem circuitWork_makeBroken (s : State) (d : Side) (a : Byte) (id : Identity) (g : Byte) (z : BrokenReason) :
    CircuitWork s (makeBroken s d a id g z) :=
  (circuitWork_of_within (within_countCcu s _)).trans
    (circuitWork_control (x := callCell s.station .callBroken a id g (brokenCode z)) rfl _ d)

theorem circuitWork_releaseEntry (s : State) (d : Side) (id : Identity) : CircuitWork s (releaseEntry s d id) :=
  circuitWork_of_shrink (within_releaseEntry s d id) (shrink_releaseEntry s d id)

theorem circuitWork_releaseBoth (s : State) (id : Identity) : CircuitWork s (releaseBoth s id) :=
  circuitWork_of_shrink (within_releaseBoth s id) (shrink_releaseBoth s id)

theorem circuitWork_releaseOwn (s : State) (r : CallRecord) : CircuitWork s (releaseOwn s r) :=
  circuitWork_of_shrink (within_releaseOwn s r) (shrink_releaseOwn s r)

theorem circuitWork_setLine (s : State) (l : Line) (y : PhoneLine) : CircuitWork s (s.setLine l y) :=
  circuitWork_of_within (within_setLine s l y)

theorem circuitWork_endChainLost (s : State) (d : Side) (e : SrtEntry) : CircuitWork s (endChainLost s d e) := by
  have hreleased := circuitWork_releaseEntry s d e.identity
  unfold endChainLost
  dsimp only
  split
  · exact (hreleased.trans (circuitWork_of_within (within_setChannel _ _ .free))).trans
      (circuitWork_of_within (within_giveNotice _ _))
  · exact hreleased

/-! ## Attempts -/

/-- R82: an attempt is made out of a side whose entry is VALID. -/
theorem recordDirection_valid (h : recordDirection s r = some d) : (s.entry d).valid = true := by
  have hexcluding {a : Side} (h : s.nearestExcluding a = some d) : (s.entry d).valid = true := by
    rw [nearestExcluding_eq] at h
    split at h
    · next hvalid =>
      cases h
      exact hvalid
    · cases h
  unfold recordDirection at h
  split at h
  · exact nearest_valid h
  · exact hexcluding h
  · exact hexcluding h
  · cases h

theorem circuitWork_preemptEntry (s : State) (d : Side) (e : SrtEntry) : CircuitWork s (preemptEntry s d e) := by
  have hcounted (f : CcuCounts → CcuCounts) : CircuitWork s (s.countCcu f) := circuitWork_of_within (within_countCcu s f)
  unfold preemptEntry
  dsimp only
  split
  · exact (((hcounted _).trans (circuitWork_releaseBoth _ _)).trans (circuitWork_makeBroken _ _ _ _ _ _)).trans
      (circuitWork_makeBroken _ _ _ _ _ _)
  · exact (hcounted _).trans (circuitWork_releaseEntry _ d e.identity)
  · exact (hcounted _).trans (circuitWork_releaseEntry _ d e.identity)

theorem circuitWork_ownRoom {may : Bool} {k : Spoken} {v : Option Line} (h : ownRoom may k s d r = some (t, v)) :
    CircuitWork s t := by
  unfold ownRoom at h
  split at h
  · cases h
    exact .refl s
  · split at h
    · split at h
      · cases h
        exact circuitWork_preemptEntry s d _
      · cases h
    · cases h

/-- R82: a reservation lengthens the table of a side whose entry is VALID. -/
theorem circuitWork_reserveOwn (hvalid : (s.entry d).valid = true) : CircuitWork s (reserveOwn s l d r) := by
  refine circuitWork_of_table (parts := [.srt, .lines]) ((within_setTable s d _).seq (within_takeSerial _ l r)) (by rfl)
    (fun b hb => ?_)
  have hne : b ≠ d := by
    intro heq
    rw [heq, hvalid] at hb
    cases hb
  exact sublist_of_eq (by rw [table_reserveOwn, if_neg hne])

theorem circuitWork_attemptSteps {may : Bool} {k : Spoken} {broken : Spoken → State → Line → State}
    (hbroken : ∀ k s l, CircuitWork s (broken k s l)) (n : Nat) :
    ∀ s l r, CircuitWork s (attemptSteps may k broken n s l r) := by
  have hwaiting (s : State) (l : Line) (r : CallRecord) : CircuitWork s (enterWaiting s l r) :=
    circuitWork_of_within (within_enterWaiting s l r)
  induction n with
  | zero => exact hwaiting
  | succ n ih =>
    intro s l r
    unfold attemptSteps
    split
    · exact hwaiting s l r
    · next d hdirection =>
      split
      · exact ih _ _ _
      · next t v hroom =>
        have hsettled : CircuitWork s (settleVictim (broken (spokenOwn d)) t v) := by
          refine (circuitWork_ownRoom hroom).trans ?_
          cases v with
          | none => exact .refl t
          | some m => exact hbroken (spokenOwn d) t m
        have hvalid : ((settleVictim (broken (spokenOwn d)) t v).entry d).valid = true := by
          rw [hsettled.entries]
          exact recordDirection_valid hdirection
        have hreserved := hsettled.trans (circuitWork_reserveOwn (l := l) (r := r) hvalid)
        dsimp only
        generalize settleVictim (broken (spokenOwn d)) t v = y at hreserved
        have hoffered := hreserved.trans
          (circuitWork_offer (x := setupCell (reserveOwn y l d r) (nextIdentity y l) r.grade) rfl _ d)
        split
        · exact (hoffered.trans (circuitWork_of_within (within_setRecord _ l _))).trans
            (circuitWork_of_within (within_countLine _ l _))
        · exact (hoffered.trans (circuitWork_releaseEntry _ d _)).trans (ih _ _ _)

theorem circuitWork_officeAttempt (s : State) (l : Line) (r : CallRecord) : CircuitWork s (officeAttempt s l r) :=
  circuitWork_of_within (officeAttempt_parts s l r)

theorem circuitWork_breakRecord {att : State → Line → CallRecord → State} (hatt : ∀ s l r, CircuitWork s (att s l r))
    (s : State) (l : Line) : CircuitWork s (breakRecord att s l) := by
  unfold breakRecord
  split
  · exact .ite (((circuitWork_releaseOwn s _).trans (circuitWork_setLine _ l _)).trans (hatt _ _ _)) (.refl s)
  · exact .refl s

theorem circuitWork_preemptedRecord (k : Spoken) (s : State) (l : Line) : CircuitWork s (preemptedRecord k s l) :=
  circuitWork_breakRecord (fun s l r =>
    .ite (circuitWork_officeAttempt s l r) (circuitWork_attemptSteps (fun _ t _ => .refl t) 3 s l r)) s l

theorem circuitWork_recordBroken (s : State) (l : Line) : CircuitWork s (recordBroken s l) :=
  circuitWork_breakRecord (fun s l r =>
    .ite (circuitWork_officeAttempt s l r) (circuitWork_attemptSteps circuitWork_preemptedRecord 3 s l r)) s l

/-! ## PORT-DOWN (R98) -/

theorem circuitWork_breakEntry (d : Side) (s : State) (e : SrtEntry) : CircuitWork s (breakEntry d s e) := by
  unfold breakEntry
  split
  · exact (circuitWork_releaseBoth s e.identity).trans (circuitWork_makeBroken _ _ _ _ _ _)
  · exact (circuitWork_releaseEntry s d e.identity).trans (circuitWork_recordBroken _ _)
  · exact circuitWork_endChainLost s d e

theorem circuitWork_breakHeld (d : Side) (s : State) (e : SrtEntry) : CircuitWork s (breakHeld d s e) :=
  .ite (circuitWork_breakEntry d s e) (.refl s)

theorem circuitWork_breakAll (d : Side) (q : List SrtEntry) : ∀ s : State, CircuitWork s (q.foldl (breakHeld d) s) := by
  induction q with
  | nil => exact .refl
  | cons e q ih => exact fun s => (circuitWork_breakHeld d s e).trans (ih _)

theorem circuitWork_portDown (s : State) (d : Side) : CircuitWork s (circuitsPortDown s d) :=
  circuitWork_breakAll d (s.table d) s

/-- R98: a broken call leaves the lost side's table. -/
theorem breakHeld_table (hinvalid : (s.entry d).valid = false) {y : SrtEntry} (hy : y ∈ (breakHeld d s e).table d) :
    y ∈ s.table d ∧ y.identity ≠ e.identity := by
  have hreleased {z : State} (hsub : (z.table d).Sublist (tableWithout (s.table d) e.identity)) (hz : y ∈ z.table d) :
      y ∈ s.table d ∧ y.identity ≠ e.identity := by
    obtain ⟨hmem, hne⟩ := List.mem_filter.1 (hsub.subset hz)
    exact ⟨hmem, bne_iff_ne.1 hne⟩
  have hentry : (releaseEntry s d e.identity).table d = tableWithout (s.table d) e.identity :=
    (releaseEntry_table d).trans (if_pos rfl)
  unfold breakHeld at hy
  split at hy
  · unfold breakEntry at hy
    split at hy
    · refine hreleased ?_ hy
      have htable := releaseBoth_table (s := s) (id := e.identity) d
      exact ((shrink_makeBroken _ _ _ _ _ _) d).trans (sublist_of_eq htable)
    · refine hreleased ?_ hy
      rw [← hentry]
      exact (circuitWork_recordBroken (releaseEntry s d e.identity) e.identity.phone).table d hinvalid
    · refine hreleased ?_ hy
      rw [← hentry]
      unfold endChainLost
      dsimp only
      split
      · exact (TablesShrink.of_within (parts := [.node, .gw])
          ((within_setChannel _ _ _).seq (within_giveNotice _ _)) (by decide)) d
      · exact List.Sublist.refl _
  · next hnamed =>
    refine ⟨hy, fun heq => hnamed ?_⟩
    exact List.any_eq_true.2 ⟨y, hy, beq_iff_eq.2 heq⟩

theorem breakAll_table (q : List SrtEntry) :
    ∀ {s : State}, (s.entry d).valid = false → ∀ y ∈ (q.foldl (breakHeld d) s).table d,
      y ∈ s.table d ∧ ∀ e ∈ q, y.identity ≠ e.identity := by
  induction q with
  | nil => exact fun _ y hy => ⟨hy, nofun⟩
  | cons e q ih =>
    intro s hinvalid y hy
    obtain ⟨hmem, hrest⟩ := ih (by rw [(circuitWork_breakHeld d s e).entries]; exact hinvalid) y hy
    obtain ⟨hstood, hne⟩ := breakHeld_table hinvalid hmem
    refine ⟨hstood, fun z hz => ?_⟩
    rcases List.mem_cons.1 hz with rfl | hz
    · exact hne
    · exact hrest z hz

/-- R98: no call is left in the table of a lost side. -/
theorem circuitsPortDown_table (hinvalid : (s.entry d).valid = false) : (circuitsPortDown s d).table d = [] := by
  rw [List.eq_nil_iff_forall_not_mem]
  intro y hy
  obtain ⟨hmem, hne⟩ := breakAll_table (s.table d) hinvalid y hy
  exact hne y hmem rfl

end

end Sys2Proof.Machine
end

section
/-! PROOFS. A side that leaves service: what the TIU and the Reach Table leave (R34, R53, R56, R65). -/

set_option Elab.async false

namespace Sys2Proof.Machine

/-- R34, R56: a port that has gone down, its cell in transmission flushed. -/
def goneDown (v : PortUnit) : PortUnit :=
  { v with sending := none, counts := { v.counts with portDowns := satInc v.counts.portDowns } }

/-- R56: the side of port `p` flushed, its port in the state of `v`. -/
def emptied (s : State) (p : Port) (v : PortUnit) : State :=
  (s.setSide (s.sideOf p) (flushedTiu (s.side (s.sideOf p)) v.sending)).setPort p (goneDown v)

/-- R53, R56, R65: what the TIU and the Reach Table leave of a side that goes down. -/
def sideLeft (s : State) (p : Port) (v : PortUnit) : State :=
  invalidateEntry (resumeCheck (emptied s p v) (s.sideOf p)) (s.sideOf p)

section
variable {s t u : State} {p : Port} {v : PortUnit} {d : Side} {x y : Tiu}

theorem flushSide_down (s : State) (p : Port) (v : PortUnit) :
    flushSide ((s.setPort p v).countPort p (fun n => { n with portDowns := satInc n.portDowns })) (s.sideOf p)
      = resumeCheck (emptied s p v) (s.sideOf p) := by
  have hcounted : (s.setPort p v).countPort p (fun n => { n with portDowns := satInc n.portDowns })
      = s.setPort p { v with counts := { v.counts with portDowns := satInc v.counts.portDowns } } := by
    rw [State.countPort, setPort_setPort, setPort_port]
  have hport (w : PortUnit) : (s.setPort p w).sidePort (s.sideOf p) = w := by
    rw [State.sidePort, portOf_of_straps (setPort_straps s p w), portOf_sideOf, setPort_port]
  have hpath (w z : PortUnit) (q : Tiu) :
      ((s.setPort p w).setSide (s.sideOf p) q).setPort p z = (s.setSide (s.sideOf p) q).setPort p z :=
    setPort_setPort (s.setSide (s.sideOf p) q) p w z
  unfold flushSide
  dsimp only
  rw [hcounted, hport, portOf_of_straps (setPort_straps s p _), portOf_sideOf, hpath]
  rfl

theorem portDown_eq (s : State) (p : Port) (v : PortUnit) :
    portDown (s.setPort p v) p
      = gatewayPortDown (custodyPortDown (circuitsPortDown (sideLeft s p v) (s.sideOf p)) (s.sideOf p)) := by
  unfold portDown
  dsimp only
  rw [show (s.setPort p v).sideOf p = s.sideOf p from rfl, flushSide_down]
  rfl

/-! ## The flush (R56) -/

theorem emptied_side (s : State) (p : Port) (v : PortUnit) :
    (emptied s p v).side (s.sideOf p) = flushedTiu (s.side (s.sideOf p)) v.sending := setSide_side s _ _

theorem emptied_other (s : State) (p : Port) (v : PortUnit) :
    (emptied s p v).side (otherSide (s.sideOf p)) = s.side (otherSide (s.sideOf p)) := setSide_other s _ _

theorem emptied_service (s : State) (p : Port) (v : PortUnit) :
    (emptied s p v).inService (s.sideOf p) = inServiceState v.state
      ∧ (emptied s p v).inService (otherSide (s.sideOf p)) = s.inService (otherSide (s.sideOf p)) :=
  ⟨inService_setPort_same (s := s.setSide (s.sideOf p) _), inService_setPort_ne (s := s.setSide (s.sideOf p) _)
    (otherSide_ne (s.sideOf p))⟩

theorem tiuHeld_flushedTiu (x : Tiu) (z : Option Sending) : tiuHeld (flushedTiu x z) = 0 := rfl

theorem poolHeld_emptied (s : State) (p : Port) (v : PortUnit) : (emptied s p v).poolHeld ≤ s.poolHeld := by
  have hflushed := poolHeld_setSide s (s.sideOf p) (flushedTiu (s.side (s.sideOf p)) v.sending)
  have hport := poolHeld_sending (s.setSide (s.sideOf p) (flushedTiu (s.side (s.sideOf p)) v.sending)) p (goneDown v)
  rw [tiuHeld_flushedTiu] at hflushed
  have hnone : sendingHeld (goneDown v).sending = 0 := rfl
  rw [hnone] at hport
  unfold emptied
  omega

/-! ## The hold released (R53) -/

/-- R53: whether the flush releases a hold sent out of the other side. -/
def releasesHold (s : State) (p : Port) : Prop :=
  (s.side (otherSide (s.sideOf p))).holdRepeat.isSome = true ∧ s.inService (otherSide (s.sideOf p)) = true

theorem resumeCheck_emptied (h : releasesHold s p) :
    resumeCheck (emptied s p v) (s.sideOf p) = makeResume (emptied s p v) (otherSide (s.sideOf p)) := by
  refine if_pos ?_
  rw [emptied_side, emptied_other, (emptied_service s p v).2, h.1, h.2]
  rfl

theorem resumeCheck_emptied_none (h : ¬ releasesHold s p) :
    resumeCheck (emptied s p v) (s.sideOf p) = emptied s p v := by
  refine if_neg fun hdue => h ?_
  obtain ⟨hboth, hin⟩ := Bool.and_eq_true_iff.1 hdue
  obtain ⟨_, hheld⟩ := Bool.and_eq_true_iff.1 hboth
  rw [emptied_other] at hheld
  exact ⟨hheld, (emptied_service s p v).2.symm.trans hin⟩

/-- The side out of which a RESUME has been made. -/
def resumed (s : State) (x : Tiu) : Tiu :=
  { putBackPressure x (linkCell s.station .resume) with
    holdRepeat := none
    counts :=
      let n := (putBackPressure x (linkCell s.station .resume)).counts
      { n with resumesSent := satInc n.resumesSent } }

theorem makeResume_emptied :
    (makeResume (emptied s p v) (otherSide (s.sideOf p))).side (otherSide (s.sideOf p))
      = resumed s (s.side (otherSide (s.sideOf p))) := by
  unfold makeResume resumed
  rw [setSide_side, emptied_other]
  rfl

/-- R46: a back-pressure cell takes its place in the LINK queue, or is counted refused. -/
theorem putBackPressure_eq (x : Tiu) (c : Cell) :
    ∃ link n, putBackPressure x c = { x with insLink := link, counts := { x.counts with queueRefusedLink := n } } := by
  unfold putBackPressure
  split
  · exact ⟨_, x.counts.queueRefusedLink, rfl⟩
  · split
    · exact ⟨_, x.counts.queueRefusedLink, rfl⟩
    · exact ⟨x.insLink, _, rfl⟩

/-- `y` is `x` but for the LINK queue, the hold sent and the counts of LINK cells. -/
def SameButLink (x y : Tiu) : Prop :=
  ∃ link hold n m,
    y = { x with
      insLink := link, holdRepeat := hold, counts := { x.counts with queueRefusedLink := n, resumesSent := m } }

theorem sameButLink_resumed (s : State) (x : Tiu) : SameButLink x (resumed s x) := by
  obtain ⟨link, n, heq⟩ := putBackPressure_eq x (linkCell s.station .resume)
  unfold resumed
  rw [heq]
  exact ⟨link, none, n, _, rfl⟩

theorem holdReleased_resumed (hheld : x.holdRepeat.isSome = true) : holdReleased s x (resumed s x) := by
  unfold holdReleased
  dsimp only
  rw [if_pos hheld]
  refine ⟨rfl, congrArg satInc (putBackPressure_resumesSent _ _), fun hwaits => ?_, fun hnone hroom => ?_⟩
  · unfold resumed
    rw [putBackPressure_of_waiting hwaits]
    rfl
  · unfold resumed
    rw [putBackPressure_of_room hnone hroom]
    rfl

theorem holdReleased_same (hnone : x.holdRepeat.isSome = false) : holdReleased s x x := by
  unfold holdReleased
  dsimp only
  rw [if_neg (by rw [hnone]; exact Bool.false_ne_true)]
  exact ⟨Option.isNone_iff_eq_none.1 (Option.isSome_eq_false_iff.1 hnone), rfl, rfl⟩

/-- The release of a hold shows in three fields of the side. -/
theorem holdReleased_of_fields {z : Tiu} (h : holdReleased s x y) (hhold : z.holdRepeat = y.holdRepeat)
    (hsent : z.counts.resumesSent = y.counts.resumesSent) (hlink : z.insLink = y.insLink) : holdReleased s x z := by
  unfold holdReleased at h ⊢
  rw [hhold, hsent, hlink]
  exact h

/-! ## What is left -/

theorem port_of_within {parts : List Part} (h : Within parts s t) (k : Part.ports ∉ parts) (q : Port) :
    t.port q = s.port q := by
  rw [State.port, show t.ports = s.ports from h .ports k, State.port]

/-- What the TIU and the Reach Table leave of the side of `p`, its port in the state of `v`, and of the other side. -/
structure SideLeft (s : State) (p : Port) (v : PortUnit) (u : State) : Prop where
  within : Within [.ports, .tiu, .reach] s u
  port : u.port p = goneDown v
  gone : u.inService (s.sideOf p) = false
  service : u.inService (otherSide (s.sideOf p)) = s.inService (otherSide (s.sideOf p))
  empty : u.side (s.sideOf p) = flushedTiu (s.side (s.sideOf p)) v.sending
  rest : SameButLink (s.side (otherSide (s.sideOf p))) (u.side (otherSide (s.sideOf p)))
  released : s.inService (otherSide (s.sideOf p)) = true →
    holdReleased s (s.side (otherSide (s.sideOf p))) (u.side (otherSide (s.sideOf p)))
  invalid : (u.entry (s.sideOf p)).valid = false
  entry : u.entry (otherSide (s.sideOf p)) = s.entry (otherSide (s.sideOf p))
  pool : s.poolFree ≤ u.poolFree

theorem poolFree_of_held (h : t.poolHeld ≤ s.poolHeld) : s.poolFree ≤ t.poolFree := by
  rw [poolFree_eq, poolFree_eq]
  omega

/-- The flush with the hold released, but for the Reach Table. -/
theorem flushed_leaves (hout : inServiceState v.state = false) :
    let u := resumeCheck (emptied s p v) (s.sideOf p)
    Within [.ports, .tiu] s u ∧ u.port p = goneDown v ∧ u.inService (s.sideOf p) = false
      ∧ u.inService (otherSide (s.sideOf p)) = s.inService (otherSide (s.sideOf p))
      ∧ u.side (s.sideOf p) = flushedTiu (s.side (s.sideOf p)) v.sending
      ∧ SameButLink (s.side (otherSide (s.sideOf p))) (u.side (otherSide (s.sideOf p)))
      ∧ (s.inService (otherSide (s.sideOf p)) = true →
          holdReleased s (s.side (otherSide (s.sideOf p))) (u.side (otherSide (s.sideOf p))))
      ∧ s.poolFree ≤ u.poolFree := by
  have hwithin : Within [.ports, .tiu] s (emptied s p v) :=
    (within_setSide s _ _).seq (within_setPort _ p _) (parts := [.ports, .tiu])
  have hgone : (emptied s p v).inService (s.sideOf p) = false := (emptied_service s p v).1.trans hout
  have hport : (emptied s p v).port p = goneDown v := setPort_port _ _ _
  have hpool := poolHeld_emptied s p v
  intro u
  by_cases h : releasesHold s p
  · have hu : u = makeResume (emptied s p v) (otherSide (s.sideOf p)) := resumeCheck_emptied h
    have hresume : Within [.tiu] (emptied s p v) u := hu ▸ within_setSide _ _ _
    have hside : u.side (otherSide (s.sideOf p)) = resumed s (s.side (otherSide (s.sideOf p))) :=
      hu ▸ makeResume_emptied
    refine ⟨hwithin.seq hresume (parts := [.ports, .tiu]), ?_, ?_, ?_, ?_, ?_, fun _ => ?_, ?_⟩
    · exact (port_of_within hresume (by decide) p).trans hport
    · exact (service_of_within hresume (by decide) (by decide) _).trans hgone
    · exact (service_of_within hresume (by decide) (by decide) _).trans (emptied_service s p v).2
    · exact (resumeCheck_other (emptied s p v) (s.sideOf p)).1.trans (emptied_side s p v)
    · rw [hside]
      exact sameButLink_resumed s _
    · rw [hside]
      exact holdReleased_resumed h.1
    · refine poolFree_of_held (Nat.le_trans (Nat.le_of_eq ?_) hpool)
      rw [hu]
      exact poolHeld_setSide_same (tiuHeld_putBackPressure _ _)
  · have hu : u = emptied s p v := resumeCheck_emptied_none h
    rw [hu]
    refine ⟨hwithin, hport, hgone, (emptied_service s p v).2, emptied_side s p v, ?_, fun hin => ?_,
      poolFree_of_held hpool⟩
    · rw [emptied_other]
      exact ⟨_, _, _, _, rfl⟩
    · rw [emptied_other]
      refine holdReleased_same ?_
      rw [Bool.eq_false_iff]
      exact fun hheld => h ⟨hheld, hin⟩

/-- R65: the entry of a side with an empty TOLL queue becomes INVALID, and nothing follows. -/
theorem invalidateEntry_of_empty (h : (s.side d).insToll = []) :
    invalidateEntry s d = if (s.entry d).valid then s.setEntry d { s.entry d with valid := false } else s := by
  unfold invalidateEntry
  rw [custodyReachLost_of_empty (s := s.setEntry d { s.entry d with valid := false }) h]

theorem invalidateEntry_leaves (h : (s.side d).insToll = []) :
    Within [.reach] s (invalidateEntry s d) ∧ ((invalidateEntry s d).entry d).valid = false
      ∧ (invalidateEntry s d).entry (otherSide d) = s.entry (otherSide d) := by
  rw [invalidateEntry_of_empty h]
  split
  · refine ⟨within_setEntry s d _, ?_, entry_setEntry_other s d _⟩
    rw [entry_setEntry_same]
  · next hinvalid => exact ⟨Within.refl _ s, Bool.eq_false_iff.2 hinvalid, rfl⟩

theorem sideLeft_leaves (hout : inServiceState v.state = false) :
    SideLeft s p v (sideLeft s p v) := by
  obtain ⟨hwithin, hport, hgone, hservice, hempty, hrest, hreleased, hpool⟩ := flushed_leaves (p := p) (s := s) hout
  unfold sideLeft
  generalize resumeCheck (emptied s p v) (s.sideOf p) = m at hwithin hport hgone hservice hempty hrest hreleased hpool
  obtain ⟨hreach, hinvalid, hother⟩ := invalidateEntry_leaves (s := m) (d := s.sideOf p) (by rw [hempty]; rfl)
  have hside (b : Side) : (invalidateEntry m (s.sideOf p)).side b = m.side b := side_of_within hreach (by decide) b
  have hin (b : Side) : (invalidateEntry m (s.sideOf p)).inService b = m.inService b :=
    service_of_within hreach (by decide) (by decide) b
  exact {
    within := hwithin.seq hreach
    port := (port_of_within hreach (by decide) p).trans hport
    gone := (hin _).trans hgone
    service := (hin _).trans hservice
    empty := (hside _).trans hempty
    rest := by rw [hside]; exact hrest
    released := by rw [hside]; exact hreleased
    invalid := hinvalid
    entry := hother.trans (entry_of_within hwithin (by decide) _)
    pool := by rw [(SameRoom.of_within hreach (by decide)).pool]; exact hpool }

end

end Sys2Proof.Machine
end

section
/-! PROOFS. A side that leaves service: the PATH calls of a node, and its own calls that wait (R84, R86, R98). -/

set_option Elab.async false

namespace Sys2Proof.Machine

/-- One entry more, as `callsOf` takes it. -/
def callsWith (calls : List SrtEntry) (e : SrtEntry) : List SrtEntry :=
  if namesCall calls e.identity then calls else calls ++ [e]

/-- The PATH calls among some calls. -/
def pathsOf (calls : List SrtEntry) : List SrtEntry := calls.filter (fun e => e.place == .path)

/-- A table without the entries of some calls. -/
def withoutCalls (table calls : List SrtEntry) : List SrtEntry := table.filter (fun e => !namesCall calls e.identity)

/-- R84, R86: the line of a broken own call that waits. -/
def waitsAfter (x : PhoneLine) (g : Grade) : Prop :=
  x.record = some (waitingRecord g) ∧ x.state = .calling ∧ x.playing = .holdTone

/-- R98: an entry of the lost side `d` of a node without another way: of a PATH call, or of an own call that will wait. -/
def breaksOrWaits (u : State) (d : Side) (e : SrtEntry) : Prop :=
  e.place = .path ∨ ((u.entry (otherSide d)).valid = false ∧ ∃ r, ownCall u d e r)

/-- From `u` to `x` the calls `calls` of the lost side `d` have been broken, or wait. -/
structure PathsBroken (u : State) (d : Side) (calls : List SrtEntry) (x : State) : Prop where
  work : CircuitWork u x
  here : x.table d = withoutCalls (u.table d) calls
  other : x.table (otherSide d) = withoutCalls (u.table (otherSide d)) (pathsOf calls)
  broken : x.ccu.brokenSpanLost = satAdd u.ccu.brokenSpanLost (pathsOf calls).length
  queued : u.inService (otherSide d) = true → (u.side (otherSide d)).insCall.length + (pathsOf calls).length ≤ 16 →
    (pathsOf calls).length + 15 ≤ u.poolFree →
    (x.side (otherSide d)).insCall = (u.side (otherSide d)).insCall ++ (pathsOf calls).map (spanLostCell u)
  refused : u.inService (otherSide d) = false → x.ccu.controlRefused = satAdd u.ccu.controlRefused (pathsOf calls).length
  pool : x.poolHeld ≤ u.poolHeld + (pathsOf calls).length
  waiting : ∀ e ∈ calls, ∀ r, ownCall u d e r → waitsAfter (x.line e.identity.phone) r.grade
  lines : ∀ l, (∀ e ∈ calls, ∀ r, ownCall u d e r → e.identity.phone ≠ l) → x.line l = u.line l

section
variable {s t u x : State} {d : Side} {e f : SrtEntry} {calls table : List SrtEntry} {id : Identity} {r r' : CallRecord}

/-! ## Tables without calls -/

theorem satInc_satAdd {w : Nat} (k : Nat) : ∀ n : BitVec w, satInc (satAdd n k) = satAdd n (k + 1) := by
  induction k with
  | zero =>
    intro n
    rw [satAdd_zero, ← satAdd_satInc, satAdd_zero]
  | succ k ih =>
    intro n
    rw [← satAdd_satInc, ih, satAdd_satInc]

theorem namesCall_append (calls : List SrtEntry) (e : SrtEntry) (id : Identity) :
    namesCall (calls ++ [e]) id = (namesCall calls id || e.identity == id) := by
  simp only [namesCall, List.any_append, List.any_cons, List.any_nil, Bool.or_false]

theorem withoutCalls_nil (table : List SrtEntry) : withoutCalls table [] = table :=
  List.filter_eq_self.2 (fun _ _ => rfl)

theorem withoutCalls_append (table calls : List SrtEntry) (e : SrtEntry) :
    tableWithout (withoutCalls table calls) e.identity = withoutCalls table (calls ++ [e]) := by
  unfold tableWithout withoutCalls
  rw [List.filter_filter]
  refine List.filter_congr (fun z _ => ?_)
  rw [namesCall_append, Bool.not_or, Bool.and_comm, bne]
  congr 2
  rw [Bool.eq_iff_iff, beq_iff_eq, beq_iff_eq]
  exact eq_comm

/-- An entry stands in the table as long as its call is not taken out. -/
theorem namesCall_withoutCalls (hmem : e ∈ table) :
    namesCall (withoutCalls table calls) e.identity = !namesCall calls e.identity := by
  cases hnamed : namesCall calls e.identity with
  | false =>
    refine List.any_eq_true.2 ⟨e, List.mem_filter.2 ⟨hmem, ?_⟩, beq_self_eq_true _⟩
    rw [hnamed]
    rfl
  | true =>
    refine List.any_eq_false.2 (fun z hz => ?_)
    obtain ⟨_, hnot⟩ := List.mem_filter.1 hz
    rw [beq_iff_eq]
    intro heq
    rw [heq, hnamed] at hnot
    exact Bool.false_ne_true hnot

theorem pathsOf_path (h : e.place = .path) : pathsOf (calls ++ [e]) = pathsOf calls ++ [e] := by
  simp only [pathsOf, List.filter_append, List.filter_cons, List.filter_nil, h, beq_self_eq_true, if_true]

theorem pathsOf_other (h : e.place ≠ .path) : pathsOf (calls ++ [e]) = pathsOf calls := by
  simp only [pathsOf, List.filter_append, List.filter_cons, List.filter_nil, beq_false_of_ne h, Bool.false_eq_true, if_false,
    List.append_nil]

/-! ## Own calls -/

theorem ownCall_unique (h : ownCall u d e r) (k : ownCall u d f r') (hphone : e.identity.phone = f.identity.phone) :
    r = r' ∧ e.identity = f.identity := by
  obtain ⟨_, hrecord, _, _, hid⟩ := h
  obtain ⟨_, hrecord', _, _, hid'⟩ := k
  rw [hphone, hrecord'] at hrecord
  cases hrecord
  rw [hid] at hid'
  exact ⟨rfl, Option.some.inj hid'⟩

/-- The record of a call not yet taken is as it was. -/
theorem PathsBroken.own_line (h : PathsBroken u d calls x) (hown : ownCall u d e r)
    (hfresh : namesCall calls e.identity = false) : x.line e.identity.phone = u.line e.identity.phone := by
  refine h.lines _ (fun f hf r' hr' hphone => ?_)
  obtain ⟨_, hid⟩ := ownCall_unique hr' hown hphone
  have hnamed : namesCall calls e.identity = true := List.any_eq_true.2 ⟨f, hf, beq_iff_eq.2 hid⟩
  exact Bool.false_ne_true (hfresh.symm.trans hnamed)

theorem pathsBroken_nil (u : State) (d : Side) : PathsBroken u d [] u where
  work := .refl u
  here := (withoutCalls_nil _).symm
  other := (withoutCalls_nil _).symm
  broken := (satAdd_zero _).symm
  queued := fun _ _ _ => (List.append_nil _).symm
  refused := fun _ => (satAdd_zero _).symm
  pool := Nat.le_refl _
  waiting := nofun
  lines := fun _ _ => rfl

/-! ## One entry -/

/-- R98: the state in which the CALL-BROKEN of a PATH call is offered. -/
def pathReleased (x : State) (e : SrtEntry) : State := countBroken (releaseBoth x e.identity) .spanLost

theorem room_pathReleased (x : State) (e : SrtEntry) : SameRoom x (pathReleased x e) :=
  SameRoom.of_within ((within_releaseBoth x e.identity).seq (within_countCcu _ _) (parts := [.srt, .ccu])) (by decide)

theorem spanLostCell_eq (hstraps : x.straps = u.straps) (e : SrtEntry) :
    callCell x.station .callBroken (match e.faces with | .gateway => e.identity.station | .origin => anyGateway) e.identity
      (gradeCode e.grade) (brokenCode .spanLost) = spanLostCell u e := by
  rw [State.station, hstraps]
  rfl

theorem breakEntry_path (hstraps : x.straps = u.straps) (hplace : e.place = .path) :
    breakEntry d x e = offerControl (pathReleased x e) (otherSide d) (spanLostCell u e) := by
  unfold breakEntry
  rw [hplace]
  exact congrArg (offerControl (pathReleased x e) (otherSide d)) (spanLostCell_eq (x := releaseBoth x e.identity) hstraps e)

theorem brokenSpanLost_offerControl (s : State) (d : Side) (c : Cell) :
    (offerControl s d c).ccu.brokenSpanLost = s.ccu.brokenSpanLost := by
  unfold offerControl
  split
  · rw [show (offerEffect s d c).ccu = s.ccu from within_offerEffect s d c .ccu (by decide)]
  · show (offerEffect s d c).ccu.brokenSpanLost = _
    rw [show (offerEffect s d c).ccu = s.ccu from within_offerEffect s d c .ccu (by decide)]

/-- R98: a PATH call broken. -/
theorem PathsBroken.path (h : PathsBroken u d calls x) (hplace : e.place = .path) :
    PathsBroken u d (calls ++ [e]) (breakEntry d x e) := by
  have hwork : CircuitWork x (breakEntry d x e) := circuitWork_breakEntry d x e
  rw [breakEntry_path h.work.straps hplace] at hwork ⊢
  have hroom := room_pathReleased x e
  have htable (b : Side) : (offerControl (pathReleased x e) (otherSide d) (spanLostCell u e)).table b
      = tableWithout (x.table b) e.identity :=
    (offerControl_table _ _ _ _).trans (releaseBoth_table b)
  have hpool := poolHeld_offerControl (pathReleased x e) (otherSide d) (spanLostCell u e)
  have hheld : (pathReleased x e).poolHeld = x.poolHeld := rfl
  have hline (l : Line) : (offerControl (pathReleased x e) (otherSide d) (spanLostCell u e)).line l = x.line l := by
    rw [line_of_within (within_offerControl _ _ _) (by decide)]
    rfl
  have hcount : (pathReleased x e).ccu.brokenSpanLost = satInc x.ccu.brokenSpanLost := rfl
  have hcontrol : (pathReleased x e).ccu.controlRefused = x.ccu.controlRefused := rfl
  have hservice : (pathReleased x e).inService (otherSide d) = u.inService (otherSide d) :=
    (hroom.service _).trans (h.work.service _)
  have hlength : (pathsOf (calls ++ [e])).length = (pathsOf calls).length + 1 := by
    rw [pathsOf_path hplace, List.length_append]
    rfl
  have hold := h.pool
  refine
    { work := h.work.trans hwork
      here := by rw [htable, h.here, withoutCalls_append]
      other := by rw [htable, h.other, withoutCalls_append, pathsOf_path hplace]
      broken := by rw [brokenSpanLost_offerControl, hcount, h.broken, satInc_satAdd, hlength]
      queued := fun hin hplaces hfree => ?_
      refused := fun habsent => ?_
      pool := by rw [hlength]; omega
      waiting := fun f hf r hown => ?_
      lines := fun l hl => (hline l).trans (h.lines l (fun f hf => hl f (List.mem_append_left _ hf))) }
  · rw [hlength] at hplaces hfree
    have hbefore := h.queued hin (by omega) (by omega)
    have htakes : takesLocal (pathReleased x e) (otherSide d) .call = true := by
      simp only [takesLocal, Bool.and_eq_true, decide_eq_true_eq]
      refine ⟨⟨hservice.trans hin, ?_⟩, ?_⟩
      · show ((pathReleased x e).side (otherSide d)).insCall.length < 16
        rw [hroom.side, hbefore, List.length_append, List.length_map]
        omega
      · rw [hroom.pool, poolFree_eq]
        rw [poolFree_eq] at hfree
        show 16 ≤ _
        omega
    rw [(offerControl_call (x := spanLostCell u e) rfl nofun htakes).1, hroom.side, hbefore, pathsOf_path hplace,
      List.map_append, List.append_assoc]
    rfl
  · have hanswer : offerAnswer (pathReleased x e) (otherSide d) (spanLostCell u e) = .noSide :=
      offerAnswer_of_absent (hservice.trans habsent)
    rw [offerControl_of_refused (by rw [hanswer]; exact nofun), offerEffect_of_absent hanswer]
    show satInc (pathReleased x e).ccu.controlRefused = _
    rw [hcontrol, h.refused habsent, satInc_satAdd, hlength]
  · rw [hline]
    rcases List.mem_append.1 hf with hf | hf
    · exact h.waiting f hf r hown
    · rw [List.mem_singleton.1 hf] at hown
      exact absurd (hplace.symm.trans hown.1) nofun

/-- The tables and the lines hold no buffers. -/
theorem poolHeld_of_calls (h : Within [.srt, .lines] s t) : t.poolHeld = s.poolHeld := by
  rw [State.poolHeld, State.poolHeld, show t.inHand = s.inHand from h .inHand (by decide),
    show t.tiu = s.tiu from h .tiu (by decide), show t.ports = s.ports from h .ports (by decide),
    show t.sps = s.sps from h .sps (by decide), show t.gw = s.gw from h .gw (by decide)]

/-- R84, R86, R98: an own call that waits. -/
theorem PathsBroken.own (h : PathsBroken u d calls x) (hgw : u.isGateway = false)
    (hinvalid : (u.entry (otherSide d)).valid = false) (hown : ownCall u d e r)
    (hfresh : namesCall calls e.identity = false) : PathsBroken u d (calls ++ [e]) (breakEntry d x e) := by
  have hwork : CircuitWork x (breakEntry d x e) := circuitWork_breakEntry d x e
  obtain ⟨hplace, hrecord, hactive, hd, hid⟩ := hown
  have hown' : ownCall u d e r := ⟨hplace, hrecord, hactive, hd, hid⟩
  have hnot : e.place ≠ .path := by rw [hplace]; exact nofun
  have hentry : breakEntry d x e = recordBroken (releaseEntry x d e.identity) e.identity.phone := by
    unfold breakEntry
    rw [hplace]
  have hgateway : (releaseEntry x d e.identity).isGateway = false :=
    (congrArg (fun k => roleIsGateway (strapRole k)) h.work.straps).trans hgw
  have hstands : ((releaseEntry x d e.identity).line e.identity.phone).record = some r := by
    rw [show (releaseEntry x d e.identity).line e.identity.phone = x.line e.identity.phone from rfl,
      h.own_line hown' hfresh]
    exact hrecord
  obtain ⟨hline, hlines, htable, hwithin⟩ := recordBroken_waits (s := releaseEntry x d e.identity) (d := d) hgateway hstands
    hactive hd hid (by
      show (x.entry (otherSide d)).valid = false
      rw [h.work.entries]
      exact hinvalid)
  rw [← hentry] at hline hlines htable hwithin
  have hreleased : Within [.srt, .lines] x (breakEntry d x e) :=
    (within_releaseEntry x d e.identity).seq hwithin (parts := [.srt, .lines])
  have hsame : SameRoom x (breakEntry d x e) := SameRoom.of_within hreleased (by decide)
  have hccu : (breakEntry d x e).ccu = x.ccu := hreleased .ccu (by decide)
  have hold (f : SrtEntry) (hf : f ∈ calls) {r' : CallRecord} (hr' : ownCall u d f r') :
      f.identity.phone ≠ e.identity.phone := by
    intro hphone
    obtain ⟨_, heq⟩ := ownCall_unique hr' hown' hphone
    have hnamed : namesCall calls e.identity = true := List.any_eq_true.2 ⟨f, hf, beq_iff_eq.2 heq⟩
    exact Bool.false_ne_true (hfresh.symm.trans hnamed)
  refine
    { work := h.work.trans hwork
      here := ?_
      other := ?_
      broken := by rw [hccu, pathsOf_other hnot]; exact h.broken
      queued := by rw [hsame.side, pathsOf_other hnot]; exact h.queued
      refused := by rw [hccu, pathsOf_other hnot]; exact h.refused
      pool := ?_
      waiting := fun f hf r' hr' => ?_
      lines := fun l hl => ?_ }
  · rw [htable, if_pos rfl, releaseEntry_table, if_pos rfl, h.here, tableWithout_twice,
      withoutCalls_append]
  · rw [htable, if_neg (otherSide_ne d), releaseEntry_table, if_neg (otherSide_ne d), h.other, pathsOf_other hnot]
  · rw [pathsOf_other hnot]
    exact Nat.le_trans (Nat.le_of_eq (poolHeld_of_calls hreleased)) h.pool
  · rcases List.mem_append.1 hf with hf | hf
    · rw [hlines _ (hold f hf hr')]
      exact h.waiting f hf r' hr'
    · rw [List.mem_singleton.1 hf] at hr' ⊢
      obtain ⟨rfl, _⟩ := ownCall_unique hown' hr' rfl
      rw [hline]
      exact ⟨rfl, rfl, rfl⟩
  · have hne : l ≠ e.identity.phone :=
      fun heq => hl e (List.mem_append_right _ (List.mem_singleton.2 rfl)) r hown' heq.symm
    rw [hlines l hne]
    exact h.lines l (fun f hf => hl f (List.mem_append_left _ hf))

/-! ## The table of the lost side (R98) -/

theorem PathsBroken.step (h : PathsBroken u d calls x) (hgw : u.isGateway = false) (hmem : e ∈ u.table d)
    (hentry : breaksOrWaits u d e) : PathsBroken u d (callsWith calls e) (breakHeld d x e) := by
  unfold callsWith breakHeld
  rw [h.here, namesCall_withoutCalls hmem]
  cases hfresh : namesCall calls e.identity with
  | true => exact h
  | false =>
    rcases hentry with hpath | ⟨hinvalid, r, hown⟩
    · exact h.path hpath
    · exact h.own hgw hinvalid hown hfresh

theorem pathsBroken_fold (hgw : u.isGateway = false) (q : List SrtEntry) :
    ∀ {calls : List SrtEntry} {x : State}, (∀ e ∈ q, e ∈ u.table d ∧ breaksOrWaits u d e) → PathsBroken u d calls x →
      PathsBroken u d (q.foldl callsWith calls) (q.foldl (breakHeld d) x) := by
  induction q with
  | nil => exact fun _ h => h
  | cons e q ih =>
    intro calls x hall h
    obtain ⟨hmem, hentry⟩ := hall e List.mem_cons_self
    exact ih (fun f hf => hall f (List.mem_cons_of_mem _ hf)) (h.step hgw hmem hentry)

theorem pathsBroken_portDown (hgw : u.isGateway = false) (hall : ∀ e ∈ u.table d, breaksOrWaits u d e) :
    PathsBroken u d (callsOf (u.table d)) (circuitsPortDown u d) :=
  pathsBroken_fold hgw (u.table d) (fun e he => ⟨he, hall e he⟩) (pathsBroken_nil u d)

end

end Sys2Proof.Machine
end

section
/-! PROOFS. A side that leaves service: the CHAIN calls of a gateway (R98, R183). -/

set_option Elab.async false

namespace Sys2Proof.Machine

/-- R183: the CHAIN calls among some calls, each with its channel. -/
def chainEnds (u : State) (calls : List SrtEntry) : List (Nat × SrtEntry) :=
  calls.filterMap (fun e => (findChannel u e.identity).map (fun n => (n, e)))

/-- R183: the channels of a gateway without those of some ended calls. -/
def channelsWithout (channels : List OfficeChannel) (ends : List (Nat × SrtEntry)) : List OfficeChannel :=
  channels.mapIdx (fun n c => if ends.any (fun x => x.1 == n) then .free else c)

/-- From `u` to `x` the CHAIN calls among `calls` have ended, the lost side being `d`. -/
structure ChainsEnded (u : State) (d : Side) (calls : List SrtEntry) (x : State) : Prop where
  straps : x.straps = u.straps
  here : x.table d = withoutCalls (u.table d) calls
  channels : x.gw.channels = channelsWithout u.gw.channels (chainEnds u calls)
  passed : u.gw.toOffice.length + (chainEnds u calls).length ≤ 32 → (chainEnds u calls).length + 15 ≤ u.poolFree →
    x.gw.toOffice = u.gw.toOffice ++ (chainEnds u calls).map (fun y => spanLostNotice u y.1 y.2)
  lost : 32 ≤ u.gw.toOffice.length →
    x.gw.toOffice = u.gw.toOffice ∧ x.gw.counts.noticesLost = satAdd u.gw.counts.noticesLost (chainEnds u calls).length
  pool : x.poolHeld ≤ u.poolHeld + (chainEnds u calls).length

section
variable {s t u x : State} {d : Side} {e f : SrtEntry} {calls : List SrtEntry} {id : Identity} {n : Nat} {c : Cell}
  {ends : List (Nat × SrtEntry)} {l : List OfficeChannel}

/-! ## The channels -/

theorem channelHolds_unique {a b : Identity} {z : OfficeChannel} (h : channelHolds a z = true)
    (k : channelHolds b z = true) : a = b := by
  cases z with
  | free => cases h
  | chain y g => exact (beq_iff_eq.1 h).symm.trans (beq_iff_eq.1 k)
  | localCall y g w => exact (beq_iff_eq.1 h).symm.trans (beq_iff_eq.1 k)

/-- The place of the first element is that of a list on which the test has the same outcomes. -/
theorem findIdx?_mapIdx_congr {α : Type} {p : α → Bool} {f : Nat → α → α} {l : List α}
    (h : ∀ i (hi : i < l.length), p (f i l[i]) = p l[i]) : (l.mapIdx f).findIdx? p = l.findIdx? p := by
  have hmap (q : List α) : q.findIdx? p = (q.map p).findIdx? id := by
    rw [List.findIdx?_map]
    rfl
  rw [hmap, hmap l]
  refine congrArg (List.findIdx? id) (List.ext_getElem (by simp) (fun i hi hi' => ?_))
  rw [List.getElem_map, List.getElem_map, List.getElem_mapIdx]
  exact h i (by simpa using hi')

/-- R183: the channels of the ended calls held other calls than one not yet taken. -/
theorem findChannel_fresh (hchannels : x.gw.channels = channelsWithout u.gw.channels (chainEnds u calls))
    (hfresh : namesCall calls id = false) : findChannel x id = findChannel u id := by
  rw [findChannel, hchannels]
  refine findIdx?_mapIdx_congr (fun i hi => ?_)
  split
  · next hended =>
    obtain ⟨⟨m, f⟩, hmem, heq⟩ := List.any_eq_true.1 hended
    obtain ⟨g, hg, hfound⟩ := List.mem_filterMap.1 hmem
    obtain ⟨k, hk, hpair⟩ := Option.map_eq_some_iff.1 hfound
    cases hpair
    obtain rfl : m = i := beq_iff_eq.1 heq
    obtain ⟨_, hholds, _⟩ := List.findIdx?_eq_some_iff_getElem.1 hk
    refine (Bool.eq_false_iff.2 fun hid => ?_).symm
    have hnamed : namesCall calls id = true :=
      List.any_eq_true.2 ⟨f, hg, beq_iff_eq.2 (channelHolds_unique hholds hid)⟩
    exact Bool.false_ne_true (hfresh.symm.trans hnamed)
  · rfl

theorem channelsWithout_nil (l : List OfficeChannel) : channelsWithout l [] = l := by
  refine List.ext_getElem (by simp [channelsWithout]) (fun i hi hi' => ?_)
  simp [channelsWithout]

theorem getElem_channelsWithout (l : List OfficeChannel) (ends : List (Nat × SrtEntry)) (i : Nat)
    (hi : i < (channelsWithout l ends).length) :
    (channelsWithout l ends)[i]
      = if ends.any (fun x => x.1 == i) then .free else l[i]'(by simpa [channelsWithout] using hi) := List.getElem_mapIdx

theorem channelsWithout_append (l : List OfficeChannel) (ends : List (Nat × SrtEntry)) (n : Nat) (e : SrtEntry) :
    (channelsWithout l ends).set n .free = channelsWithout l (ends ++ [(n, e)]) := by
  refine List.ext_getElem (by simp [channelsWithout]) (fun i hi hi' => ?_)
  rw [List.getElem_set, getElem_channelsWithout, getElem_channelsWithout, List.any_append, List.any_cons, List.any_nil,
    Bool.or_false]
  by_cases hn : n = i
  · rw [if_pos hn, beq_iff_eq.2 hn, Bool.or_true, if_pos rfl]
  · rw [if_neg hn, beq_false_of_ne hn, Bool.or_false]

theorem chainEnds_found (h : findChannel u e.identity = some n) :
    chainEnds u (calls ++ [e]) = chainEnds u calls ++ [(n, e)] := by
  simp only [chainEnds, List.filterMap_append, List.filterMap_cons, List.filterMap_nil, h, Option.map_some]

theorem chainEnds_none (h : findChannel u e.identity = none) : chainEnds u (calls ++ [e]) = chainEnds u calls := by
  simp only [chainEnds, List.filterMap_append, List.filterMap_cons, List.filterMap_nil, h, Option.map_none, List.append_nil]

/-! ## One call -/

theorem poolHeld_giveNotice (s : State) (c : Cell) : (giveNotice s c).poolHeld ≤ s.poolHeld + 1 := by
  unfold giveNotice
  split
  · exact Nat.le_succ _
  · split
    · rw [poolHeld_eq, poolHeld_eq]
      show s.inHand + tiuHeld (s.side .up) + tiuHeld (s.side .down) + sendingHeld (s.port .sp1).sending
        + sendingHeld (s.port .sp2).sending + s.sps.waiting.length + (s.gw.toOffice ++ [c]).length ≤ _
      rw [List.length_append]
      exact Nat.le_refl _
    · exact Nat.le_succ _

theorem endChainLost_found (h : findChannel s e.identity = some n) :
    endChainLost s d e
      = giveNotice (setChannel (releaseEntry s d e.identity) n .free)
          (noticeCell s n .callBroken e.identity e.grade (brokenCode .spanLost)) := by
  unfold endChainLost
  rw [h]

theorem endChainLost_none (h : findChannel s e.identity = none) :
    endChainLost s d e = releaseEntry s d e.identity := by
  unfold endChainLost
  rw [h]

theorem spanLostNotice_eq (hstraps : x.straps = u.straps) (n : Nat) (e : SrtEntry) :
    noticeCell x n .callBroken e.identity e.grade (brokenCode .spanLost) = spanLostNotice u n e := by
  rw [noticeCell, State.station, hstraps]
  rfl

theorem chainsEnded_nil (u : State) (d : Side) : ChainsEnded u d [] u where
  straps := rfl
  here := (withoutCalls_nil _).symm
  channels := (channelsWithout_nil _).symm
  passed := fun _ _ => (List.append_nil _).symm
  lost := fun _ => ⟨rfl, (satAdd_zero _).symm⟩
  pool := Nat.le_refl _

/-- R183: the table of a lost side after a CHAIN call has ended. -/
theorem ChainsEnded.released (h : ChainsEnded u d calls x) (e : SrtEntry) :
    (releaseEntry x d e.identity).table d = withoutCalls (u.table d) (calls ++ [e]) := by
  rw [releaseEntry_table, if_pos rfl, h.here, withoutCalls_append]

theorem ChainsEnded.none (h : ChainsEnded u d calls x) (hfound : findChannel u e.identity = none)
    (hfresh : namesCall calls e.identity = false) : ChainsEnded u d (calls ++ [e]) (endChainLost x d e) := by
  rw [endChainLost_none ((findChannel_fresh h.channels hfresh).trans hfound)]
  have hends := chainEnds_none (calls := calls) hfound
  exact
    { straps := h.straps
      here := h.released e
      channels := by rw [hends]; exact h.channels
      passed := by rw [hends]; exact h.passed
      lost := by rw [hends]; exact h.lost
      pool := by rw [hends]; exact h.pool }

theorem ChainsEnded.found (h : ChainsEnded u d calls x) (hfound : findChannel u e.identity = some n)
    (hfresh : namesCall calls e.identity = false) : ChainsEnded u d (calls ++ [e]) (endChainLost x d e) := by
  rw [endChainLost_found ((findChannel_fresh h.channels hfresh).trans hfound), spanLostNotice_eq h.straps]
  have hends := chainEnds_found (calls := calls) hfound
  have hlength : (chainEnds u (calls ++ [e])).length = (chainEnds u calls).length + 1 := by
    rw [hends, List.length_append]
    rfl
  have hchannels : (setChannel (releaseEntry x d e.identity) n .free).gw.channels
      = channelsWithout u.gw.channels (chainEnds u (calls ++ [e])) := by
    rw [hends, ← channelsWithout_append, ← h.channels]
    rfl
  have htable : (setChannel (releaseEntry x d e.identity) n .free).table d = withoutCalls (u.table d) (calls ++ [e]) :=
    h.released e
  have hheld : (setChannel (releaseEntry x d e.identity) n .free).poolHeld = x.poolHeld := rfl
  have hoffice : (setChannel (releaseEntry x d e.identity) n .free).gw.toOffice = x.gw.toOffice := rfl
  have hcounts : (setChannel (releaseEntry x d e.identity) n .free).gw.counts = x.gw.counts := rfl
  have hstraps : (setChannel (releaseEntry x d e.identity) n .free).straps = x.straps := rfl
  generalize setChannel (releaseEntry x d e.identity) n .free = y at hchannels htable hheld hoffice hcounts hstraps
  have hgiven := within_giveNotice y (spanLostNotice u n e)
  have hkept : (giveNotice y (spanLostNotice u n e)).straps = y.straps := hgiven .straps (by decide)
  have hpool := poolHeld_giveNotice y (spanLostNotice u n e)
  have hbefore := h.pool
  refine
    { straps := hkept.trans (hstraps.trans h.straps)
      here := by rw [table_of_within hgiven (by decide)]; exact htable
      channels := by rw [giveNotice_channels]; exact hchannels
      passed := fun hroom hfree => ?_
      lost := fun hfull => ?_
      pool := by rw [hlength]; omega }
  · rw [hlength] at hroom hfree
    have hpassed := h.passed (by omega) (by omega)
    rw [giveNotice_taken (by rw [hoffice, hpassed, List.length_append, List.length_map]; omega)
      (by rw [poolFree_eq]; rw [poolFree_eq] at hfree; omega)]
    show y.gw.toOffice ++ [spanLostNotice u n e] = _
    rw [hoffice, hpassed, hends, List.map_append, List.append_assoc]
    rfl
  · obtain ⟨hsame, hlost⟩ := h.lost hfull
    rw [giveNotice_full (by rw [hoffice, hsame]; exact hfull)]
    refine ⟨hoffice.trans hsame, ?_⟩
    show satInc y.gw.counts.noticesLost = _
    rw [hcounts, hlost, satInc_satAdd, hlength]

/-! ## The table of the lost side (R98) -/

theorem ChainsEnded.step (h : ChainsEnded u d calls x) (hmem : e ∈ u.table d) (hplace : e.place = .gateway) :
    ChainsEnded u d (callsWith calls e) (breakHeld d x e) := by
  unfold callsWith breakHeld
  rw [h.here, namesCall_withoutCalls hmem]
  cases hfresh : namesCall calls e.identity with
  | true => exact h
  | false =>
    have hentry : breakEntry d x e = endChainLost x d e := by
      unfold breakEntry
      rw [hplace]
    show ChainsEnded u d (calls ++ [e]) (breakEntry d x e)
    rw [hentry]
    cases hfound : findChannel u e.identity with
    | none => exact h.none hfound hfresh
    | some n => exact h.found hfound hfresh

theorem chainsEnded_fold (q : List SrtEntry) :
    ∀ {calls : List SrtEntry} {x : State}, (∀ e ∈ q, e ∈ u.table d ∧ e.place = .gateway) → ChainsEnded u d calls x →
      ChainsEnded u d (q.foldl callsWith calls) (q.foldl (breakHeld d) x) := by
  induction q with
  | nil => exact fun _ h => h
  | cons e q ih =>
    intro calls x hall h
    obtain ⟨hmem, hplace⟩ := hall e List.mem_cons_self
    exact ih (fun f hf => hall f (List.mem_cons_of_mem _ hf)) (h.step hmem hplace)

theorem chainsEnded_portDown (hall : ∀ e ∈ u.table d, e.place = .gateway) :
    ChainsEnded u d (callsOf (u.table d)) (circuitsPortDown u d) :=
  chainsEnded_fold (u.table d) (fun e he => ⟨he, hall e he⟩) (chainsEnded_nil u d)

end

end Sys2Proof.Machine
end

section
/-! PROOFS. A side that leaves service (O14), and a HELLO that takes it down (O16). -/

set_option Elab.async false

namespace Sys2Proof.Machine

section
variable {s t u w x : State} {p : Port} {v : PortUnit} {d : Side} {e : SrtEntry} {r : CallRecord} {f g : Tiu}

/-! ## From the lost side to the end of the command -/

theorem SameButLink.insCall (h : SameButLink f g) : g.insCall = f.insCall := by
  obtain ⟨_, _, _, _, rfl⟩ := h
  rfl

theorem TollsQueued.insCall (h : TollsQueued f g) : g.insCall = f.insCall := by
  obtain ⟨_, _, _, rfl⟩ := h
  rfl

theorem holdReleased_calls {y : Tiu} (h : holdReleased s y f) (k : CallsQueued f g) : holdReleased s y g := by
  obtain ⟨_, _, _, rfl⟩ := k
  exact holdReleased_of_fields h rfl rfl rfl

theorem holdReleased_tolls {y : Tiu} (h : holdReleased s y f) (k : TollsQueued f g) : holdReleased s y g := by
  obtain ⟨_, _, _, rfl⟩ := k
  exact holdReleased_of_fields h rfl rfl rfl

/-- The rest of PORT-DOWN after the call circuits, and the end of the command. -/
def downEnded (w x : State) (d : Side) : State := ended w (gatewayPortDown (custodyPortDown x d))

theorem gatewayPortDown_gw (s : State) :
    (gatewayPortDown s).gw = { s.gw with beaconPeriod := (gatewayPortDown s).gw.beaconPeriod } := by
  unfold gatewayPortDown
  split
  · rfl
  · rfl

theorem gatewayPortDown_stops (h : s.isGateway = true) : (gatewayPortDown s).gw.beaconPeriod = none := by
  rw [gatewayPortDown, if_pos h]
  rfl

theorem within_ended_parts (w t : State) : Within [.inHand, .ports] t (ended w t) := by
  intro q hq
  cases q with
  | inHand => exact absurd List.mem_cons_self hq
  | ports => exact absurd (List.mem_cons_of_mem _ List.mem_cons_self) hq
  | _ => rfl

theorem within_downEnded (w x : State) (d : Side) : Within [.inHand, .ports, .node, .tiu, .csd, .gw] x (downEnded w x d) := by
  have hdown : Within [.ports, .node, .tiu, .csd, .gw] x (gatewayPortDown (custodyPortDown x d)) :=
    (within_custodyPortDown x d).seq (within_gatewayPortDown _)
  exact hdown.seq (parts := [.inHand, .ports, .node, .tiu, .csd, .gw]) (within_ended_parts w _)

theorem downEnded_gw (w x : State) (d : Side) :
    (downEnded w x d).gw = { x.gw with beaconPeriod := (downEnded w x d).gw.beaconPeriod } := by
  have hgw : (custodyPortDown x d).gw = x.gw := within_custodyPortDown x d .gw (by decide)
  have hdown := gatewayPortDown_gw (custodyPortDown x d)
  rw [hgw] at hdown
  exact hdown

theorem downEnded_port (hout : inServiceState (x.port p).state = false) :
    ∃ req retry, (downEnded w x d).port p = { x.port p with slotDozeReq := req, dozeRetry := retry } := by
  have hport : (gatewayPortDown (custodyPortDown x d)).port p = x.port p := by
    rw [port_of_within (within_gatewayPortDown _) (by decide)]
    rcases (Steady.custodyPortDown (s := x) d).ports p with hsame | ⟨hdoze, _⟩
    · exact hsame
    · rw [hdoze] at hout
      cases hout
  have hfields := ended_port_fields w (gatewayPortDown (custodyPortDown x d)) p
  rw [hport] at hfields
  exact ⟨_, _, hfields⟩

/-! ## What becomes of the calls (R98, R183) -/

theorem ownCall_of_lines (h : u.lines = s.lines) (hown : ownCall s d e r) : ownCall u d e r := by
  unfold ownCall State.line at hown ⊢
  rw [h]
  exact hown

theorem spanLostCell_of_straps (h : u.straps = s.straps) : spanLostCell u = spanLostCell s := by
  unfold spanLostCell State.station
  rw [h]

theorem spanLostNotice_of_straps (h : u.straps = s.straps) : spanLostNotice u = spanLostNotice s := by
  unfold spanLostNotice State.station
  rw [h]

theorem chainEnds_of_gw (h : u.gw = s.gw) (calls : List SrtEntry) : chainEnds u calls = chainEnds s calls := by
  unfold chainEnds findChannel
  rw [h]

theorem SideLeft.isGateway (h : SideLeft s p v u) : u.isGateway = s.isGateway :=
  congrArg (fun k => roleIsGateway (strapRole k)) (h.within .straps (by decide))

/-- R98: the PATH calls of a node's lost side. -/
theorem pathCalls_down (h : SideLeft s p v u) (hgw : s.isGateway = false) :
    pathCallsBroken s (downEnded w (circuitsPortDown u (s.sideOf p)) (s.sideOf p)) (s.sideOf p) := by
  unfold pathCallsBroken
  intro b lost hall
  have hlines : u.lines = s.lines := h.within .lines (by decide)
  have hccu : u.ccu = s.ccu := h.within .ccu (by decide)
  have htable (a : Side) : u.table a = s.table a := table_of_within h.within (by decide) a
  have hpaths : PathsBroken u (s.sideOf p) (callsOf (s.table (s.sideOf p))) (circuitsPortDown u (s.sideOf p)) := by
    rw [← htable]
    refine pathsBroken_portDown (h.isGateway.trans hgw) (fun e he => ?_)
    rcases hall e (by rw [← htable]; exact he) with hpath | ⟨hinvalid, r, hown⟩
    · exact .inl hpath
    · exact .inr ⟨by rw [h.entry]; exact hinvalid, r, ownCall_of_lines hlines hown⟩
  have hdown := within_downEnded w (circuitsPortDown u (s.sideOf p)) (s.sideOf p)
  have hcounts : (downEnded w (circuitsPortDown u (s.sideOf p)) (s.sideOf p)).ccu
      = (circuitsPortDown u (s.sideOf p)).ccu := hdown .ccu (by decide)
  have hinvalid : ((circuitsPortDown u (s.sideOf p)).entry (s.sideOf p)).valid = false := by
    rw [hpaths.work.entries]
    exact h.invalid
  have hempty : ((circuitsPortDown u (s.sideOf p)).side (s.sideOf p)).insToll = [] := by
    rw [hpaths.work.absent _ h.gone, h.empty]
    rfl
  have hcalls : ((downEnded w (circuitsPortDown u (s.sideOf p)) (s.sideOf p)).side b).insCall
      = ((circuitsPortDown u (s.sideOf p)).side b).insCall := by
    rw [downEnded, ended_side, side_of_within (within_gatewayPortDown _) (by decide)]
    exact ((custodyPortDown_leaves hempty hinvalid).2.1 b).insCall
  have hstraps := spanLostCell_of_straps (h.within .straps (by decide) : u.straps = s.straps)
  refine ⟨?_, ?_, fun hin hroom hfree => ?_, fun habsent => ?_, fun e he r hown => ?_⟩
  · rw [hcounts, ← hccu]
    exact hpaths.broken
  · rw [table_of_within hdown (by decide), ← htable]
    exact hpaths.other
  · have hqueued := hpaths.queued (h.service.trans hin) (by rw [h.rest.insCall]; exact hroom)
      (Nat.le_trans hfree h.pool)
    rw [hcalls]
    rw [h.rest.insCall, hstraps] at hqueued
    exact hqueued
  · rw [hcounts, ← hccu]
    exact hpaths.refused (h.service.trans habsent)
  · rw [line_of_within hdown (by decide)]
    exact hpaths.waiting e he r (ownCall_of_lines hlines hown)

theorem takesLocal_mono {k : Class} (hservice : t.inService d = s.inService d)
    (hqueue : insQueue (t.side d) k = insQueue (s.side d) k) (hpool : s.poolFree ≤ t.poolFree)
    (h : takesLocal s d k = true) : takesLocal t d k = true := by
  simp only [takesLocal, Bool.and_eq_true, decide_eq_true_eq] at h ⊢
  obtain ⟨⟨hin, hroom⟩, hfloor⟩ := h
  exact ⟨⟨hservice.trans hin, by rw [hqueue]; exact hroom⟩, Nat.le_trans hfloor hpool⟩

/-- R85, R86, R98: the own call of a node's lost side. -/
theorem ownCall_down (h : SideLeft s p v u) (hgw : s.isGateway = false) :
    ownCallGoesTheOtherWay s (downEnded w (circuitsPortDown u (s.sideOf p)) (s.sideOf p)) (s.sideOf p) := by
  unfold ownCallGoesTheOtherWay
  intro b e r hone hown hvalid hroom htakes l id
  have hlines : u.lines = s.lines := h.within .lines (by decide)
  have hstraps : u.straps = s.straps := h.within .straps (by decide)
  have htable (a : Side) : u.table a = s.table a := table_of_within h.within (by decide) a
  obtain ⟨hplace, hrecord, hactive, hd, hid⟩ := ownCall_of_lines hlines hown
  have hbroken : circuitsPortDown u (s.sideOf p)
      = recordBroken (releaseEntry u (s.sideOf p) e.identity) e.identity.phone := by
    have hnamed : namesCall [e] e.identity = true := List.any_eq_true.2 ⟨e, List.mem_singleton.2 rfl, beq_self_eq_true _⟩
    rw [circuitsPortDown, htable, hone, List.foldl_cons, List.foldl_nil, breakHeld, htable, hone, if_pos hnamed]
    unfold breakEntry
    rw [hplace]
  have hline : (releaseEntry u (s.sideOf p) e.identity).line l = s.line l := by
    show u.line l = s.line l
    rw [State.line, hlines, State.line]
  have hnext : nextIdentity (releaseEntry u (s.sideOf p) e.identity) l = id := by
    rw [nextIdentity, hline, State.station, show (releaseEntry u (s.sideOf p) e.identity).straps = s.straps from hstraps]
    rfl
  have hstation : (releaseEntry u (s.sideOf p) e.identity).station = s.station := congrArg strapStation hstraps
  have hgateway : (releaseEntry u (s.sideOf p) e.identity).isGateway = false := h.isGateway.trans hgw
  have hother : (releaseEntry u (s.sideOf p) e.identity).table b = s.table b := by
    rw [releaseEntry_table, if_neg (otherSide_ne _), htable]
  have hentry : (releaseEntry u (s.sideOf p) e.identity).entry b = s.entry b := h.entry
  have htaken : takesLocal (releaseEntry u (s.sideOf p) e.identity) b .call = true := by
    rw [(room_releaseEntry u (s.sideOf p) e.identity).takesLocal]
    exact takesLocal_mono h.service h.rest.insCall h.pool htakes
  obtain ⟨hsought, _, hreserved, hsetup, _⟩ := recordBroken_seeks (s := releaseEntry u (s.sideOf p) e.identity)
    (l := e.identity.phone) (r := r) (d := s.sideOf p) (id := e.identity) hgateway hrecord hactive hd hid
    (by rw [hentry]; exact hvalid) (by rw [hother]; exact hroom) htaken
  rw [← hbroken] at hsought hreserved hsetup
  rw [hnext] at hsought hreserved hsetup
  have hwork := circuitWork_portDown u (s.sideOf p)
  have hdown := within_downEnded w (circuitsPortDown u (s.sideOf p)) (s.sideOf p)
  have hinvalid : ((circuitsPortDown u (s.sideOf p)).entry (s.sideOf p)).valid = false := by
    rw [hwork.entries]
    exact h.invalid
  have hempty : ((circuitsPortDown u (s.sideOf p)).side (s.sideOf p)).insToll = [] := by
    rw [hwork.absent _ h.gone, h.empty]
    rfl
  refine ⟨?_, ?_, ?_, ?_, ?_⟩
  · rw [line_of_within hdown (by decide)]
    exact congrArg PhoneLine.record hsought
  · rw [line_of_within hdown (by decide)]
    exact congrArg PhoneLine.state hsought
  · rw [line_of_within hdown (by decide)]
    exact congrArg PhoneLine.playing hsought
  · rw [table_of_within hdown (by decide)]
    exact hreserved.trans (by rw [hother])
  · rw [downEnded, ended_side, side_of_within (within_gatewayPortDown _) (by decide),
      ((custodyPortDown_leaves hempty hinvalid).2.1 b).insCall]
    refine hsetup.trans ?_
    rw [hstation]
    exact congrArg (fun q => q ++ _) h.rest.insCall

/-- R98, R183: the CHAIN calls of a gateway's lost side. -/
theorem chainCalls_down (h : SideLeft s p v u) :
    chainCallsEnded s (downEnded w (circuitsPortDown u (s.sideOf p)) (s.sideOf p)) (s.sideOf p) := by
  unfold chainCallsEnded
  intro ends hall
  have hgw : u.gw = s.gw := h.within .gw (by decide)
  have htable (a : Side) : u.table a = s.table a := table_of_within h.within (by decide) a
  have hchains : ChainsEnded u (s.sideOf p) (callsOf (s.table (s.sideOf p))) (circuitsPortDown u (s.sideOf p)) := by
    rw [← htable]
    exact chainsEnded_portDown (fun e he => hall e (by rw [← htable]; exact he))
  have hends : chainEnds u (callsOf (s.table (s.sideOf p))) = ends := chainEnds_of_gw hgw _
  have hnotice := spanLostNotice_of_straps (h.within .straps (by decide) : u.straps = s.straps)
  have hdown := downEnded_gw w (circuitsPortDown u (s.sideOf p)) (s.sideOf p)
  obtain ⟨_, _, hchannels, hpassed, hlost, _⟩ := hchains
  rw [hends, hgw] at hchannels hpassed hlost
  refine ⟨?_, fun hroom hfree => ?_, fun hfull => ?_⟩
  · rw [hdown]
    exact hchannels
  · rw [hdown]
    have hoffice := hpassed hroom (Nat.le_trans hfree h.pool)
    rw [hnotice] at hoffice
    exact hoffice
  · rw [hdown]
    exact hlost hfull

/-! ## PORT-DOWN (R34) -/

theorem flushCount_eq (x : Tiu) (z : Option Sending) : flushCount x z = flushedCells x z := by
  unfold flushCount flushedCells tiuHeld
  omega

theorem sideLeft_circuits (h : SideLeft s p v u) (hout : inServiceState v.state = false) :
    (circuitsPortDown u (s.sideOf p)).port p = goneDown v := by
  rcases (Steady.circuitsPortDown (s := u) (s.sideOf p)).ports p with hsame | ⟨hdoze, _⟩
  · exact hsame.trans h.port
  · rw [h.port] at hdoze
    rw [show v.state = .doze from hdoze] at hout
    cases hout

/-- R34: a port that goes down is left as `v` has it, its cell in transmission flushed and PORT-DOWNS counted. -/
theorem portDown_port (hout : inServiceState v.state = false) :
    ∃ req retry, (ended w (portDown (s.setPort p v) p)).port p
      = { goneDown v with slotDozeReq := req, dozeRetry := retry } := by
  have hleft := sideLeft_leaves (s := s) (p := p) hout
  have hport := sideLeft_circuits hleft hout
  obtain ⟨req, retry, heq⟩ := downEnded_port (w := w) (x := circuitsPortDown (sideLeft s p v) (s.sideOf p))
    (d := s.sideOf p) (p := p) (by rw [hport]; exact hout)
  rw [portDown_eq]
  rw [hport] at heq
  exact ⟨req, retry, heq⟩

/-- R34, R53, R56, R65, R98, R121, R175, R183: the consumers of PORT-DOWN let go of the side. -/
theorem tornDown_portDown (hsending : v.sending = (s.port p).sending)
    (hdowns : v.counts.portDowns = (s.port p).counts.portDowns) (hout : inServiceState v.state = false) :
    tornDown s (ended w (portDown (s.setPort p v) p)) p v.state := by
  have hleft := sideLeft_leaves (s := s) (p := p) hout
  obtain ⟨req, retry, hport⟩ := portDown_port (s := s) (w := w) (p := p) hout
  rw [portDown_eq] at hport ⊢
  generalize sideLeft s p v = u at hleft hport
  have hwork := circuitWork_portDown u (s.sideOf p)
  have hinvalid : ((circuitsPortDown u (s.sideOf p)).entry (s.sideOf p)).valid = false := by
    rw [hwork.entries]
    exact hleft.invalid
  have hflushed := (hwork.absent _ hleft.gone).trans hleft.empty
  have hempty : ((circuitsPortDown u (s.sideOf p)).side (s.sideOf p)).insToll = [] := by
    rw [hflushed]
    rfl
  have hgone : (circuitsPortDown u (s.sideOf p)).inService (s.sideOf p) = false := (hwork.service _).trans hleft.gone
  obtain ⟨_, htolls, habsent, htoward⟩ := custodyPortDown_leaves hempty hinvalid
  have htable := circuitsPortDown_table hleft.invalid
  have hstraps : (circuitsPortDown u (s.sideOf p)).straps = s.straps :=
    hwork.straps.trans (hleft.within .straps (by decide))
  have hside (a : Side) : (downEnded w (circuitsPortDown u (s.sideOf p)) (s.sideOf p)).side a
      = (custodyPortDown (circuitsPortDown u (s.sideOf p)) (s.sideOf p)).side a := by
    rw [downEnded, ended_side, side_of_within (within_gatewayPortDown _) (by decide)]
  have hdown := within_downEnded w (circuitsPortDown u (s.sideOf p)) (s.sideOf p)
  have hlost : (downEnded w (circuitsPortDown u (s.sideOf p)) (s.sideOf p)).side (s.sideOf p)
      = flushedTiu (s.side (s.sideOf p)) v.sending := (hside _).trans ((habsent _ hgone).trans hflushed)
  have hcalls : callsTornDown s (downEnded w (circuitsPortDown u (s.sideOf p)) (s.sideOf p)) (s.sideOf p) :=
    ⟨fun hgw => ⟨pathCalls_down hleft hgw, ownCall_down hleft hgw⟩, fun _ => chainCalls_down hleft⟩
  refine ⟨hcalls, ?_, fun hin => ?_, ?_, ?_, ?_, ?_, ?_, ?_, fun hfitted => ?_, fun hgw => ?_⟩
  · refine (congrArg (fun y : Tiu => y.counts.flushed) hlost).trans ?_
    rw [← flushCount_eq, ← hsending]
    rfl
  · have hreleased := holdReleased_tolls (holdReleased_calls (hleft.released hin) (hwork.side _)) (htolls _)
    rw [← hside] at hreleased
    exact hreleased
  · have hstate := congrArg PortUnit.state hport
    exact hstate
  · have hidle := congrArg PortUnit.sending hport
    exact hidle
  · refine (congrArg (fun y : PortUnit => y.counts.portDowns) hport).trans ?_
    rw [← hdowns]
    rfl
  · have hnone : tiuEmpty (flushedTiu (s.side (s.sideOf p)) v.sending) :=
      ⟨rfl, rfl, rfl, rfl, rfl, rfl, rfl, rfl, rfl, rfl, rfl⟩
    rw [← hlost] at hnone
    exact hnone
  · have hentry : (downEnded w (circuitsPortDown u (s.sideOf p)) (s.sideOf p)).entry (s.sideOf p)
        = (circuitsPortDown u (s.sideOf p)).entry (s.sideOf p) := entry_of_within hdown (by decide) _
    exact (congrArg ReachEntry.valid hentry).trans hinvalid
  · exact (table_of_within hdown (by decide) (s.sideOf p)).trans htable
  · have hstore := htoward (by rw [hstraps]; exact hfitted)
    have hcsd : (gatewayPortDown (custodyPortDown (circuitsPortDown u (s.sideOf p)) (s.sideOf p))).csd
        = (custodyPortDown (circuitsPortDown u (s.sideOf p)) (s.sideOf p)).csd :=
      within_gatewayPortDown _ .csd (by decide)
    rw [ended_csd, hcsd]
    exact hstore
  · have hgateway : (custodyPortDown (circuitsPortDown u (s.sideOf p)) (s.sideOf p)).isGateway = true := by
      rw [isGateway_of_within (within_custodyPortDown _ _) (by decide)]
      exact (congrArg (fun k => roleIsGateway (strapRole k)) hstraps).trans hgw
    exact gatewayPortDown_stops hgateway

end

end Sys2Proof.Machine
end

section
/-! PROOFS. O14: a side that leaves service. O16: a HELLO in service. -/

set_option Elab.async false

namespace Sys2Proof.Machine

section
variable {s : State} {p : Port} {v : PortUnit} {c : Instr}

/-- R34: a command that takes a port out of service tears its side down and leaves the port as `v` has it. -/
theorem tornDown_of_exec (hexec : exec c s = done s (portDown (s.setPort p v) p))
    (hsending : v.sending = (s.port p).sending) (hdowns : v.counts.portDowns = (s.port p).counts.portDowns)
    (hout : inServiceState v.state = false) :
    ∃ t req retry, exec c s = .next t ∧ tornDown s t p v.state
      ∧ t.port p = { goneDown v with slotDozeReq := req, dozeRetry := retry } := by
  obtain ⟨req, retry, hport⟩ := portDown_port (s := s) (w := s) (p := p) hout
  exact ⟨_, req, retry, exec_done c hexec, tornDown_portDown hsending hdowns hout, hport⟩

/-- R20: a port in service that loses lock goes to SEEK with PORT-DOWN. -/
theorem loseLock_of_service (h : inServiceState (s.port p).state = true) :
    loseLock s p = portDown (s.setPort p (enterSeekUnlocked
      { s.port p with counts := { (s.port p).counts with lockLosses := satInc (s.port p).counts.lockLosses } })) p := by
  unfold loseLock
  dsimp only
  cases hstate : (s.port p).state with
  | dark => rw [hstate] at h; cases h
  | seek => rw [hstate] at h; cases h
  | fault => rw [hstate] at h; cases h
  | up => rfl
  | doze => rfl
  | waking => rfl

theorem exec_lossDebounceExpiry_of_service (hfree : s.portFree p = true) (hin : inServiceState (s.port p).state = true)
    (hruns : (s.port p).lossDebounce.isSome = true) :
    exec (.lossDebounceExpiry p) s = done s (portDown (s.setPort p (enterDark
      { s.port p with counts := { (s.port p).counts with lightLosses := satInc (s.port p).counts.lightLosses } })) p) := by
  have htest : (s.portFree p && (s.port p).lossDebounce.isSome) = true := by
    rw [hfree, hruns]
    rfl
  have hexec : exec (.lossDebounceExpiry p) s = done s (lightLost s p) := if_pos htest
  rw [hexec, lightLost]
  dsimp only
  rw [if_pos hin]

theorem receives_of_lock (hfree : s.portFree p = true) (hlock : (s.port p).lock = true) : receives s p = true := by
  rw [receives, hfree, hlock]
  rfl

theorem exec_markerWatchExpiry_of_service (hreceives : receives s p = true) (hin : inServiceState (s.port p).state = true) :
    exec (.markerWatchExpiry p) s = done s (portDown (s.setPort p (enterSeekUnlocked
      { s.port p with counts := { (s.port p).counts with lockLosses := satInc (s.port p).counts.lockLosses } })) p) := by
  have hexec : exec (.markerWatchExpiry p) s = done s (loseLock s p) := if_pos hreceives
  rw [hexec, loseLock_of_service hin]

/-- R20: the port of a bad cell. -/
def badCellPort (u : PortUnit) : PortUnit :=
  { u with
    receive := none, badRun := u.badRun + 1, counts := { u.counts with checkErrors := satInc u.counts.checkErrors } }

theorem exec_badCheckCell_of_run (hreceives : receives s p = true) (hin : inServiceState (s.port p).state = true)
    (hrun : 7 ≤ (s.port p).badRun) :
    exec (.badCheckCell p) s = done s (portDown (s.setPort p (enterSeekUnlocked
      { badCellPort (s.port p) with
        counts := { (badCellPort (s.port p)).counts with lockLosses := satInc (s.port p).counts.lockLosses } })) p) := by
  have hexec : exec (.badCheckCell p) s = done s (badCell s p) := if_pos hreceives
  have hlost : badCell s p = loseLock (s.setPort p (badCellPort (s.port p))) p := if_pos (Nat.succ_le_succ hrun)
  have hport : (s.setPort p (badCellPort (s.port p))).port p = badCellPort (s.port p) := setPort_port s p _
  rw [hexec, hlost, loseLock_of_service (by rw [hport]; exact hin), setPort_setPort, hport]
  rfl

theorem exec_helloWatchExpiry_of_due (hfree : s.portFree p = true) (hin : inServiceState (s.port p).state = true)
    (hruns : (s.port p).helloWatch.isSome = true) :
    exec (.helloWatchExpiry p) s = done s (portDown (s.setPort p (enterSeekLocked s
      { s.port p with counts := { (s.port p).counts with helloTimeouts := satInc (s.port p).counts.helloTimeouts } })) p) := by
  have htest : (s.portFree p && inServiceState (s.port p).state && (s.port p).helloWatch.isSome) = true := by
    rw [hfree, hin, hruns]
    rfl
  exact if_pos htest

theorem exec_wakeTimerExpiry_of_due (hfree : s.portFree p = true) (hwaking : (s.port p).state = .waking)
    (hruns : (s.port p).wakeTimer.isSome = true) :
    exec (.wakeTimerExpiry p) s = done s (portDown (s.setPort p (enterSeekLocked s
      { s.port p with counts := { (s.port p).counts with wakeFailures := satInc (s.port p).counts.wakeFailures } })) p) := by
  have htest : (s.portFree p && (s.port p).state == .waking && (s.port p).wakeTimer.isSome) = true := by
    rw [hfree, hwaking, hruns]
    rfl
  exact if_pos htest

end

/-- Settles O14: each of the five commands is PORT-DOWN of the port it leaves out of service. -/
theorem lossOfServiceTearsDownTheSide : Obligations.LossOfServiceTearsDownTheSide := by
  intro p s hfree hin
  refine ⟨fun hruns => ?dark, fun hlock => ?marker, fun hlock hrun => ?bad, fun hruns => ?watch, fun hwaking hruns => ?wake⟩
  case dark =>
    obtain ⟨t, req, retry, hexec, htorn, hport⟩ :=
      tornDown_of_exec (exec_lossDebounceExpiry_of_service hfree hin hruns) rfl rfl rfl
    have hneighbour := congrArg PortUnit.neighbour hport
    have hcount := congrArg (fun u : PortUnit => u.counts.lightLosses) hport
    exact ⟨t, hexec, htorn, hneighbour, hcount⟩
  case marker =>
    obtain ⟨t, req, retry, hexec, htorn, hport⟩ :=
      tornDown_of_exec (exec_markerWatchExpiry_of_service (receives_of_lock hfree hlock) hin) rfl rfl rfl
    have hunlocked := congrArg PortUnit.lock hport
    have hcount := congrArg (fun u : PortUnit => u.counts.lockLosses) hport
    exact ⟨t, hexec, htorn, hunlocked, hcount⟩
  case bad =>
    obtain ⟨t, req, retry, hexec, htorn, hport⟩ :=
      tornDown_of_exec (exec_badCheckCell_of_run (receives_of_lock hfree hlock) hin hrun) rfl rfl rfl
    have hunlocked := congrArg PortUnit.lock hport
    have hcount := congrArg (fun u : PortUnit => u.counts.checkErrors) hport
    exact ⟨t, hexec, htorn, hunlocked, hcount⟩
  case watch =>
    obtain ⟨t, req, retry, hexec, htorn, hport⟩ :=
      tornDown_of_exec (exec_helloWatchExpiry_of_due hfree hin hruns) rfl rfl rfl
    have hneighbour := congrArg PortUnit.neighbour hport
    have hlock := congrArg PortUnit.lock hport
    have hcount := congrArg (fun u : PortUnit => u.counts.helloTimeouts) hport
    exact ⟨t, hexec, htorn, hneighbour, hlock, hcount⟩
  case wake =>
    obtain ⟨t, req, retry, hexec, htorn, hport⟩ :=
      tornDown_of_exec (exec_wakeTimerExpiry_of_due hfree hwaking hruns) rfl rfl rfl
    have hlock := congrArg PortUnit.lock hport
    have hcount := congrArg (fun u : PortUnit => u.counts.wakeFailures) hport
    exact ⟨t, hexec, htorn, hlock, hcount⟩

end Sys2Proof.Machine
end

section
/-! PROOFS. A HELLO in service (O16). -/

set_option Elab.async false

namespace Sys2Proof.Machine

section
variable {s w x : State} {p : Port} {v : PortUnit} {c : CellData} {r : Role} {n : Neighbour}

/-! ## The state a side that has left service is in -/

/-- R34: what PORT-DOWN leaves of the port it takes out of service. -/
theorem portDown_keeps (hout : inServiceState v.state = false) :
    ((portDown (s.setPort p v) p).port p).state = v.state
      ∧ ((portDown (s.setPort p v) p).port p).neighbour = v.neighbour
      ∧ ((portDown (s.setPort p v) p).port p).counts = (goneDown v).counts := by
  obtain ⟨req, retry, hport⟩ := portDown_port (s := s) (w := s) (p := p) hout
  rw [ended_port_fields] at hport
  have hstate := congrArg PortUnit.state hport
  have hneighbour := congrArg PortUnit.neighbour hport
  have hcounts := congrArg PortUnit.counts hport
  exact ⟨hstate, hneighbour, hcounts⟩

/-- R65, R98: the lost side has no call in its table and no VALID entry. -/
theorem portDown_empty (hsending : v.sending = (s.port p).sending)
    (hdowns : v.counts.portDowns = (s.port p).counts.portDowns) (hout : inServiceState v.state = false) :
    (portDown (s.setPort p v) p).table (s.sideOf p) = []
      ∧ ((portDown (s.setPort p v) p).entry (s.sideOf p)).valid = false := by
  obtain ⟨_, _, _, _, _, _, _, hinvalid, htable, _⟩ := tornDown_portDown (w := s) hsending hdowns hout
  exact ⟨htable, hinvalid⟩

theorem heardUs_of_straps (h : x.straps = s.straps) : heardUs x c = heardUs s c := by
  rw [heardUs, State.station, h, heardUs, State.station]

/-! ## The HELLO that follows in SEEK (R25) -/

theorem within_seekHello (s : State) (p : Port) (c : CellData) (n : Neighbour) :
    Within (.gw :: dispatchParts) s (seekHello s p c n) := by
  unfold seekHello
  dsimp only
  split
  · exact (within_setPort s p _).seq (parts := .gw :: dispatchParts) (within_portUp true _ p)
  · exact (within_setPort s p _).widen

/-- R25: a neighbour taken where none was recorded is no change. -/
theorem recordNeighbour_of_none {u : PortUnit} (h : u.neighbour = none) :
    recordNeighbour u n = { u with neighbour := some n } := by
  rw [recordNeighbour, h]

/-- R25: a port in SEEK with no neighbour of record takes the one the HELLO names, and goes UP where it was heard. -/
theorem seekHello_port (hseek : (s.port p).state = .seek) (hnone : (s.port p).neighbour = none) :
    ((seekHello s p c n).port p).state = (if heardUs s c = true then .up else .seek)
      ∧ ((seekHello s p c n).port p).neighbour = some n
      ∧ ((seekHello s p c n).port p).counts.portDowns = (s.port p).counts.portDowns
      ∧ ((seekHello s p c n).port p).counts.neighbourChanges = (s.port p).counts.neighbourChanges := by
  unfold seekHello
  dsimp only
  rw [recordNeighbour_of_none hnone]
  split
  · rw [portUp_port true (by rw [setPort_port]; rfl), setPort_port]
    exact ⟨rfl, rfl, rfl, rfl⟩
  · rw [setPort_port]
    exact ⟨hseek, rfl, rfl, rfl⟩

/-! ## The HELLO in service (R24, R26) -/

theorem exec_hello_taken (htaken : cellTaken s p (cellOf .hello c) = true) (hrole : roleOfCode? (payloadByte c 0) = some r) :
    exec (.hello p c) s = done s (checkedHello (takeIn s p) p c r) := by
  obtain ⟨hreceives, hgood, hin⟩ := receives_of_taken htaken
  rw [exec_hello_of_service c hreceives hgood hin, takeHello_of_role hrole]

theorem takeIn_inService (hin : inServiceState (s.port p).state = true) :
    inServiceState ((takeIn s p).port p).state = true := by
  rw [takeIn_port]
  exact hin

theorem takeIn_sending : ((takeIn s p).port p).sending = (s.port p).sending := by rw [takeIn_port]

theorem takeIn_portDowns : ((takeIn s p).port p).counts.portDowns = (s.port p).counts.portDowns := by rw [takeIn_port]

theorem takeIn_neighbourChanges :
    ((takeIn s p).port p).counts.neighbourChanges = (s.port p).counts.neighbourChanges := by rw [takeIn_port]

/-- R24: a HELLO that does not fit takes a side in service to FAULT with PORT-DOWN. -/
theorem checkedHello_fault {f : PortFault} (hin : inServiceState (s.port p).state = true)
    (hcheck : sideCheck s (s.sideOf p) c.origin r = some f) :
    checkedHello (takeIn s p) p c r
      = portDown (s.setPort p (enterFault ((takeIn s p).port p) ⟨c.origin, r⟩ f)) p := by
  have hcheck' : sideCheck (takeIn s p) ((takeIn s p).sideOf p) c.origin r = some f := hcheck
  unfold checkedHello
  dsimp only
  rw [hcheck']
  dsimp only
  rw [if_pos (takeIn_inService hin), takeIn_setPort]

theorem checkedHello_service (hin : inServiceState (s.port p).state = true)
    (hcheck : sideCheck s (s.sideOf p) c.origin r = none) :
    checkedHello (takeIn s p) p c r = serviceHello (takeIn s p) p c ⟨c.origin, r⟩ := by
  have hcheck' : sideCheck (takeIn s p) ((takeIn s p).sideOf p) c.origin r = none := hcheck
  unfold checkedHello
  dsimp only
  rw [hcheck']
  dsimp only
  rw [if_pos (takeIn_inService hin)]

/-- R26: the port of a side whose HELLO was from another neighbour or did not name this station. -/
def changedPort (s : State) (u : PortUnit) : PortUnit :=
  enterSeekLocked s { u with counts := { u.counts with neighbourChanges := satInc u.counts.neighbourChanges } }

theorem serviceHello_keeps (hsame : (s.port p).neighbour = some n) (hheard : heardUs s c = true) :
    serviceHello s p c n = s.setPort p { s.port p with helloWatch := some 3000 } := if_pos ⟨hsame, hheard⟩

theorem serviceHello_drops (h : ¬ ((s.port p).neighbour = some n ∧ heardUs s c = true)) :
    serviceHello s p c n = seekHello (portDown (s.setPort p (changedPort s (s.port p))) p) p c n := if_neg h

/-- R24: a HELLO that does not fit. -/
theorem exec_hello_misfit {f : PortFault} (htaken : cellTaken s p (cellOf .hello c) = true)
    (hrole : roleOfCode? (payloadByte c 0) = some r) (hcheck : sideCheck s (s.sideOf p) c.origin r = some f) :
    ∃ t, exec (.hello p c) s = .next t ∧ tornDown s t p .fault ∧ (t.port p).faultReason = some f := by
  obtain ⟨_, _, hin⟩ := receives_of_taken htaken
  have hexec := exec_hello_taken htaken hrole
  rw [checkedHello_fault hin hcheck] at hexec
  obtain ⟨t, _, _, hnext, htorn, hport⟩ := tornDown_of_exec hexec takeIn_sending takeIn_portDowns rfl
  have hreason := congrArg PortUnit.faultReason hport
  exact ⟨t, hnext, htorn, hreason⟩

/-- R26: a HELLO of the neighbour of record that hears this station restarts the watch. -/
theorem exec_hello_keeps (htaken : cellTaken s p (cellOf .hello c) = true)
    (hrole : roleOfCode? (payloadByte c 0) = some r) (hcheck : sideCheck s (s.sideOf p) c.origin r = none)
    (hsame : (s.port p).neighbour = some ⟨c.origin, r⟩) (hheard : heardUs s c = true) :
    exec (.hello p c) s
      = .next { s.setPort p
          { s.port p with
            receive := none, badRun := 0, helloWatch := some 3000
            counts := { (s.port p).counts with cellsIn := satInc (s.port p).counts.cellsIn } } with inHand := 0 } := by
  obtain ⟨_, _, hin⟩ := receives_of_taken htaken
  have hsame' : ((takeIn s p).port p).neighbour = some ⟨c.origin, r⟩ := by
    rw [takeIn_port]
    exact hsame
  rw [exec_hello_taken htaken hrole, checkedHello_service hin hcheck, serviceHello_keeps hsame' hheard, takeIn_setPort,
    takeIn_port]
  exact done_setPort p (fun hup hidle => ⟨hup, hidle⟩)

/-- R25, R34: a HELLO in SEEK on a side just lost leaves the lost side empty. -/
theorem seekHello_lost (hsending : v.sending = (s.port p).sending)
    (hdowns : v.counts.portDowns = (s.port p).counts.portDowns) (hseek : v.state = .seek) (hnone : v.neighbour = none)
    (hx : portDown (s.setPort p v) p = x) :
    ((seekHello x p c n).port p).state = (if heardUs s c = true then .up else .seek)
      ∧ ((seekHello x p c n).port p).neighbour = some n
      ∧ ((seekHello x p c n).port p).counts.portDowns = satInc (s.port p).counts.portDowns
      ∧ ((seekHello x p c n).port p).counts.neighbourChanges = v.counts.neighbourChanges
      ∧ (seekHello x p c n).table (s.sideOf p) = [] ∧ ((seekHello x p c n).entry (s.sideOf p)).valid = false := by
  have hout : inServiceState v.state = false := by rw [hseek]; rfl
  obtain ⟨hstate, hneighbour, hcounts⟩ := portDown_keeps (s := s) (p := p) hout
  obtain ⟨htable, hinvalid⟩ := portDown_empty hsending hdowns hout
  have hstraps : (portDown (s.setPort p v) p).straps = s.straps := within_portDown (s.setPort p v) p .straps (by decide)
  rw [hx] at hstate hneighbour hcounts htable hinvalid hstraps
  obtain ⟨hup, hrecord, hdown, hchange⟩ := seekHello_port (c := c) (n := n) (hstate.trans hseek) (hneighbour.trans hnone)
  rw [heardUs_of_straps hstraps] at hup
  rw [hcounts] at hdown hchange
  have hwithin := within_seekHello x p c n
  refine ⟨hup, hrecord, hdown.trans (congrArg satInc hdowns), hchange, ?_, ?_⟩
  · exact (table_of_within hwithin (by decide) _).trans htable
  · exact (congrArg ReachEntry.valid (entry_of_within hwithin (by decide) _)).trans hinvalid

/-- R26: another neighbour, or one that does not hear this station, takes the side down; the HELLO is then one in SEEK. -/
theorem exec_hello_drops (htaken : cellTaken s p (cellOf .hello c) = true)
    (hrole : roleOfCode? (payloadByte c 0) = some r) (hcheck : sideCheck s (s.sideOf p) c.origin r = none)
    (hother : ¬ ((s.port p).neighbour = some ⟨c.origin, r⟩ ∧ heardUs s c = true)) :
    ∃ t, exec (.hello p c) s = .next t
      ∧ (t.port p).state = (if heardUs s c = true then .up else .seek)
      ∧ (t.port p).neighbour = some ⟨c.origin, r⟩
      ∧ (t.port p).counts.portDowns = satInc (s.port p).counts.portDowns
      ∧ (t.port p).counts.neighbourChanges = satInc (s.port p).counts.neighbourChanges
      ∧ t.table (s.sideOf p) = [] ∧ (t.entry (s.sideOf p)).valid = false := by
  obtain ⟨_, _, hin⟩ := receives_of_taken htaken
  have hother' : ¬ (((takeIn s p).port p).neighbour = some ⟨c.origin, r⟩ ∧ heardUs (takeIn s p) c = true) := by
    rw [takeIn_port]
    exact hother
  have hsending : (changedPort (takeIn s p) ((takeIn s p).port p)).sending = (s.port p).sending := takeIn_sending
  have hdowns : (changedPort (takeIn s p) ((takeIn s p).port p)).counts.portDowns = (s.port p).counts.portDowns :=
    takeIn_portDowns
  have hchanges : (changedPort (takeIn s p) ((takeIn s p).port p)).counts.neighbourChanges
      = satInc (s.port p).counts.neighbourChanges := congrArg satInc takeIn_neighbourChanges
  have hseek : (changedPort (takeIn s p) ((takeIn s p).port p)).state = .seek := rfl
  have hnone : (changedPort (takeIn s p) ((takeIn s p).port p)).neighbour = none := rfl
  have hexec := exec_hello_taken htaken hrole
  rw [checkedHello_service hin hcheck, serviceHello_drops hother', takeIn_setPort] at hexec
  generalize changedPort (takeIn s p) ((takeIn s p).port p) = v at hexec hsending hdowns hchanges hseek hnone
  generalize hx : portDown (s.setPort p v) p = x at hexec
  obtain ⟨hstate, hrecord, hdown, hchange, hempty⟩ :=
    seekHello_lost (c := c) (n := ⟨c.origin, r⟩) hsending hdowns hseek hnone hx
  generalize seekHello x p c ⟨c.origin, r⟩ = y at hexec hstate hrecord hdown hchange hempty
  refine ⟨_, exec_done _ hexec, ?_⟩
  rw [ended_port_fields]
  exact ⟨hstate, hrecord, hdown, hchange.trans hchanges, hempty⟩

theorem heardUs_iff : heardUs s c = true ↔ payloadByte c 1 = s.station := by
  rw [heardUs, beq_iff_eq]

end

/-- Settles O16: the side check decides first, then whether the neighbour of record hears this station. -/
theorem helloInServiceKeepsOrDropsTheSide : Obligations.HelloInServiceKeepsOrDropsTheSide := by
  intro p c r s htaken hrole
  refine ⟨fun hne hfits => ⟨fun hsame hheard => ?keeps, fun hother => ?drops⟩, fun hmisfit => ?fault⟩
  case keeps => exact exec_hello_keeps htaken hrole (sideCheck_of_fits hne hfits) hsame (heardUs_iff.mpr hheard)
  case drops =>
    have hdrops := exec_hello_drops htaken hrole (sideCheck_of_fits hne hfits)
    simp only [heardUs_iff] at hdrops
    exact hdrops (Classical.not_and_iff_not_or_not.mpr hother)
  case fault =>
    by_cases hown : c.origin = s.station
    · rw [if_pos hown]
      exact exec_hello_misfit htaken hrole (sideCheck_of_own hown)
    · rw [if_neg hown]
      exact exec_hello_misfit htaken hrole (sideCheck_of_misfit hown (hmisfit.resolve_left hown))

end Sys2Proof.Machine
end
